-- ==== Sys2Proof/Word.lean ====
section
/-! DEFINITION. The byte, and a fixed number of like things.

A `Bank n α` is the manual's "for each of n": heads, consoles, inputs, outputs, modules, table entries. It is a list
together with the proof of its length, so a bank of the wrong size cannot be built. -/

namespace Sys2Proof

/-- One byte on a link or in the image memory. -/
abbrev Byte := BitVec 8

/-- Exactly `n` things, numbered from 0. -/
structure Bank (n : Nat) (α : Type) where
  items : List α
  size : items.length = n
deriving DecidableEq, Repr

/-- The thing numbered `i`. -/
def Bank.get {n : Nat} {α : Type} (b : Bank n α) (i : Fin n) : α := b.items[i.val]'(by rw [b.size]; exact i.isLt)

/-- The bank with thing `i` replaced. -/
def Bank.set {n : Nat} {α : Type} (b : Bank n α) (i : Fin n) (a : α) : Bank n α :=
  ⟨b.items.set i.val a, by rw [List.length_set, b.size]⟩

/-- The bank whose thing `i` is `f i`. -/
def Bank.ofFn {n : Nat} {α : Type} (f : Fin n → α) : Bank n α := ⟨List.ofFn f, List.length_ofFn⟩

/-- The bank of `n` equal things. -/
def Bank.fill (n : Nat) {α : Type} (a : α) : Bank n α := ⟨List.replicate n a, List.length_replicate⟩

/-- Thing `i` changed by `f`. -/
def Bank.modify {n : Nat} {α : Type} (b : Bank n α) (i : Fin n) (f : α → α) : Bank n α := b.set i (f (b.get i))

/-- Every thing changed by `f`. -/
def Bank.map {n : Nat} {α β : Type} (b : Bank n α) (f : α → β) : Bank n β :=
  ⟨b.items.map f, by rw [List.length_map, b.size]⟩

end Sys2Proof
end

