-- ==== Sys2Proof/Syntax.lean ====
section
/-! DEFINITION. The commands of the 7140: one constructor for each row of spec/opcode_table.json.

A command that stands for a frame received carries the frame's tag, where the part reads it (R171), and the bytes of
its payload; the payloads' layouts are those of Chapter 11, read in Machine/Operands.lean. -/

namespace Sys2Proof

/-- The eleven links, each with its own receiver (R161). -/
inductive Link where
  | control
  | head (h : Fin 4)
  | console (c : Fin 4)
  | sawBus
  | log
deriving DecidableEq, Repr

/-- The commands: requests, frames and events of spec/opcode_table.json. -/
inductive Instr where
  | powerOn (strap0 strap1 : Bool) (pins : Byte)
  | chainForwardCount
  | chainReverseCount
  | stopTimerExpiry
  | inputRawChange (i : Fin 8) (high : Bool)
  | filterTimerExpiry (i : Fin 8)
  | segment (h : Fin 4) (kind : Byte) (payload : List Byte)
  | solveStart
  | solveComplete
  | writePattern
  | state (payload : List Byte)
  | ack (payload : List Byte)
  | retry (payload : List Byte)
  | fault (payload : List Byte)
  | replyTimeout
  | subscribe (c : Fin 4) (frameTag : Byte) (payload : List Byte)
  | unsubscribe (c : Fin 4) (frameTag : Byte) (payload : List Byte)
  | claim (c : Fin 4) (frameTag : Byte) (payload : List Byte)
  | release (c : Fin 4) (frameTag : Byte) (payload : List Byte)
  | mark (c : Fin 4) (frameTag : Byte) (payload : List Byte)
  | forceGrade (c : Fin 4) (frameTag : Byte) (payload : List Byte)
  | forceLength (c : Fin 4) (frameTag : Byte) (payload : List Byte)
  | forceScrap (c : Fin 4) (frameTag : Byte) (payload : List Byte)
  | clearOverrides (c : Fin 4) (frameTag : Byte) (payload : List Byte)
  | consoleQueueSend (c : Fin 4)
  | logStart (payload : List Byte)
  | slice (payload : List Byte)
  | logEnd (payload : List Byte)
  | logForwardCount
  | logReverseCount
  | pulseTimerExpiry (o : Fin 8)
  | beaconPhaseChange (o : Fin 8)
  | outputForce (frameTag : Byte) (payload : List Byte)
  | outputRelease (frameTag : Byte) (payload : List Byte)
  | tableRead (frameTag : Byte) (payload : List Byte)
  | tableWrite (frameTag : Byte) (payload : List Byte)
  | heldWriteApplied
  | imageLoad (frameTag : Byte) (payload : List Byte)
  | imageReadTimeout
  | imageLoadEnd
  | imageSave (frameTag : Byte) (payload : List Byte)
  | pageWriteComplete
  | pageWriteTimeout
  | openRun (frameTag : Byte) (payload : List Byte)
  | boardCutover (frameTag : Byte) (payload : List Byte)
  | runRelease (frameTag : Byte) (payload : List Byte)
  | tallyRead (frameTag : Byte) (payload : List Byte)
  | identify (frameTag : Byte) (payload : List Byte)
  | status (frameTag : Byte) (payload : List Byte)
  | pieceQuery (frameTag : Byte) (payload : List Byte)
  | causes (frameTag : Byte) (payload : List Byte)
  | clearCauses (frameTag : Byte) (payload : List Byte)
  | alertMask (frameTag : Byte) (payload : List Byte)
  | controlLinkSend
  | lineClear (frameTag : Byte) (payload : List Byte)
  | restart (frameTag : Byte) (payload : List Byte)
  | restartAnnounced
  | badFrame (link : Link) (bytes : List Byte)
  | frameByteTimeout (link : Link) (bytes : List Byte)
  | headLinkSend (h : Fin 4)
  | requestBadKind (kind frameTag : Byte) (payload : List Byte)
  | consoleFrameBadKind (c : Fin 4) (kind frameTag : Byte) (payload : List Byte)
  | logFrameDiscard (kind : Byte) (payload : List Byte)
  | busFrameDiscarded (kind : Byte) (payload : List Byte)
deriving DecidableEq, Repr

end Sys2Proof
end

