-- ==== Sys2Proof/Config.lean ====
section
/-! DEFINITION. What this part fixes, and the free values: what the manual leaves open while the part goes on. -/

namespace Sys2Proof.Config

/-- The part number IDENTIFY answers (R166). -/
def partNumber : Nat := 7140

/-- The device revision of this part (R166). -/
def revision : Nat := 1

/-- The image format number read and written (R166, section 4.8). -/
def imageFormat : Nat := 1

/-- The greatest count of every 16-bit count that stops (R35, R57, R80, R108, R118, R161, R167). -/
def countMax : Nat := 65535

/-- The greatest value of a tally counter (R146). -/
def tallyMax : Nat := 4294967295

/-- Records of the run table (section 8.1). -/
def runRecords : Nat := 16

/-- Places of the report queue (R167). -/
def reportPlaces : Nat := 64

/-- Waiting replies at which a request frame is discarded (R80, R164). -/
def replyPlaces : Nat := 8

/-- PROPOSAL and WITHDRAW frames one console queue holds (R80). -/
def offerPlaces : Nat := 32

/-- Places of the log queue (section 7.5). -/
def logPlaces : Nat := 8

/-- Claims a console may hold (R86). -/
def claimLimit : Nat := 2

/-- Marks an override record may hold (R85). -/
def markLimit : Nat := 4

/-- FREE VALUE (notes/assumptions/8.md). Byte `i` of a page whose write did not complete, as the `n`-th such page:
R76 says that it "may leave page 0 as it was, half written or as written" and fixes no byte. -/
opaque tornByte (n i : Nat) : Byte

end Sys2Proof.Config
end

