-- ==== Sys2Proof/Machine/Frames.lean ====
section
/-! DEFINITION. The frame of every link (section 10.1, R161, R171): fields high byte first, the CRC-16, the bytes on the
wire, and how a receiver judges the bytes it has taken. -/

namespace Sys2Proof.Machine

/-- A frame without its sync, length and CRC: the reply, report or line frame that goes on a wire. -/
structure Frame where
  kind : Byte
  tag : Byte
  payload : List Byte
deriving DecidableEq, Repr

/-! ## Fields (R171: every multi-byte field is sent high byte first; a yes-or-no field is one byte) -/

/-- A one-byte field. -/
def u8 (n : Nat) : Byte := BitVec.ofNat 8 n

/-- A two-byte field. -/
def u16 (n : Nat) : List Byte := [u8 (n / 256), u8 n]

/-- A four-byte field. -/
def u32 (n : Nat) : List Byte := u16 (n / 65536) ++ u16 n

/-- An eight-byte field. -/
def u64 (n : Nat) : List Byte := u32 (n / 4294967296) ++ u32 n

/-- A yes-or-no field, a flag or a mark. -/
def yesNo (b : Bool) : Byte := if b then 1 else 0

/-- The number in two received bytes, high byte first. -/
def word (hi lo : Byte) : Nat := hi.toNat * 256 + lo.toNat

/-- A received yes-or-no field: 0 no, 1 yes, and any other value is outside the field's range (R171). -/
def readYesNo (b : Byte) : Option Bool :=
  if b = 0 then some false else if b = 1 then some true else none

/-- The byte whose bit `i` is member `i` of a set of at most eight (R171: bit 0 is the least significant). -/
def packBits : List Bool → Nat
  | [] => 0
  | b :: bs => (if b then 1 else 0) + 2 * packBits bs

/-- An item that can be absent: a presence byte, then the item, or as many bytes of 0 (R172). -/
def presence {α : Type} (width : Nat) (item : Option α) (bytes : α → List Byte) : List Byte :=
  match item with
  | some a => 1 :: bytes a
  | none => 0 :: List.replicate width 0

/-! ## The CRC (R161: polynomial 0x1021, initial value 0xFFFF, most significant bit first, no reflection, no final
exclusive-or) -/

/-- One bit of the CRC division on a 16-bit remainder. -/
def crcBit (c : Nat) : Nat := if c.testBit 15 then ((c <<< 1) ^^^ 0x1021) % 65536 else c <<< 1

/-- One byte, its eight bits from the most significant. -/
def crcByte (c : Nat) (b : Byte) : Nat :=
  crcBit (crcBit (crcBit (crcBit (crcBit (crcBit (crcBit (crcBit (c ^^^ (b.toNat <<< 8)))))))))

/-- The CRC-16 of a list of bytes. -/
def crc16 (bytes : List Byte) : Nat := bytes.foldl crcByte 0xFFFF

/-! ## The wire -/

/-- The sync byte. -/
def syncByte : Byte := 0xC5

/-- The bytes of a frame that the CRC covers: length, kind, tag, payload. -/
def Frame.covered (f : Frame) : List Byte := u8 f.payload.length :: f.kind :: f.tag :: f.payload

/-- The whole frame as it goes on the wire (section 11.1). -/
def Frame.wire (f : Frame) : List Byte := syncByte :: (f.covered ++ u16 (crc16 f.covered))

/-- What a receiver makes of the bytes it holds from a sync byte on. -/
inductive Verdict where
  /-- The frame is not whole yet. -/
  | incomplete
  /-- The length byte is above 250 or the CRC does not match. -/
  | bad
  /-- The frame passes. -/
  | good
deriving DecidableEq, Repr

/-- The receiver's judgement of bytes that begin with a sync byte (R161). -/
def judgeBytes (bytes : List Byte) : Verdict :=
  match bytes with
  | _ :: len :: rest =>
    if 250 < len.toNat then .bad
    else
      let covered := rest.take (len.toNat + 2)
      match rest.drop (len.toNat + 2) with
      | hi :: lo :: _ => if word hi lo = crc16 (len :: covered) then .good else .bad
      | _ => .incomplete
  | _ => .incomplete

/-- Hunting: every byte that is not the sync byte is discarded, and a sync byte begins a frame (R161). -/
def hunt : List Byte → List Byte
  | [] => []
  | b :: bs => if b = syncByte then b :: bs else hunt bs

/-- The bytes that begin a frame: a sync byte first. -/
def beginsFrame (bytes : List Byte) : Bool := bytes.head? == some syncByte

end Sys2Proof.Machine
end

