-- ==== Sys2Proof/Machine/Tables.lean ====
section
/-! DEFINITION. The configuration tables (Chapter 4, section 1.6, section 2.1): their entries and their defaults. -/

namespace Sys2Proof.Machine

/-- The nine table kinds, in the order of section 4.1. -/
inductive TableKind where
  | geometry | heads | gradeSet | priceRow | product | logClasses | inputs | outputs | sawBus
deriving DecidableEq, Repr

/-- GEOMETRY (section 4.2). -/
structure Geometry where
  /-- S, the number of saws. -/
  saws : Nat
  /-- P, the saw pitch in cells. -/
  pitch : Nat
  /-- K, the lug pitch in counts. -/
  lugPitch : Nat
  /-- W, the capture half-width in counts. -/
  halfWidth : Nat
  /-- The stop time in ms. -/
  stopTime : Nat
  sd : Nat
  gw : Nat
  cm : Nat
  ex : Nat
deriving DecidableEq, Repr

/-- N = (S - 1) × P, the cells of a cell map (section 1.6). -/
def Geometry.cells (g : Geometry) : Nat := (g.saws - 1) * g.pitch

/-- TR = CM + 1, not separately written (R15). -/
def Geometry.tr (g : Geometry) : Nat := g.cm + 1

/-- K + W, the pos at which a synthesized advance is made (R4). -/
def Geometry.windowEnd (g : Geometry) : Nat := g.lugPitch + g.halfWidth

/-- ⌊K/16⌋, the run-up count at which the line becomes RUNNING (R6). -/
def Geometry.runUpGoal (g : Geometry) : Nat := g.lugPitch / 16

/-- ⌈S/8⌉, the module count that goes with S saws (R63). -/
def Geometry.modules (g : Geometry) : Nat := (g.saws + 7) / 8

/-- One HEADS entry (section 2.1). -/
structure HeadEntry where
  base : Nat
  span : Nat
  reversed : Bool
  enabled : Bool
deriving DecidableEq, Repr

/-- One grade record: the seven limits of section 3.2. -/
structure GradeRecord where
  minThickness : Nat
  minWidth : Nat
  maxWane : Nat
  maxKnot : Nat
  split : Bool
  decay : Bool
  allowance : Nat
deriving DecidableEq, Repr

/-- A grade set: records for grades 1 to 6. -/
abbrev GradeSet := Bank 6 GradeRecord

/-- A price row: prices for lengths 1 to 15 steps. -/
abbrev PriceRow := Bank 15 Nat

/-- A product's fallback (R49). -/
inductive Fallback where
  | longest | scrap
deriving DecidableEq, Repr

/-- One PRODUCT entry (section 4.4). The name is its characters, 0 to 12, without the fill. -/
structure Product where
  name : List Byte
  /-- T, the nominal thickness in mm. -/
  thickness : Nat
  /-- The nominal width in mm. -/
  width : Nat
  gradeSet : Nat
  priceSet : Nat
  /-- m, the minimum length in steps. -/
  minLength : Nat
  /-- u, the unseen grade. -/
  unseen : Nat
  fallback : Fallback
  sedMin : Nat
  sedMax : Nat
  minSlices : Nat
  kickOnFault : Bool
deriving DecidableEq, Repr

/-- The LOG CLASSES entry (R66). -/
structure LogClasses where
  bounds : Bank 7 Nat
  /-- Dk, the kicker distance in log-encoder counts. -/
  kicker : Nat
deriving DecidableEq, Repr

/-- Functions of an input (R67). -/
inductive InputFunction where
  | none | lug | boardEye | trimInhibit | general
deriving DecidableEq, Repr

/-- Polarity of an input (R67). -/
inductive Polarity where
  | activeHigh | activeLow
deriving DecidableEq, Repr

/-- One INPUTS entry. The filter time is a count of half milliseconds (R67). -/
structure InputEntry where
  function : InputFunction
  polarity : Polarity
  filter : Nat
deriving DecidableEq, Repr

/-- Functions of an output (R68). -/
inductive OutputFunction where
  | none | fire | kick | alert | beacon | graderCall | general
deriving DecidableEq, Repr

/-- Beacon rates (R68). -/
inductive BeaconRate where
  | half | one | two | four
deriving DecidableEq, Repr

/-- The half period of a beacon wave, in half milliseconds: 1,000 ms, 500 ms, 250 ms and 125 ms (R157). -/
def BeaconRate.halfPeriod : BeaconRate → Nat
  | .half => 2000
  | .one => 1000
  | .two => 500
  | .four => 250

/-- One OUTPUTS entry (R68). -/
structure OutputEntry where
  function : OutputFunction
  /-- The pulse width in ms. -/
  width : Nat
  rate : BeaconRate
  callGrade : Nat
deriving DecidableEq, Repr

/-- The SAW BUS entry (R69). -/
structure SawBusEntry where
  modules : Nat
  /-- The reply timeout in ms. -/
  timeout : Nat
deriving DecidableEq, Repr

/-- Every table of the Table Store. -/
structure Tables where
  geometry : Geometry
  heads : Bank 4 HeadEntry
  gradeSets : Bank 4 GradeSet
  /-- Entry set × 7 + grade - 1 (R64). -/
  priceRows : Bank 28 PriceRow
  products : Bank 8 Product
  logClasses : LogClasses
  inputs : Bank 8 InputEntry
  outputs : Bank 8 OutputEntry
  sawBus : SawBusEntry
deriving DecidableEq, Repr

/-- One table entry with its place: what a TABLE WRITE carries (R62). -/
inductive Entry where
  | geometry (e : Geometry)
  | head (i : Fin 4) (e : HeadEntry)
  | gradeSet (i : Fin 4) (e : GradeSet)
  | priceRow (i : Fin 28) (e : PriceRow)
  | product (i : Fin 8) (e : Product)
  | logClasses (e : LogClasses)
  | input (i : Fin 8) (e : InputEntry)
  | output (i : Fin 8) (e : OutputEntry)
  | sawBus (e : SawBusEntry)
deriving DecidableEq, Repr

/-! ## Defaults (R20, section 2.1, sections 4.2 to 4.6) -/

/-- The default GEOMETRY (R20). -/
def Geometry.default : Geometry :=
  { saws := 13, pitch := 6, lugPitch := 2048, halfWidth := 256, stopTime := 500, sd := 2, gw := 3, cm := 10, ex := 14 }

/-- The default grade set (section 4.3). -/
def GradeSet.default : GradeSet :=
  ⟨[{ minThickness := 0, minWidth := 0, maxWane := 20, maxKnot := 15, split := false, decay := false, allowance := 2 },
    { minThickness := 0, minWidth := 0, maxWane := 60, maxKnot := 25, split := false, decay := false, allowance := 2 },
    { minThickness := 0, minWidth := 0, maxWane := 120, maxKnot := 40, split := false, decay := false, allowance := 3 },
    { minThickness := 0, minWidth := 0, maxWane := 250, maxKnot := 60, split := true, decay := false, allowance := 3 },
    { minThickness := 0, minWidth := 0, maxWane := 500, maxKnot := 90, split := true, decay := false, allowance := 4 },
    { minThickness := 0, minWidth := 0, maxWane := 1000, maxKnot := 150, split := true, decay := true, allowance := 6 }],
   rfl⟩

/-- The characters of "PRODUCT n" (section 4.4). -/
def Product.defaultName (n : Nat) : List Byte :=
  [0x50, 0x52, 0x4F, 0x44, 0x55, 0x43, 0x54, 0x20, u8 (0x30 + n)]

/-- The default of product `n` (section 4.4). -/
def Product.default (n : Nat) : Product :=
  { name := Product.defaultName n, thickness := 38, width := 89, gradeSet := 0, priceSet := 0, minLength := 3, unseen := 7,
    fallback := .longest, sedMin := 50, sedMax := 1500, minSlices := 5, kickOnFault := true }

/-- Every table at its default. -/
def Tables.default : Tables :=
  { geometry := Geometry.default
    heads := Bank.ofFn fun i => { base := 18 * i.val, span := 18, reversed := false, enabled := true }
    gradeSets := Bank.fill 4 GradeSet.default
    priceRows := Bank.fill 28 (Bank.fill 15 0)
    products := Bank.ofFn fun i => Product.default i.val
    logClasses := { bounds := ⟨[150, 200, 250, 300, 350, 400, 500], rfl⟩, kicker := 2000 }
    inputs := Bank.fill 8 { function := .none, polarity := .activeHigh, filter := 2 }
    outputs := Bank.fill 8 { function := .none, width := 50, rate := .one, callGrade := 5 }
    sawBus := { modules := 2, timeout := 3 } }

end Sys2Proof.Machine
end

