-- ==== Sys2Proof/Machine/Records.lean ====
section
/-! DEFINITION. The records the ten blocks keep: slots of the lug ring with the records the other blocks hold for them,
heads, solves, overrides, decisions, saw modules, logs, runs and tallies, inputs and outputs, the control link's items. -/

namespace Sys2Proof.Machine

/-! ## Scan Intake -/

/-- The measurements of a PRESENT cell (section 2.3), in 0.1 mm and, for the knot, mm. -/
structure CellData where
  thickness : Nat
  width : Nat
  wane : Nat
  knot : Nat
  split : Bool
  decay : Bool
deriving DecidableEq, Repr

/-- One cell of a cell map (R27). -/
inductive Cell where
  | unseen
  | empty
  | present (d : CellData)
deriving DecidableEq, Repr

/-- Scan status (section 2.2). -/
inductive ScanStatus where
  | open | complete | closedPartial
deriving DecidableEq, Repr

/-- The scan record of a slot (section 2.2). -/
structure ScanRecord where
  cells : List Cell
  expected : Bank 4 Bool
  last : Bank 4 Bool
  status : ScanStatus
  deadlinePassed : Bool
  extent : Option Nat
  scanPartial : Bool
  noProfile : Bool
  handedOver : Bool
deriving DecidableEq, Repr

/-- Head state (R22). -/
inductive HeadStatus where
  | up | down | disabled
deriving DecidableEq, Repr

/-- A head's state and consecutive-miss count (section 2.1.1). -/
structure Head where
  status : HeadStatus
  misses : Nat
deriving DecidableEq, Repr

/-- The sending side of a head link: the TRIGGER frame being sent and the tags that follow it (R23). -/
structure TriggerLink where
  sending : Option (List Byte)
  waiting : List Nat
deriving DecidableEq, Repr

/-! ## Console Interface -/

/-- A mark of an override record (section 3.1). -/
structure Mark where
  first : Nat
  last : Nat
  grade : Nat
deriving DecidableEq, Repr

/-- The override record of a piece (section 3.1). -/
structure Overrides where
  marks : List Mark
  forcedGrade : Option Nat
  forcedLength : Option Nat
  forcedScrap : Bool
deriving DecidableEq, Repr

/-- The override record with nothing in force. -/
def Overrides.empty : Overrides := { marks := [], forcedGrade := none, forcedLength := none, forcedScrap := false }

/-- An override field is in force (section 3.1). -/
def Overrides.inForce (o : Overrides) : Bool :=
  !o.marks.isEmpty || o.forcedGrade.isSome || o.forcedLength.isSome || o.forcedScrap

/-- Window state (R82). -/
inductive Window where
  | before | open | closed
deriving DecidableEq, Repr

/-- The console record of a slot (section 5.3). -/
structure ConsoleRecord where
  window : Window
  holder : Option (Fin 4)
  overrides : Overrides
deriving DecidableEq, Repr

/-- A frame waiting in a console's send queue (R80): a reply, or an offer, which is a PROPOSAL or WITHDRAW for a tag. -/
inductive ConsoleFrame where
  | reply (f : Frame)
  | proposal (tag : Nat) (f : Frame)
  | withdraw (tag : Nat) (f : Frame)
deriving DecidableEq, Repr

/-- One console link's side of the Console Interface (sections 5.1.1 and 5.2). -/
structure Console where
  subscribed : Bool
  queue : List ConsoleFrame
  sending : Option (List Byte)
  dropped : Nat
deriving DecidableEq, Repr

/-! ## Board Solver -/

/-- A cell grade: E, the mark of a gap, or a grade 1 to 7 (section 3.2). -/
inductive CellGrade where
  | gap
  | grade (g : Nat)
deriving DecidableEq, Repr

/-- Where a solution or decision comes from (R48, R99). -/
inductive Source where
  | solver | override | fallback
deriving DecidableEq, Repr

/-- A span's or a decision's grade: 1 to 7, or U for a fallback KEEP (R49). -/
inductive PieceGrade where
  | graded (g : Nat)
  | ungraded
deriving DecidableEq, Repr

/-- What a KEEP keeps: the saws, the grade and the value. Its length is `b - a`. -/
structure Keep where
  a : Nat
  b : Nat
  grade : PieceGrade
  value : Nat
deriving DecidableEq, Repr

/-- The length of the piece kept, in steps. -/
def Keep.length (k : Keep) : Nat := k.b - k.a

/-- A solution record (R48). `keep` is absent for SCRAP, whose value is 0. -/
structure Solution where
  keep : Option Keep
  noSpan : Bool
  generation : Nat
  source : Source
  cellGrades : List CellGrade
deriving DecidableEq, Repr

/-- Solve status (section 3.7). -/
inductive SolveStatus where
  | queued | solving | solved | closed
deriving DecidableEq, Repr

/-- The solve record of a piece (section 3.7). -/
structure SolveRecord where
  status : SolveStatus
  solution : Option Solution
  reSolve : Bool
  generation : Nat
deriving DecidableEq, Repr

/-- The solve in flight: the piece and the inputs taken at its start (R39). -/
structure SolveJob where
  tag : Nat
  cells : List Cell
  extent : Option Nat
  product : Product
  overrides : Overrides
  generation : Nat
deriving DecidableEq, Repr

/-! ## Saw Bus Controller -/

/-- The result of a module for a piece (section 6.4). -/
inductive ModuleResult where
  | notStarted | accepted | faulted | unsettled | timedOut | skipped | abandoned
deriving DecidableEq, Repr

/-- The exchange is complete for a module with this result (section 6.4). -/
def ModuleResult.complete : ModuleResult → Bool
  | .accepted => true
  | .skipped => true
  | _ => false

/-- What a STATE answer carries (section 6.3). -/
structure ModuleReading where
  mask : Byte
  seq : Byte
  down : Byte
deriving DecidableEq, Repr

/-- What the controller holds of a module (section 6.3, R105, R108, R110). -/
structure Module where
  online : Bool
  lastRead : Option ModuleReading
  lastFault : Option Byte
  retries : Nat
  timeouts : Nat
  faults : Nat
deriving DecidableEq, Repr

/-- Where the exchange stands with its module (section 6.4). -/
inductive Phase where
  /-- READ STATE is not sent yet: a wait left from an abandoned exchange still runs (R112). -/
  | readDue
  /-- READ STATE is sent and its answer awaited. -/
  | readState
  /-- STATE was taken; WRITE PATTERN is held back until every slot beyond CM has passed TR (R107). -/
  | writeDue (r : ModuleReading)
  /-- WRITE PATTERN is sent and its answer awaited. -/
  | writePattern (r : ModuleReading)
deriving DecidableEq, Repr

/-- The exchange record (section 6.4). -/
structure Exchange where
  tag : Nat
  module : Fin 2
  attempt : Nat
  phase : Phase
  /-- Every failed attempt of the module so far has failed by timeout. -/
  onlyTimeouts : Bool
  /-- The READ STATE is the probe of an OFFLINE module (R109). -/
  probe : Bool
  /-- The reply timeout taken at the arrival at CM, in ms (R105). -/
  timeout : Nat
deriving DecidableEq, Repr

/-- The commit record of a piece (section 6.1). `keep` is absent for SCRAP, whose value is 0. In the pattern, `true` is
DROPPED. The entries of modules outside the module count have no meaning. -/
structure CommitRecord where
  keep : Option Keep
  noSpan : Bool
  source : Source
  generation : Option Nat
  overrideMissed : Bool
  inhibited : Bool
  pattern : List Bool
  results : Bank 2 ModuleResult
  masks : Bank 2 (Option ModuleReading)
  manualConflict : Bool
  trimMissed : Bool
  trimmed : Bool
deriving DecidableEq, Repr

/-! ## Transport Tracker -/

/-- Line state (section 1.3). -/
inductive LineState where
  | starting | stopped | running
deriving DecidableEq, Repr

/-- The last-advance record (section 1.2). -/
inductive LastAdvance where
  | none
  | sensed
  | synthesized (matched : Bool)
deriving DecidableEq, Repr

/-- The kind of a slot (section 1.4). -/
inductive SlotKind where
  | undecided | board | empty
deriving DecidableEq, Repr

/-- The stations a slot is announced at, in their order (R13). -/
inductive Station where
  | sd | gw | cm | tr | ex
deriving DecidableEq, Repr

/-- One slot of the lug ring (section 1.4), with the records the other blocks keep for it. -/
structure Slot where
  tag : Nat
  offset : Nat
  kind : SlotKind
  eye : Bool
  run : Nat
  lugSynth : Bool
  passed : List Station
  scan : ScanRecord
  solve : Option SolveRecord
  console : ConsoleRecord
  commit : Option CommitRecord
deriving DecidableEq, Repr

/-! ## Log Lane -/

/-- The record of the log being measured (section 7.2). -/
structure LogRecord where
  number : Option Nat
  slices : Nat
  firstMean : Option Nat
  lastMean : Option Nat
  volume : Nat
deriving DecidableEq, Repr

/-- The Lane's state (section 7.2). -/
inductive LaneState where
  | idle
  | open (log : LogRecord)
  | skipping
deriving DecidableEq, Repr

/-- Fault codes of a log (R122). -/
inductive LogFault where
  | noStart | indexGap | tooLong | restarted | countMismatch | tooShort
deriving DecidableEq, Repr

/-- Reject reasons (R124). -/
inductive RejectReason where
  | fault | sed | length
deriving DecidableEq, Repr

/-- The measures of a log that ended without fault (R123). -/
structure LogMeasures where
  volume : Nat
  length : Nat
  sed : Nat
  cls : Fin 8
deriving DecidableEq, Repr

/-- A log in the log queue (section 7.5). -/
structure QueuedLog where
  number : Option Nat
  rejected : Bool
  entry : Nat
  countdown : Nat
deriving DecidableEq, Repr

/-! ## Run and Tally Unit -/

/-- The state of a run (R134). -/
inductive RunState where
  | logs | both | boards | draining | closed
deriving DecidableEq, Repr

/-- The six flags that are counted (section 8.3). -/
inductive PieceFlag where
  | overrideMissed | trimMissed | inhibited | manualConflict | scanPartial | noProfile
deriving DecidableEq, Repr

/-- The counters of a tally block (section 8.3). Grades are numbered 0 to 6 for grades 1 to 7 and 7 for U; lengths 0 to
14 for 1 to 15 steps. -/
inductive Counter where
  | scanned
  | kept (grade : Fin 8) (length : Fin 15)
  | volume (grade : Fin 8)
  | value
  | scrapped
  | lost
  | overridden
  | fallback
  | flag (f : PieceFlag)
  | logsMeasured
  | accepted
  | rejected (r : RejectReason)
  | faulted
  | acceptedVolume
  | logClass (c : Fin 8)
deriving DecidableEq, Repr

/-- A tally block (section 8.3). -/
structure Tally where
  scanned : Nat
  kept : Bank 8 (Bank 15 Nat)
  volume : Bank 8 Nat
  value : Nat
  scrapped : Nat
  lost : Nat
  overridden : Nat
  fallback : Nat
  overrideMissed : Nat
  trimMissed : Nat
  inhibited : Nat
  manualConflict : Nat
  scanPartial : Nat
  noProfile : Nat
  logsMeasured : Nat
  accepted : Nat
  rejectedFault : Nat
  rejectedSed : Nat
  rejectedLength : Nat
  faulted : Nat
  acceptedVolume : Nat
  classes : Bank 8 Nat
deriving DecidableEq, Repr

/-- Every counter 0. -/
def Tally.zero : Tally :=
  { scanned := 0, kept := Bank.fill 8 (Bank.fill 15 0), volume := Bank.fill 8 0, value := 0, scrapped := 0, lost := 0,
    overridden := 0, fallback := 0, overrideMissed := 0, trimMissed := 0, inhibited := 0, manualConflict := 0,
    scanPartial := 0, noProfile := 0, logsMeasured := 0, accepted := 0, rejectedFault := 0, rejectedSed := 0,
    rejectedLength := 0, faulted := 0, acceptedVolume := 0, classes := Bank.fill 8 0 }

/-- The value of a counter. -/
def Tally.get (t : Tally) : Counter → Nat
  | .scanned => t.scanned
  | .kept g l => (t.kept.get g).get l
  | .volume g => t.volume.get g
  | .value => t.value
  | .scrapped => t.scrapped
  | .lost => t.lost
  | .overridden => t.overridden
  | .fallback => t.fallback
  | .flag .overrideMissed => t.overrideMissed
  | .flag .trimMissed => t.trimMissed
  | .flag .inhibited => t.inhibited
  | .flag .manualConflict => t.manualConflict
  | .flag .scanPartial => t.scanPartial
  | .flag .noProfile => t.noProfile
  | .logsMeasured => t.logsMeasured
  | .accepted => t.accepted
  | .rejected .fault => t.rejectedFault
  | .rejected .sed => t.rejectedSed
  | .rejected .length => t.rejectedLength
  | .faulted => t.faulted
  | .acceptedVolume => t.acceptedVolume
  | .logClass c => t.classes.get c

/-- A counter replaced. -/
def Tally.set (t : Tally) (c : Counter) (n : Nat) : Tally :=
  match c with
  | .scanned => { t with scanned := n }
  | .kept g l => { t with kept := t.kept.set g ((t.kept.get g).set l n) }
  | .volume g => { t with volume := t.volume.set g n }
  | .value => { t with value := n }
  | .scrapped => { t with scrapped := n }
  | .lost => { t with lost := n }
  | .overridden => { t with overridden := n }
  | .fallback => { t with fallback := n }
  | .flag .overrideMissed => { t with overrideMissed := n }
  | .flag .trimMissed => { t with trimMissed := n }
  | .flag .inhibited => { t with inhibited := n }
  | .flag .manualConflict => { t with manualConflict := n }
  | .flag .scanPartial => { t with scanPartial := n }
  | .flag .noProfile => { t with noProfile := n }
  | .logsMeasured => { t with logsMeasured := n }
  | .accepted => { t with accepted := n }
  | .rejected .fault => { t with rejectedFault := n }
  | .rejected .sed => { t with rejectedSed := n }
  | .rejected .length => { t with rejectedLength := n }
  | .faulted => { t with faulted := n }
  | .acceptedVolume => { t with acceptedVolume := n }
  | .logClass k => { t with classes := t.classes.set k n }

/-- One run of the run table (section 8.1). -/
structure Run where
  seq : Nat
  product : Fin 8
  state : RunState
  saturated : Bool
  tally : Tally
deriving DecidableEq, Repr

/-! ## Field I/O -/

/-- One discrete input (section 9.1): its pin, filtered state and filter timer. -/
structure Input where
  pin : Bool
  filtered : Bool
  timer : Option Nat
deriving DecidableEq, Repr

/-- The force of an output (R158). -/
inductive Force where
  | none | on | off
deriving DecidableEq, Repr

/-- A running beacon wave: its phase and the time left of it (R157). -/
structure Wave where
  on : Bool
  left : Nat
deriving DecidableEq, Repr

/-- One discrete output (section 9.2): its force, pulse timer, beacon wave and the level driven. -/
structure Output where
  force : Force
  pulse : Option Nat
  wave : Option Wave
  level : Bool
deriving DecidableEq, Repr

/-! ## Table Store -/

/-- The image status (R72). -/
inductive ImageStatus where
  | loaded | defaults | fault
deriving DecidableEq, Repr

/-- What a load was taken for: power-on or restart, or a host request whose reply waits for its end (R74, R75). -/
inductive LoadCause where
  | startUp
  | request (frameTag : Byte)
deriving DecidableEq, Repr

/-- The save in progress: the image copied, the page write (1 to 23) in progress and its time left (R76). -/
structure SaveJob where
  image : List Byte
  write : Nat
  left : Nat
deriving DecidableEq, Repr

/-- The activity of the image memory controller (section 4.8). -/
inductive Activity where
  | idle
  | loading (cause : LoadCause)
  | saving (job : SaveJob)
deriving DecidableEq, Repr

/-! ## Control Link Port -/

/-- The control link's rates (R162), coded 0 to 3 in IDENTIFY. -/
inductive LinkRate where
  | b115200 | b230400 | b460800 | b921600
deriving DecidableEq, Repr

/-- The 14 causes, numbered in this order (section 10.5). -/
inductive Cause where
  | scanLate | headDown | solveOverrun | overrideMissed | sawFault | moduleOffline | trimMissed | inhibitActive
  | lugMissed | lugExtra | logUntracked | imageFault | reportOverflow | tallySaturated
deriving DecidableEq, Repr

/-- The number of a cause in the masks (section 10.5). -/
def Cause.number : Cause → Fin 14
  | .scanLate => 0
  | .headDown => 1
  | .solveOverrun => 2
  | .overrideMissed => 3
  | .sawFault => 4
  | .moduleOffline => 5
  | .trimMissed => 6
  | .inhibitActive => 7
  | .lugMissed => 8
  | .lugExtra => 9
  | .logUntracked => 10
  | .imageFault => 11
  | .reportOverflow => 12
  | .tallySaturated => 13

/-- A set of causes, bit n for cause n. -/
abbrev CauseSet := BitVec 14

/-- The set that holds one cause. -/
def Cause.bit (c : Cause) : CauseSet := 1#14 <<< c.number.val

/-- A TABLE WRITE that is held (R70): the request's tag, and the entry with its place. -/
structure HeldWrite where
  frameTag : Byte
  entry : Entry
deriving DecidableEq, Repr

/-- The request in process between its being taken and its reply (R163). -/
inductive InProcess where
  | heldWrite (w : HeldWrite)
  | imageLoad
  | restart
deriving DecidableEq, Repr

/-- One link's receiver (R161): the bytes it holds of what it has not yet judged, and its discarded-frame count. -/
structure LinkReceiver where
  held : List Byte
  discarded : Nat
deriving DecidableEq, Repr

end Sys2Proof.Machine
end

