-- ==== Sys2Proof/Machine/TableCodec.lean ====
section
/-! DEFINITION. Table entries as bytes (section 11.6), the checks of a TABLE WRITE (R15, R21, R62 to R69), and an entry put
into the tables. -/

namespace Sys2Proof.Machine

/-! ## Kinds -/

/-- The code of a table kind (section 11.2). -/
def TableKind.code : TableKind → Byte
  | .geometry => 1 | .heads => 2 | .gradeSet => 3 | .priceRow => 4 | .product => 5
  | .logClasses => 6 | .inputs => 7 | .outputs => 8 | .sawBus => 9

/-- The kind a byte names, if any (R61: an unknown kind is refused). -/
def TableKind.ofCode (b : Byte) : Option TableKind :=
  [TableKind.geometry, .heads, .gradeSet, .priceRow, .product, .logClasses, .inputs, .outputs, .sawBus].find?
    (·.code == b)

/-- How many entries a kind has (section 4.1). -/
def TableKind.count : TableKind → Nat
  | .geometry => 1 | .heads => 4 | .gradeSet => 4 | .priceRow => 28 | .product => 8
  | .logClasses => 1 | .inputs => 8 | .outputs => 8 | .sawBus => 1

/-- The length of one entry of a kind, in bytes (section 11.6). -/
def TableKind.entryLength : TableKind → Nat
  | .geometry => 12 | .heads => 4 | .gradeSet => 60 | .priceRow => 30 | .product => 26
  | .logClasses => 16 | .inputs => 3 | .outputs => 4 | .sawBus => 2

/-! ## Encoding -/

def Geometry.encode (g : Geometry) : List Byte :=
  [u8 g.saws, u8 g.pitch] ++ u16 g.lugPitch ++ u16 g.halfWidth ++ u16 g.stopTime ++ [u8 g.sd, u8 g.gw, u8 g.cm, u8 g.ex]

def HeadEntry.encode (e : HeadEntry) : List Byte := [u8 e.base, u8 e.span, yesNo e.reversed, yesNo e.enabled]

def GradeRecord.encode (r : GradeRecord) : List Byte :=
  u16 r.minThickness ++ u16 r.minWidth ++ u16 r.maxWane ++ [u8 r.maxKnot, yesNo r.split, yesNo r.decay, u8 r.allowance]

def Fallback.code : Fallback → Byte
  | .longest => 0
  | .scrap => 1

/-- A product name in its 12 bytes: its characters, then 0x00. -/
def encodeName (name : List Byte) : List Byte := name ++ List.replicate (12 - name.length) 0

def Product.encode (p : Product) : List Byte :=
  encodeName p.name ++ [u8 p.thickness] ++ u16 p.width
    ++ [u8 p.gradeSet, u8 p.priceSet, u8 p.minLength, u8 p.unseen, p.fallback.code]
    ++ u16 p.sedMin ++ u16 p.sedMax ++ [u8 p.minSlices, yesNo p.kickOnFault]

def LogClasses.encode (c : LogClasses) : List Byte := c.bounds.items.flatMap u16 ++ u16 c.kicker

def InputFunction.code : InputFunction → Byte
  | .none => 0 | .lug => 1 | .boardEye => 2 | .trimInhibit => 3 | .general => 4

def Polarity.code : Polarity → Byte
  | .activeHigh => 0
  | .activeLow => 1

def InputEntry.encode (e : InputEntry) : List Byte := [e.function.code, e.polarity.code, u8 e.filter]

def OutputFunction.code : OutputFunction → Byte
  | .none => 0 | .fire => 1 | .kick => 2 | .alert => 3 | .beacon => 4 | .graderCall => 5 | .general => 6

def BeaconRate.code : BeaconRate → Byte
  | .half => 0 | .one => 1 | .two => 2 | .four => 3

def OutputEntry.encode (e : OutputEntry) : List Byte := [e.function.code, u8 e.width, e.rate.code, u8 e.callGrade]

def SawBusEntry.encode (e : SawBusEntry) : List Byte := [u8 e.modules, u8 e.timeout]

/-- The bytes of an entry (section 11.6), the same in TABLE WRITE, TABLE READ and the image. -/
def Entry.encode : Entry → List Byte
  | .geometry e => e.encode
  | .head _ e => e.encode
  | .gradeSet _ e => e.items.flatMap GradeRecord.encode
  | .priceRow _ e => e.items.flatMap u16
  | .product _ e => e.encode
  | .logClasses e => e.encode
  | .input _ e => e.encode
  | .output _ e => e.encode
  | .sawBus e => e.encode

/-- The kind of an entry. -/
def Entry.kind : Entry → TableKind
  | .geometry _ => .geometry
  | .head _ _ => .heads
  | .gradeSet _ _ => .gradeSet
  | .priceRow _ _ => .priceRow
  | .product _ _ => .product
  | .logClasses _ => .logClasses
  | .input _ _ => .inputs
  | .output _ _ => .outputs
  | .sawBus _ => .sawBus

/-- The index of an entry among those of its kind; 0 where the kind has one entry. -/
def Entry.index : Entry → Nat
  | .geometry _ => 0
  | .head i _ => i.val
  | .gradeSet i _ => i.val
  | .priceRow i _ => i.val
  | .product i _ => i.val
  | .logClasses _ => 0
  | .input i _ => i.val
  | .output i _ => i.val
  | .sawBus _ => 0

/-! ## Decoding: `none` where a field holds a value no table lists for it (R171) or the length is another -/

/-- A list as a bank, when it has the bank's size. -/
def toBank? (n : Nat) {α : Type} (l : List α) : Option (Bank n α) := if h : l.length = n then some ⟨l, h⟩ else none

/-- `n` pieces of `k` bytes each. -/
def pieces (k : Nat) : Nat → List Byte → List (List Byte)
  | 0, _ => []
  | n + 1, l => l.take k :: pieces k n (l.drop k)

/-- `n` things of `k` bytes each, each decoded. -/
def decodeBank (n k : Nat) {α : Type} (dec : List Byte → Option α) (l : List Byte) : Option (Bank n α) :=
  ((pieces k n l).mapM dec).bind (toBank? n)

/-- A two-byte number. -/
def decodeWord : List Byte → Option Nat
  | [hi, lo] => some (word hi lo)
  | _ => none

def Geometry.decode : List Byte → Option Geometry
  | [s, p, k1, k0, w1, w0, t1, t0, sd, gw, cm, ex] =>
    some { saws := s.toNat, pitch := p.toNat, lugPitch := word k1 k0, halfWidth := word w1 w0, stopTime := word t1 t0,
           sd := sd.toNat, gw := gw.toNat, cm := cm.toNat, ex := ex.toNat }
  | _ => none

def HeadEntry.decode : List Byte → Option HeadEntry
  | [b, s, r, e] => do
    let reversed ← readYesNo r
    let enabled ← readYesNo e
    pure { base := b.toNat, span := s.toNat, reversed := reversed, enabled := enabled }
  | _ => none

def GradeRecord.decode : List Byte → Option GradeRecord
  | [t1, t0, w1, w0, n1, n0, k, s, d, a] => do
    let split ← readYesNo s
    let decay ← readYesNo d
    pure { minThickness := word t1 t0, minWidth := word w1 w0, maxWane := word n1 n0, maxKnot := k.toNat, split := split,
           decay := decay, allowance := a.toNat }
  | _ => none

def Fallback.decode (b : Byte) : Option Fallback := [Fallback.longest, .scrap].find? (·.code == b)

/-- A printable character code (R65). -/
def printable (b : Byte) : Bool := decide (0x20 ≤ b.toNat) && decide (b.toNat ≤ 0x7E)

/-- The 12 bytes of a name: printable characters, then only 0x00 (section 11.6). -/
def decodeName (l : List Byte) : Option (List Byte) :=
  let chars := l.takeWhile (· != 0)
  if chars.all printable && (l.drop chars.length).all (· == 0) then some chars else none

def Product.decode (l : List Byte) : Option Product :=
  match decodeName (l.take 12), l.drop 12 with
  | some name, [t, w1, w0, g, p, m, u, f, a1, a0, b1, b0, s, k] => do
    let fallback ← Fallback.decode f
    let kick ← readYesNo k
    pure { name := name, thickness := t.toNat, width := word w1 w0, gradeSet := g.toNat, priceSet := p.toNat,
           minLength := m.toNat, unseen := u.toNat, fallback := fallback, sedMin := word a1 a0, sedMax := word b1 b0,
           minSlices := s.toNat, kickOnFault := kick }
  | _, _ => none

def LogClasses.decode (l : List Byte) : Option LogClasses := do
  let bounds ← decodeBank 7 2 decodeWord (l.take 14)
  let kicker ← decodeWord (l.drop 14)
  pure { bounds := bounds, kicker := kicker }

def InputFunction.decode (b : Byte) : Option InputFunction :=
  [InputFunction.none, .lug, .boardEye, .trimInhibit, .general].find? (·.code == b)

def Polarity.decode (b : Byte) : Option Polarity := [Polarity.activeHigh, .activeLow].find? (·.code == b)

def InputEntry.decode : List Byte → Option InputEntry
  | [f, p, t] => do
    let function ← InputFunction.decode f
    let polarity ← Polarity.decode p
    pure { function := function, polarity := polarity, filter := t.toNat }
  | _ => none

def OutputFunction.decode (b : Byte) : Option OutputFunction :=
  [OutputFunction.none, .fire, .kick, .alert, .beacon, .graderCall, .general].find? (·.code == b)

def BeaconRate.decode (b : Byte) : Option BeaconRate := [BeaconRate.half, .one, .two, .four].find? (·.code == b)

def OutputEntry.decode : List Byte → Option OutputEntry
  | [f, w, r, g] => do
    let function ← OutputFunction.decode f
    let rate ← BeaconRate.decode r
    pure { function := function, width := w.toNat, rate := rate, callGrade := g.toNat }
  | _ => none

def SawBusEntry.decode : List Byte → Option SawBusEntry
  | [m, t] => some { modules := m.toNat, timeout := t.toNat }
  | _ => none

/-- The index as a place in a bank of `n`. -/
def place? (n i : Nat) : Option (Fin n) := if h : i < n then some ⟨i, h⟩ else none

/-- The entry of a kind at an index, read from its bytes. -/
def Entry.decode (k : TableKind) (i : Nat) (l : List Byte) : Option Entry :=
  match k with
  | .geometry => (Geometry.decode l).map .geometry
  | .heads => do pure (.head (← place? 4 i) (← HeadEntry.decode l))
  | .gradeSet => do pure (.gradeSet (← place? 4 i) (← decodeBank 6 10 GradeRecord.decode l))
  | .priceRow => do pure (.priceRow (← place? 28 i) (← decodeBank 15 2 decodeWord l))
  | .product => do pure (.product (← place? 8 i) (← Product.decode l))
  | .logClasses => (LogClasses.decode l).map .logClasses
  | .inputs => do pure (.input (← place? 8 i) (← InputEntry.decode l))
  | .outputs => do pure (.output (← place? 8 i) (← OutputEntry.decode l))
  | .sawBus => (SawBusEntry.decode l).map .sawBus

/-! ## The checks of a write -/

/-- An inclusive range. -/
def within (lo hi n : Nat) : Bool := decide (lo ≤ n) && decide (n ≤ hi)

/-- The checks of a GEOMETRY write (R15, R63). -/
def Geometry.valid (g : Geometry) : Bool :=
  within 2 16 g.saws && within 4 8 g.pitch && decide (g.cells ≤ 90) && within 64 65535 g.lugPitch
    && within 1 (g.lugPitch / 4) g.halfWidth && within 100 5000 g.stopTime
    && decide (1 ≤ g.sd) && decide (g.sd < g.gw) && decide (g.gw < g.cm) && decide (g.cm + 2 ≤ g.ex) && decide (g.ex ≤ 31)

/-- The checks of a HEADS write against the geometry in force (R21). -/
def HeadEntry.valid (g : Geometry) (e : HeadEntry) : Bool :=
  within 0 89 e.base && within 1 32 e.span && decide (e.base + e.span ≤ g.cells)

/-- The ranges of a grade record (section 4.3). -/
def GradeRecord.valid (r : GradeRecord) : Bool :=
  within 0 2000 r.minThickness && within 0 4500 r.minWidth && within 0 4500 r.maxWane && within 0 255 r.maxKnot
    && within 0 15 r.allowance

/-- The checks of a PRODUCT write (section 4.4, R65). -/
def Product.valid (p : Product) : Bool :=
  decide (p.name.length ≤ 12) && p.name.all printable && within 10 150 p.thickness && within 25 400 p.width
    && within 0 3 p.gradeSet && within 0 3 p.priceSet && within 1 15 p.minLength && within 1 7 p.unseen
    && within 50 1500 p.sedMin && within 50 1500 p.sedMax && within 5 200 p.minSlices && decide (p.sedMin ≤ p.sedMax)

/-- Each number is below the next. -/
def rising : List Nat → Bool
  | a :: b :: l => decide (a < b) && rising (b :: l)
  | _ => true

/-- The checks of a LOG CLASSES write (R66). -/
def LogClasses.valid (c : LogClasses) : Bool :=
  c.bounds.items.all (within 50 1500) && rising c.bounds.items && within 1 65535 c.kicker

/-- LUG, BOARD_EYE and TRIM_INHIBIT may each be bound to one input only (R67). -/
def InputFunction.exclusive : InputFunction → Bool
  | .lug => true
  | .boardEye => true
  | .trimInhibit => true
  | _ => false

/-- The checks of an INPUTS write at input `i` against the other entries in force (R67). -/
def InputEntry.valid (inputs : Bank 8 InputEntry) (i : Fin 8) (e : InputEntry) : Bool :=
  within 0 40 e.filter
    && !(e.function.exclusive && (List.finRange 8).any fun j => j != i && (inputs.get j).function == e.function)

/-- The checks of an OUTPUTS write (R68). -/
def OutputEntry.valid (e : OutputEntry) : Bool := within 5 250 e.width && within 1 7 e.callGrade

/-- The checks of a SAW BUS write against the geometry in force (R69). -/
def SawBusEntry.valid (g : Geometry) (e : SawBusEntry) : Bool := within 1 10 e.timeout && decide (e.modules = g.modules)

/-- Every field of the entry is within its range and the entry agrees with the tables `t` (R62). -/
def Tables.admits (t : Tables) : Entry → Bool
  | .geometry e => e.valid
  | .head _ e => e.valid t.geometry
  | .gradeSet _ e => e.items.all GradeRecord.valid
  | .priceRow _ e => e.items.all (within 0 65535)
  | .product _ e => e.valid
  | .logClasses e => e.valid
  | .input i e => e.valid t.inputs i
  | .output _ e => e.valid
  | .sawBus e => e.valid t.geometry

/-- The tables with one entry replaced. A GEOMETRY write also sets the module count to ⌈S/8⌉ (R63). -/
def Tables.put (t : Tables) : Entry → Tables
  | .geometry e => { t with geometry := e, sawBus := { t.sawBus with modules := e.modules } }
  | .head i e => { t with heads := t.heads.set i e }
  | .gradeSet i e => { t with gradeSets := t.gradeSets.set i e }
  | .priceRow i e => { t with priceRows := t.priceRows.set i e }
  | .product i e => { t with products := t.products.set i e }
  | .logClasses e => { t with logClasses := e }
  | .input i e => { t with inputs := t.inputs.set i e }
  | .output i e => { t with outputs := t.outputs.set i e }
  | .sawBus e => { t with sawBus := e }

/-- Every entry, kinds in the order of section 4.1 and entries in index order. -/
def Tables.entries (t : Tables) : List Entry :=
  [.geometry t.geometry]
    ++ (List.finRange 4).map (fun i => .head i (t.heads.get i))
    ++ (List.finRange 4).map (fun i => .gradeSet i (t.gradeSets.get i))
    ++ (List.finRange 28).map (fun i => .priceRow i (t.priceRows.get i))
    ++ (List.finRange 8).map (fun i => .product i (t.products.get i))
    ++ [.logClasses t.logClasses]
    ++ (List.finRange 8).map (fun i => .input i (t.inputs.get i))
    ++ (List.finRange 8).map (fun i => .output i (t.outputs.get i))
    ++ [.sawBus t.sawBus]

/-- The entry of a kind at an index, where there is one (R61). -/
def Tables.entry? (t : Tables) (k : TableKind) (i : Nat) : Option Entry :=
  match k with
  | .geometry => if i = 0 then some (.geometry t.geometry) else none
  | .heads => (place? 4 i).map fun j => .head j (t.heads.get j)
  | .gradeSet => (place? 4 i).map fun j => .gradeSet j (t.gradeSets.get j)
  | .priceRow => (place? 28 i).map fun j => .priceRow j (t.priceRows.get j)
  | .product => (place? 8 i).map fun j => .product j (t.products.get j)
  | .logClasses => if i = 0 then some (.logClasses t.logClasses) else none
  | .inputs => (place? 8 i).map fun j => .input j (t.inputs.get j)
  | .outputs => (place? 8 i).map fun j => .output j (t.outputs.get j)
  | .sawBus => if i = 0 then some (.sawBus t.sawBus) else none

/-- Every entry passes the checks a TABLE WRITE of it would, against these tables themselves (R73). -/
def Tables.valid (t : Tables) : Bool := t.entries.all t.admits

/-- The product at an index of 0 to 7. -/
def Tables.product (t : Tables) (i : Fin 8) : Product := t.products.get i

/-- The grade set a product names (R53). -/
def Tables.gradeSetOf (t : Tables) (p : Product) : GradeSet := t.gradeSets.items.getD p.gradeSet GradeSet.default

/-- The price of a grade and a length in the price set a product names (R45, R64). -/
def Tables.price (t : Tables) (p : Product) (grade length : Nat) : Nat :=
  (t.priceRows.items.getD (p.priceSet * 7 + grade - 1) (Bank.fill 15 0)).items.getD (length - 1) 0

end Sys2Proof.Machine
end

