-- ==== Sys2Proof/Machine/Grading.lean ====
section
/-! DEFINITION. The solve computation (sections 3.2 to 3.6): cell grades, marks, valid spans, span grades, values, the
choice, and the fallback at commit. Pure functions of the inputs (R39). -/

namespace Sys2Proof.Machine

/-! ## Stage 1 (R40, R41) -/

/-- A PRESENT cell meets the six cell limits of a grade together (R40). -/
def GradeRecord.meets (r : GradeRecord) (d : CellData) : Bool :=
  decide (r.minThickness ≤ d.thickness) && decide (r.minWidth ≤ d.width) && decide (d.wane ≤ r.maxWane)
    && decide (d.knot ≤ r.maxKnot) && (!d.split || r.split) && (!d.decay || r.decay)

/-- The number from `g` on of the first record whose limits the cell meets; past the last record, that is grade 7. -/
def firstGrade (d : CellData) (g : Nat) : List GradeRecord → Nat
  | [] => g
  | r :: rs => if r.meets d then g else firstGrade d (g + 1) rs

/-- The cell grade of one cell (R40): an EMPTY cell E, an UNSEEN cell u, a PRESENT cell the first grade met, or 7. -/
def cellGrade (set : GradeSet) (unseen : Nat) : Cell → CellGrade
  | .empty => .gap
  | .unseen => .grade unseen
  | .present d => .grade (firstGrade d 1 set.items)

/-- A mark applied to the cells numbered from `i` on (R41): its grade to every cell of its range not graded E. -/
def applyMark (m : Mark) (i : Nat) : List CellGrade → List CellGrade
  | [] => []
  | g :: gs =>
    (if m.first ≤ i ∧ i ≤ m.last ∧ g ≠ .gap then .grade m.grade else g) :: applyMark m (i + 1) gs

/-- The cell grades of a board of extent `e` after the marks (R40, R41). -/
def gradeCells (set : GradeSet) (unseen : Nat) (marks : List Mark) (cells : List Cell) (e : Nat) : List CellGrade :=
  marks.foldl (fun gs m => applyMark m 0 gs) ((cells.take e).map (cellGrade set unseen))

/-! ## Stage 2 (R42) -/

/-- Which cells below the extent are gaps, graded E: the EMPTY ones (R41: no mark changes which cells are E). -/
def gapsOf (cells : List Cell) (e : Nat) : List Bool := (cells.take e).map (· == .empty)

/-- The part of a list of cells that a span of saws covers: cells a × P to b × P - 1. -/
def spanCells {α : Type} (pitch a b : Nat) (l : List α) : List α := (l.drop (a * pitch)).take ((b - a) * pitch)

/-- The length of a span is allowed: exactly the forced length, or else at least the minimum (R42). -/
def lengthAllowed (minLength : Nat) (forced : Option Nat) (n : Nat) : Bool :=
  match forced with
  | some f => n == f
  | none => decide (minLength ≤ n)

/-- A span is valid (R42): it ends at or below the extent, holds no gap, and has an allowed length. -/
def spanValid (pitch e : Nat) (gaps : List Bool) (minLength : Nat) (forced : Option Nat) (a b : Nat) : Bool :=
  decide (a < b) && decide (b * pitch ≤ e) && !(spanCells pitch a b gaps).any id && lengthAllowed minLength forced (b - a)

/-- Every pair of saws a < b of S saws. -/
def sawPairs (saws : Nat) : List (Nat × Nat) :=
  (List.range saws).flatMap fun a => ((List.range saws).filter (a < ·)).map fun b => (a, b)

/-- The valid spans. -/
def validSpans (g : Geometry) (e : Nat) (gaps : List Bool) (minLength : Nat) (forced : Option Nat) : List (Nat × Nat) :=
  (sawPairs g.saws).filter fun p => spanValid g.pitch e gaps minLength forced p.1 p.2

/-! ## Stage 3 (R43, R44) -/

/-- A cell graded `g + 1` or better counts as no worse than one grade below `g`. A gap is worse than every grade. -/
def CellGrade.noWorse (limit : Nat) : CellGrade → Bool
  | .gap => false
  | .grade g => decide (g ≤ limit)

/-- The smallest grade from `g` on that a span qualifies for, given the records from that grade on (R43); 7 past the last. -/
def qualify (cells : List CellGrade) (g : Nat) : List GradeRecord → Nat
  | [] => g
  | r :: rs =>
    if cells.all (·.noWorse (g + 1)) && decide (cells.count (.grade (g + 1)) ≤ r.allowance) then g
    else qualify cells (g + 1) rs

/-- The span grade G (R43), or the forced grade (R44). -/
def spanGrade (set : GradeSet) (forced : Option Nat) (cells : List CellGrade) : Nat :=
  match forced with
  | some f => f
  | none => qualify cells 1 set.items

/-! ## Stages 4 and 5 (R45, R46) -/

/-- The first span is chosen before the second: greater V, then longer, then smaller a (R46). -/
def Keep.beats (x y : Keep) : Bool :=
  decide (y.value < x.value)
    || (x.value == y.value && (decide (y.length < x.length) || (x.length == y.length && decide (x.a < y.a))))

/-- The better of the span in hand and the next. -/
def pickBetter (best : Option Keep) (k : Keep) : Option Keep :=
  match best with
  | none => some k
  | some b => if k.beats b then some k else some b

/-- The span chosen among candidates (R46). -/
def choose (l : List Keep) : Option Keep := l.foldl pickBetter none

/-- The candidates of a solve: each valid span with its grade and its value. -/
def candidates (t : Tables) (p : Product) (o : Overrides) (grades : List CellGrade) (gaps : List Bool) (e : Nat) :
    List Keep :=
  (validSpans t.geometry e gaps p.minLength o.forcedLength).map fun (a, b) =>
    let grade := spanGrade (t.gradeSetOf p) o.forcedGrade (spanCells t.geometry.pitch a b grades)
    { a := a, b := b, grade := .graded grade, value := t.price p grade (b - a) }

/-- The source of a solution (R48). -/
def Overrides.source (o : Overrides) : Source := if o.inForce then .override else .solver

/-- One solve (R39 to R48): the solution of a piece from the inputs taken at its start, and the grade set and price set
held for it (R53). -/
def solve (t : Tables) (job : SolveJob) : Solution :=
  match job.extent with
  | none =>
    { keep := none, noSpan := false, generation := job.generation, source := job.overrides.source, cellGrades := [] }
  | some e =>
    let grades := gradeCells (t.gradeSetOf job.product) job.product.unseen job.overrides.marks job.cells e
    let best :=
      if job.overrides.forcedScrap then none
      else choose (candidates t job.product job.overrides grades (gapsOf job.cells e) e)
    { keep := best, noSpan := !job.overrides.forcedScrap && best.isNone, generation := job.generation,
      source := job.overrides.source, cellGrades := grades }

/-! ## The fallback (R49) -/

/-- The outcome of the fallback: what is kept, and NO_SPAN. -/
structure FallbackOutcome where
  keep : Option Keep
  noSpan : Bool
deriving DecidableEq, Repr

/-- The fallback at commit (R49): the longest valid span, among equally long ones the one nearest the fence, grade U and
value 0; its cases in the order of the table. -/
def fallbackDecision (g : Geometry) (p : Product) (o : Overrides) (cells : List Cell) (extent : Option Nat) :
    FallbackOutcome :=
  match extent with
  | none => { keep := none, noSpan := false }
  | some e =>
    if o.forcedScrap || p.fallback == .scrap then { keep := none, noSpan := false }
    else
      let best :=
        choose ((validSpans g e (gapsOf cells e) p.minLength o.forcedLength).map fun (a, b) =>
          { a := a, b := b, grade := .ungraded, value := 0 })
      { keep := best, noSpan := best.isNone }

/-- A gap-free span of exactly `n` steps exists on the piece as scanned (R91). -/
def hasSpanOf (g : Geometry) (cells : List Cell) (extent : Option Nat) (n : Nat) : Bool :=
  match extent with
  | none => false
  | some e => !(validSpans g e (gapsOf cells e) 0 (some n)).isEmpty

/-! ## The saw pattern (R102) -/

/-- The setting of saw `s`, DROPPED as `true` (R102). -/
def sawDropped (pitch : Nat) (extent : Option Nat) (keep : Option Keep) (s : Nat) : Bool :=
  match extent, keep with
  | none, _ => true
  | some e, none => decide (s * pitch < e)
  | some e, some k => decide (s * pitch < e) && (decide (s ≤ k.a) || decide (k.b ≤ s))

/-- The pattern of a piece: the setting of every saw (R102). -/
def sawPattern (g : Geometry) (extent : Option Nat) (keep : Option Keep) : List Bool :=
  (List.range g.saws).map (sawDropped g.pitch extent keep)

/-- The eight settings of a module, bit i set for position i DROPPED; a position with no saw fitted is RAISED (R103). -/
def moduleSettings (pattern : List Bool) (m : Fin 2) : Byte := u8 (packBits ((pattern.drop (8 * m.val)).take 8))

end Sys2Proof.Machine
end

