-- ==== Sys2Proof/Machine/State.lean ====
section
/-! DEFINITION. The state of the 7140: what each of the ten blocks owns (section 2), the commands waiting, and the state
right after power-on. INVENTORY.md lists every field with its rule and reset value. -/

namespace Sys2Proof.Machine

/-- The manual stops the part nowhere: every condition it names is a cause, a count, a refusal reply, a flag or a state. So
no command ends in a fault, and this type has no constructor (notes/assumptions/23.md). -/
inductive Fault
deriving DecidableEq, Repr

/-- Refusals of the model. -/
inductive Refusal where
  /-- Raised only by exec's arm of a command that has no meaning yet; no arm raises it. Safe: the model stops. -/
  | notModelled (mnemonic : String)
deriving DecidableEq, Repr

/-- What the Transport Tracker owns (Chapter 1). -/
structure Tracker where
  phaseA : Bool
  phaseB : Bool
  pos : Nat
  lastAdvance : LastAdvance
  nextTag : Nat
  line : LineState
  runUp : Nat
  stopTimer : Option Nat
  advanceTimes : List Nat
  ring : List Slot
deriving DecidableEq, Repr

/-- What the Scan Intake owns beside the scan records (Chapter 2). -/
structure ScanIntake where
  heads : Bank 4 Head
  stray : Nat
  late : Nat
  malformed : Nat
  triggers : Bank 4 TriggerLink
deriving DecidableEq, Repr

/-- What the Board Solver owns beside the solve records (Chapter 3). -/
structure Solver where
  engine : Option SolveJob
  abandoned : Nat
deriving DecidableEq, Repr

/-- What the Table Store owns beside the tables (section 4.8). -/
structure Store where
  activity : Activity
  status : ImageStatus
  editMark : Bool
  memory : List Host.Cell
deriving DecidableEq, Repr

/-- What the Saw Bus Controller owns beside the commit records (Chapter 6). -/
structure SawBus where
  modules : Bank 2 Module
  exchange : Option Exchange
  wait : Option Nat
  sent : Option (List Byte)
  discarded : Nat
deriving DecidableEq, Repr

/-- What the Log Lane owns (Chapter 7). -/
structure LogLane where
  phaseA : Bool
  phaseB : Bool
  state : LaneState
  queue : List QueuedLog
  discards : Nat
deriving DecidableEq, Repr

/-- What the Run and Tally Unit owns: the occupied records of the run table, in the order the runs were opened, and the
last sequence number issued (Chapter 8). -/
structure RunTable where
  records : List Run
  lastIssued : Nat
deriving DecidableEq, Repr

/-- What Field I/O owns (Chapter 9). -/
structure FieldIO where
  inputs : Bank 8 Input
  outputs : Bank 8 Output
deriving DecidableEq, Repr

/-- What the Control Link Port owns (Chapter 10). -/
structure ControlPort where
  rate : LinkRate
  inProcess : Option InProcess
  replies : List Frame
  sending : Option (List Byte)
  reports : List Frame
  nextReport : Nat
  dropped : Nat
  pendingCauses : CauseSet
  alertMask : CauseSet
deriving DecidableEq, Repr

/-- The whole part, and the commands waiting for it. -/
structure State where
  clock : Nat
  freeCount : Nat
  tracker : Tracker
  scan : ScanIntake
  solver : Solver
  tables : Tables
  store : Store
  consoles : Bank 4 Console
  saw : SawBus
  lane : LogLane
  runs : RunTable
  field : FieldIO
  ctl : ControlPort
  links : Bank 11 LinkReceiver
  pending : List Instr
deriving DecidableEq, Repr

/-- The state right after power-on, with both rate straps and every pin low (notes/assumptions/5.md) and the run-up count 0
(DESIGN CHOICE, notes/assumptions/41.md): every block's
power-on state (R20, R38, R60, R78, R98, R117, R133, R151, R154, R159), the image load begun (R74), and, of the causes,
MODULE_OFFLINE pending with its CAUSE report (R168). -/
def State.reset : State :=
  { clock := 0
    freeCount := 0
    tracker :=
      { phaseA := false, phaseB := false, pos := 0, lastAdvance := .none, nextTag := 0, line := .starting, runUp := 0,
        stopTimer := none, advanceTimes := [], ring := [] }
    scan :=
      { heads := Bank.fill 4 { status := .up, misses := 0 }, stray := 0, late := 0, malformed := 0,
        triggers := Bank.fill 4 { sending := none, waiting := [] } }
    solver := { engine := none, abandoned := 0 }
    tables := Tables.default
    store := { activity := .loading .startUp, status := .defaults, editMark := false, memory := [] }
    consoles := Bank.fill 4 { subscribed := false, queue := [], sending := none, dropped := 0 }
    saw :=
      { modules :=
          Bank.fill 2 { online := false, lastRead := none, lastFault := none, retries := 0, timeouts := 0, faults := 0 },
        exchange := none, wait := none, sent := none, discarded := 0 }
    lane := { phaseA := false, phaseB := false, state := .idle, queue := [], discards := 0 }
    runs :=
      { records := [{ seq := 1, product := 0, state := .both, saturated := false, tally := Tally.zero }], lastIssued := 1 }
    field :=
      { inputs := Bank.fill 8 { pin := false, filtered := false, timer := none },
        outputs := Bank.fill 8 { force := .none, pulse := none, wave := none, level := false } }
    ctl :=
      { rate := .b115200, inProcess := none, replies := [], sending := none,
        reports := [{ kind := 0xE3, tag := 0, payload := [5, 0, 0x20] }],
        nextReport := 1, dropped := 0, pendingCauses := 0x0020, alertMask := 0x3FFF }
    links := Bank.fill 11 { held := [], discarded := 0 }
    pending := [] }

end Sys2Proof.Machine
end

