-- ==== Sys2Proof/Machine/Flags.lean ====
section
/-! DEFINITION. The conditions and figures the manual derives from the state: the alert condition, the call conditions, the
conditions of the level causes, coverage, the lug rate, the current runs, open slots, recovery. None is held. -/

namespace Sys2Proof.Machine

/-! ## Geometry and ring -/

/-- The GEOMETRY entry in force. -/
def State.geo (s : State) : Geometry := s.tables.geometry

/-- The slot with a tag. -/
def State.slot? (s : State) (tag : Nat) : Option Slot := s.tracker.ring.find? (·.tag == tag)

/-- The ring holds a slot of kind BOARD (R16). -/
def State.hasBoard (s : State) : Bool := s.tracker.ring.any (·.kind == .board)

/-- The modules of the module count (R103). -/
def State.activeModules (s : State) : List (Fin 2) :=
  (List.finRange 2).filter fun m => decide (m.val < s.tables.sawBus.modules)

/-! ## Field inputs (R152) -/

/-- The raw level of an input: its pin read through its polarity. -/
def rawLevel (e : InputEntry) (i : Input) : Bool :=
  match e.polarity with
  | .activeHigh => i.pin
  | .activeLow => !i.pin

/-- The filtered input bound to a function is ACTIVE; false while none is bound to it. -/
def State.inputActive (s : State) (f : InputFunction) : Bool :=
  (List.finRange 8).any fun i => (s.tables.inputs.get i).function == f && (s.field.inputs.get i).filtered

/-! ## Causes (R168, R169) -/

/-- A cause is pending. -/
def State.isPending (s : State) (c : Cause) : Bool := s.ctl.pendingCauses.getLsbD c.number.val

/-- The alert condition: a cause the mask names is pending (R169). -/
def State.alert (s : State) : Bool := (s.ctl.pendingCauses &&& s.ctl.alertMask) != 0

/-- HEAD_DOWN's condition: a head is DOWN (R22). -/
def State.headDown (s : State) : Bool := s.scan.heads.items.any (·.status == .down)

/-- MODULE_OFFLINE's condition: a module of the module count is OFFLINE (R110). -/
def State.moduleOffline (s : State) : Bool := s.activeModules.any fun m => !(s.saw.modules.get m).online

/-- INHIBIT_ACTIVE's condition: the filtered TRIM_INHIBIT input is active (R104). -/
def State.inhibitActive (s : State) : Bool := s.inputActive .trimInhibit

/-- The level causes whose condition holds (section 10.5). -/
def State.levelConditions (s : State) : CauseSet :=
  (if s.headDown then Cause.headDown.bit else 0)
    ||| (if s.moduleOffline then Cause.moduleOffline.bit else 0)
    ||| (if s.inhibitActive then Cause.inhibitActive.bit else 0)

/-! ## The grader call (R94) -/

/-- The stored solution of a slot. -/
def Slot.solution (x : Slot) : Option Solution := x.solve.bind (·.solution)

/-- The piece's generation; 0 before the hand-over. -/
def Slot.generation (x : Slot) : Nat := (x.solve.map (·.generation)).getD 0

/-- A solution is poor for a call grade: SCRAP, or kept at a grade at or above it (section 5.7). -/
def Solution.poorFor (callGrade : Nat) (sol : Solution) : Bool :=
  match sol.keep with
  | none => true
  | some k =>
    match k.grade with
    | .graded g => decide (callGrade ≤ g)
    | .ungraded => true

/-- A piece counts towards the call of an output with this call grade (R94). -/
def Slot.calls (callGrade : Nat) (x : Slot) : Bool :=
  x.kind == .board && x.console.window == .open && x.console.holder.isNone
    && (match x.solution with | some sol => sol.poorFor callGrade | none => false)

/-- The call condition of an output whose function is GRADER_CALL (R94). -/
def State.callCondition (s : State) (e : OutputEntry) : Bool := s.tracker.ring.any (Slot.calls e.callGrade)

/-! ## Heads (R22) -/

/-- Coverage is FULL: a head is enabled and every enabled head is UP (R22). -/
def State.coverageFull (s : State) : Bool :=
  s.scan.heads.items.any (·.status != .disabled) && s.scan.heads.items.all (·.status != .down)

/-! ## The lug rate (R8) -/

/-- The time in ms. -/
def State.nowMs (s : State) : Nat := s.clock / 2

/-- The lug rate in lugs per minute: 60000 over the ms between the last two advances, rounded half up, an interval below
1 ms taken as 1 ms; 0 unless RUNNING with two times held (R8). -/
def State.lugRate (s : State) : Nat :=
  match s.tracker.line, s.tracker.advanceTimes with
  | .running, t2 :: t1 :: _ =>
    let d := max 1 (t2 - t1)
    (120000 + d) / (2 * d)
  | _, _ => 0

/-! ## Runs (R134, R137) -/

/-- A run is log-current: state LOGS or BOTH (R134). -/
def RunState.logCurrent : RunState → Bool
  | .logs => true
  | .both => true
  | _ => false

/-- A run is board-current: state BOTH or BOARDS (R134). -/
def RunState.boardCurrent : RunState → Bool
  | .both => true
  | .boards => true
  | _ => false

/-- The log-current run. -/
def State.logRun (s : State) : Option Run := s.runs.records.find? (·.state.logCurrent)

/-- The board-current run. -/
def State.boardRun (s : State) : Option Run := s.runs.records.find? (·.state.boardCurrent)

/-- The sequence number of the log-current run. -/
def State.logSeq (s : State) : Nat := (s.logRun.map (·.seq)).getD 0

/-- The sequence number of the board-current run. -/
def State.boardSeq (s : State) : Nat := (s.boardRun.map (·.seq)).getD 0

/-- The run with a sequence number. -/
def State.run? (s : State) (seq : Nat) : Option Run := s.runs.records.find? (·.seq == seq)

/-- The product of the run with a sequence number, as held now (R65). Every slot's run exists (R138); product 0 stands
where a state no run of the part reaches names none. -/
def State.productOf (s : State) (seq : Nat) : Product :=
  s.tables.product (((s.run? seq).map (·.product)).getD 0)

/-- The product of the log-current run (R124). -/
def State.logProduct (s : State) : Product := s.tables.product ((s.logRun.map (·.product)).getD 0)

/-- A slot is an open slot of a run: its run field names it and its kind is BOARD or UNDECIDED (R137). -/
def Slot.openIn (seq : Nat) (x : Slot) : Bool := x.run == seq && x.kind != .empty

/-- The number of a run's open slots (R137). -/
def State.openSlots (s : State) (seq : Nat) : Nat := s.tracker.ring.countP (Slot.openIn seq)

/-- The number of a run's BOARD slots in the ring (R140, R148). -/
def State.boardSlots (s : State) (seq : Nat) : Nat :=
  s.tracker.ring.countP fun x => x.run == seq && x.kind == .board

/-- Kept pieces: the sum of the 120 kept counters (section 8.3). -/
def Tally.keptPieces (t : Tally) : Nat := (t.kept.items.map (·.items.sum)).sum

/-- Board volume total: the sum of the 8 volume counters (section 8.3). -/
def Tally.volumeTotal (t : Tally) : Nat := t.volume.items.sum

/-- Recovery in per-mille (R147). -/
def Tally.recovery (t : Tally) : Nat :=
  if t.acceptedVolume = 0 then 0 else min 9999 (t.volumeTotal * 1000 / t.acceptedVolume)

/-! ## The solve queue and claims -/

/-- A piece is in the solve queue: its solve status is QUEUED (section 3.7). -/
def Slot.isQueued (x : Slot) : Bool := (x.solve.map (·.status)) == some .queued

/-- The solve queue, at the highest offset first: the ring is oldest first. -/
def State.solveQueue (s : State) : List Slot := s.tracker.ring.filter Slot.isQueued

/-- The tags a console holds claims on (section 5.3), oldest slot first: section 5.3 keeps a set, and the order in which STATUS
sends its tags is the model's (DESIGN CHOICE, notes/assumptions/31.md). -/
def State.claims (s : State) (c : Fin 4) : List Nat :=
  (s.tracker.ring.filter (·.console.holder == some c)).map (·.tag)

/-- The grade set the running solve uses (R53). -/
def State.gradeSetInUse (s : State) : Option Nat := s.solver.engine.map (·.product.gradeSet)

/-- The price set the running solve uses (R53). -/
def State.priceSetInUse (s : State) : Option Nat := s.solver.engine.map (·.product.priceSet)

end Sys2Proof.Machine
end

