-- ==== Sys2Proof/Machine/Ops.lean ====
section
/-! DEFINITION. The operations that the blocks share: slots of the ring, outputs judged afresh, reports and causes, replies,
send queues, pulses, tally counters. Each follows the rules it cites. -/

namespace Sys2Proof.Machine

/-- A 16-bit count increased by 1, stopping at 65535 (R35, R57, R80, R105, R108, R118, R161, R167). -/
def bump (n : Nat) : Nat := min (n + 1) Config.countMax

/-! ## Slots -/

/-- The ring replaced. -/
def State.setRing (s : State) (ring : List Slot) : State := { s with tracker := { s.tracker with ring := ring } }

/-- The slot with a tag changed, the others as they were. -/
def changeSlot (tag : Nat) (f : Slot → Slot) (ring : List Slot) : List Slot :=
  ring.map fun x => if x.tag == tag then f x else x

/-- The slot with a tag changed. -/
def State.updateSlot (s : State) (tag : Nat) (f : Slot → Slot) : State := s.setRing (changeSlot tag f s.tracker.ring)

/-! ## Outputs (R155 to R157) -/

/-- The beacon wave judged afresh: it runs while the alert condition holds and the function is BEACON, from the start of
its on phase; otherwise it is stopped (R157). -/
def judgeWave (alert : Bool) (e : OutputEntry) (w : Option Wave) : Option Wave :=
  if e.function == .beacon && alert then some (w.getD { on := true, left := e.rate.halfPeriod }) else none

/-- What the function drives (R155). -/
def functionLevel (alert call : Bool) (e : OutputEntry) (o : Output) : Bool :=
  match e.function with
  | .none => false
  | .fire => o.pulse.isSome
  | .kick => o.pulse.isSome
  | .alert => alert
  | .beacon => (o.wave.map (·.on)).getD false
  | .graderCall => call
  | .general => false

/-- The level driven: the force, or else what the function drives (R155). -/
def outputLevel (alert call : Bool) (e : OutputEntry) (o : Output) : Bool :=
  match o.force with
  | .on => true
  | .off => false
  | .none => functionLevel alert call e o

/-- One output judged afresh: its wave, then its level. -/
def judgeOutput (alert call : Bool) (e : OutputEntry) (o : Output) : Output :=
  let o' := { o with wave := judgeWave alert e o.wave }
  { o' with level := outputLevel alert call e o' }

/-- The outputs replaced. -/
def State.setOutputs (s : State) (outs : Bank 8 Output) : State := { s with field := { s.field with outputs := outs } }

/-- Every output judged afresh, at an event that can change one of its terms (R155, R157). -/
def State.judge (s : State) : State :=
  s.setOutputs <| Bank.ofFn fun i =>
    let e := s.tables.outputs.get i
    judgeOutput s.alert (s.callCondition e) e (s.field.outputs.get i)

/-- One output changed. -/
def State.setOutput (s : State) (o : Fin 8) (f : Output → Output) : State :=
  s.setOutputs (s.field.outputs.modify o f)

/-- A pulse asked for by function: the pulse timer of every output with that function started with its entry's width (R156).
Timers are in half milliseconds. -/
def State.pulse (s : State) (fn : OutputFunction) : State :=
  State.judge <| s.setOutputs <| Bank.ofFn fun i =>
    let e := s.tables.outputs.get i
    let o := s.field.outputs.get i
    if e.function == fn then { o with pulse := some (2 * e.width) } else o

/-! ## Reports and causes (R167 to R169) -/

/-- The control port changed. -/
def State.setCtl (s : State) (f : ControlPort → ControlPort) : State := { s with ctl := f s.ctl }

/-- A report takes the next report number and joins the tail, or is discarded and counted where the queue holds 64 (R167). -/
def ControlPort.offer (c : ControlPort) (kind : Byte) (payload : List Byte) : ControlPort :=
  let c' := { c with nextReport := (c.nextReport + 1) % 256 }
  if c.reports.length < Config.reportPlaces then
    { c' with reports := c.reports ++ [{ kind := kind, tag := u8 c.nextReport, payload := payload }] }
  else { c' with dropped := bump c.dropped }

/-- The kinds of the reports (section 11.3). -/
def exitKind : Byte := 0xE1
def logKind : Byte := 0xE2
def causeKind : Byte := 0xE3

/-- The payload of a CAUSE report: the cause's number and the pending set (section 11.3). -/
def causePayload (c : Cause) (pending : CauseSet) : List Byte := u8 c.number.val :: u16 pending.toNat

/-- A cause made pending, with its CAUSE report asked for (R168); the port alone. -/
def ControlPort.pend (c : ControlPort) (x : Cause) : ControlPort :=
  let c' := { c with pendingCauses := c.pendingCauses ||| x.bit }
  c'.offer causeKind (causePayload x c'.pendingCauses)

/-- A report asked for (R167). Where the queue is full REPORT_OVERFLOW is raised: the CAUSE report it calls for meets the
same full queue, is discarded and counted, and raises nothing further. -/
def ControlPort.report (c : ControlPort) (kind : Byte) (payload : List Byte) : ControlPort :=
  let c' := c.offer kind payload
  if c.reports.length < Config.reportPlaces || c.pendingCauses.getLsbD Cause.reportOverflow.number.val then c'
  else c'.pend .reportOverflow

/-- A report asked for by a block, and the outputs told of the alert condition (R167, R169). -/
def State.report (s : State) (kind : Byte) (payload : List Byte) : State := (s.setCtl (·.report kind payload)).judge

/-- A cause raised (R168): a clear cause becomes pending and a CAUSE report is asked for; a pending one stays so. -/
def State.raise (s : State) (x : Cause) : State :=
  if s.isPending x then s
  else
    let c' := { s.ctl with pendingCauses := s.ctl.pendingCauses ||| x.bit }
    ({ s with ctl := c'.report causeKind (causePayload x c'.pendingCauses) } : State).judge

/-! ## Replies on the control link (R163, R164, section 11.2) -/

/-- The refusal codes of the control link. -/
inductive HostCode where
  | badKind | badLength | badValue | state | busy | tableFull | noSuch | pendingCutover | imageFault
deriving DecidableEq, Repr

/-- The byte of a refusal code (section 11.2). -/
def HostCode.code : HostCode → Byte
  | .badKind => 1 | .badLength => 2 | .badValue => 3 | .state => 4 | .busy => 5
  | .tableFull => 6 | .noSuch => 7 | .pendingCutover => 8 | .imageFault => 9

/-- The OK reply to a request of a kind: the kind plus 0x80, the request's tag, its data (section 11.2). -/
def okFrame (kind frameTag : Byte) (data : List Byte) : Frame := { kind := kind + 0x80, tag := frameTag, payload := data }

/-- The REFUSED reply (section 11.2). -/
def refusedFrame (kind frameTag : Byte) (code : HostCode) : Frame :=
  { kind := 0xFF, tag := frameTag, payload := [kind, code.code] }

/-- A reply made: it waits behind those made before it (R164). -/
def State.reply (s : State) (f : Frame) : State := s.setCtl fun c => { c with replies := c.replies ++ [f] }

/-- OK. -/
def State.ok (s : State) (kind frameTag : Byte) (data : List Byte) : State := s.reply (okFrame kind frameTag data)

/-- REFUSED with a code. A refused request changes no other state (section 4 of the introduction). -/
def State.refuse (s : State) (kind frameTag : Byte) (code : HostCode) : State := s.reply (refusedFrame kind frameTag code)

/-! ## Receivers (R161) -/

/-- The number of a link, in the order R161 names their owners. -/
def linkIndex : Link → Fin 11
  | .control => 0
  | .head h => ⟨1 + h.val, by omega⟩
  | .console c => ⟨5 + c.val, by omega⟩
  | .sawBus => 9
  | .log => 10

/-- A link's receiver changed. -/
def State.setLink (s : State) (l : Link) (f : LinkReceiver → LinkReceiver) : State :=
  { s with links := s.links.modify (linkIndex l) f }

/-- A frame that passed is handed on, and the receiver hunts from the byte after its CRC (R161): of the bytes it still held,
those past the frame. -/
def State.received (s : State) (l : Link) (payload : List Byte) : State :=
  s.setLink l fun r => { r with held := hunt (r.held.drop (payload.length + 6)) }

/-- The bytes of the whole frame that a list of bytes begins with. -/
def frameLength (bytes : List Byte) : Nat := ((bytes[1]?).getD 0).toNat + 6

/-- A receiver judges what it holds until it holds an unfinished frame or nothing (R161): a bad frame is counted and the receiver
hunts from the byte after its sync byte, a frame that passes is taken off. The first argument bounds the judgements. -/
def LinkReceiver.settle : Nat → LinkReceiver → LinkReceiver
  | 0, r => r
  | n + 1, r =>
    match judgeBytes r.held with
    | .incomplete => r
    | .bad => LinkReceiver.settle n { held := hunt r.held.tail, discarded := bump r.discarded }
    | .good => LinkReceiver.settle n { r with held := hunt (r.held.drop (frameLength r.held)) }

/-- A receiver of a half-duplex link takes the bytes of a frame that the 7140 sends there, which is not handed on (R161). Each
judgement drops a byte at least, so as many as there are bytes suffice. -/
def LinkReceiver.takeSent (wire : List Byte) (r : LinkReceiver) : LinkReceiver :=
  LinkReceiver.settle (r.held.length + wire.length) { r with held := hunt (r.held ++ wire) }

/-- A frame discarded on a link and counted there (R80, R161, R164). -/
def State.countDiscard (s : State) (l : Link) : State := s.setLink l fun r => { r with discarded := bump r.discarded }

/-! ## The consoles' send queues (R80) -/

/-- One console changed. -/
def State.setConsole (s : State) (c : Fin 4) (f : Console → Console) : State :=
  { s with consoles := s.consoles.modify c f }

/-- Every subscribed console changed. -/
def State.tellSubscribers (s : State) (f : Console → Console) : State :=
  { s with consoles := s.consoles.map fun c => if c.subscribed then f c else c }

/-- A frame is a PROPOSAL or WITHDRAW. -/
def ConsoleFrame.isOffer : ConsoleFrame → Bool
  | .reply _ => false
  | .proposal _ _ => true
  | .withdraw _ _ => true

/-- A frame is a PROPOSAL for a tag. -/
def ConsoleFrame.isProposalFor (tag : Nat) : ConsoleFrame → Bool
  | .proposal t _ => t == tag
  | _ => false

/-- The replies waiting in a console's queue. -/
def Console.repliesWaiting (c : Console) : Nat := c.queue.countP fun f => !f.isOffer

/-- The PROPOSAL and WITHDRAW frames waiting in a console's queue. -/
def Console.offersWaiting (c : Console) : Nat := c.queue.countP ConsoleFrame.isOffer

/-- A reply joins the tail (R80). -/
def Console.join (c : Console) (f : Frame) : Console := { c with queue := c.queue ++ [.reply f] }

/-- A PROPOSAL or WITHDRAW joins the tail, or is discarded and counted where 32 of them wait (R80). -/
def Console.joinOffer (c : Console) (f : ConsoleFrame) : Console :=
  if c.offersWaiting < Config.offerPlaces then { c with queue := c.queue ++ [f] } else { c with dropped := bump c.dropped }

/-- A PROPOSAL takes the place of one for the same tag still waiting, or else joins the tail (R80). -/
def Console.propose (tag : Nat) (f : Frame) (c : Console) : Console :=
  if c.queue.any (·.isProposalFor tag) then
    { c with queue := c.queue.map fun g => if g.isProposalFor tag then .proposal tag f else g }
  else c.joinOffer (.proposal tag f)

/-- A WITHDRAW removes any PROPOSAL for its tag still waiting, then joins the tail (R80). -/
def Console.withdraw (tag : Nat) (f : Frame) (c : Console) : Console :=
  ({ c with queue := c.queue.filter fun g => !g.isProposalFor tag } : Console).joinOffer (.withdraw tag f)

/-! ## Tally counters (R146) -/

/-- A counter increased: it stops at its maximum, and the saturated mark is set when it first does. -/
def Run.count (c : Counter) (n : Nat) (r : Run) : Run :=
  let v := min (r.tally.get c + n) Config.tallyMax
  { r with
    tally := r.tally.set c v
    saturated := r.saturated || (decide (r.tally.get c < Config.tallyMax) && v == Config.tallyMax) }

/-- The run table replaced. -/
def State.setRuns (s : State) (f : List Run → List Run) : State :=
  { s with runs := { s.runs with records := f s.runs.records } }

/-- The run with a sequence number changed, the others as they were. -/
def changeRun (seq : Nat) (f : Run → Run) (records : List Run) : List Run :=
  records.map fun r => if r.seq == seq then f r else r

/-- Counters of one run increased in turn. -/
def Run.countAll (l : List (Counter × Nat)) (r : Run) : Run := l.foldl (fun r p => r.count p.1 p.2) r

/-- A tally entry made at one event: counters of the run with a sequence number increased, and TALLY_SATURATED raised where
the run's saturated mark becomes set by it (R141, R145, R146). -/
def State.enter (s : State) (seq : Nat) (l : List (Counter × Nat)) : State :=
  let s' := s.setRuns (changeRun seq (·.countAll l))
  if s.runs.records.any fun r => r.seq == seq && !r.saturated && (r.countAll l).saturated then s'.raise .tallySaturated
  else s'

/-- A DRAINING run with no open slot becomes CLOSED (R138). -/
def Run.closeIfDrained (ring : List Slot) (r : Run) : Run :=
  if r.state == .draining && ring.countP (Slot.openIn r.seq) == 0 then { r with state := .closed } else r

/-- Every DRAINING run left with no open slot becomes CLOSED (R138). -/
def State.closeDrained (s : State) : State := s.setRuns (·.map (Run.closeIfDrained s.tracker.ring))

/-! ## The image status and the line -/

/-- The store changed. -/
def State.setStore (s : State) (f : Store → Store) : State := { s with store := f s.store }

/-- The tracker changed. -/
def State.setTracker (s : State) (f : Tracker → Tracker) : State := { s with tracker := f s.tracker }

/-- Entry to STOPPED (R6, R8): the run-up count becomes 0, the stop timer stops and the lug-rate record is emptied. -/
def State.enterStopped (s : State) : State :=
  s.setTracker fun t => { t with line := .stopped, runUp := 0, stopTimer := none, advanceTimes := [] }

end Sys2Proof.Machine
end

