-- ==== Sys2Proof/Machine/Operands.lean ====
section
/-! DEFINITION. The payloads of the frames received, read by the layouts of Chapter 11. Each reader answers `none` where the
payload's length does not agree with the frame's kind or a field holds a code no table lists (R171). -/

namespace Sys2Proof.Machine

/-- A two-byte number alone: a lug tag, a log number, a slice count, a cause mask, a sequence number. -/
def readWord : List Byte → Option Nat
  | [hi, lo] => some (word hi lo)
  | _ => none

/-- A lug tag and one byte: FORCE GRADE and FORCE LENGTH (section 11.5). -/
def readTagByte : List Byte → Option (Nat × Nat)
  | [hi, lo, b] => some (word hi lo, b.toNat)
  | _ => none

/-- What a MARK names (section 11.5). -/
structure MarkRequest where
  tag : Nat
  mark : Mark
deriving DecidableEq, Repr

/-- A MARK: lug tag, first cell, last cell, grade (section 11.5). -/
def readMark : List Byte → Option MarkRequest
  | [hi, lo, f, l, g] => some { tag := word hi lo, mark := { first := f.toNat, last := l.toNat, grade := g.toNat } }
  | _ => none

/-- A SLICE: index, d1, d2 (section 11.4). -/
structure SliceData where
  index : Nat
  d1 : Nat
  d2 : Nat
deriving DecidableEq, Repr

/-- A SLICE as read; d1 and d2 are taken clamped to 2000 (section 7.1). -/
def readSlice : List Byte → Option SliceData
  | [i1, i0, a1, a0, b1, b0] =>
    some { index := word i1 i0, d1 := min 2000 (word a1 a0), d2 := min 2000 (word b1 b0) }
  | _ => none

/-! ## SEGMENT (sections 2.3 and 11.4) -/

/-- One entry of a SEGMENT, 9 bytes: status, thickness, width, wane, knot, defects. Each value beyond its field's range is
clamped (R25); any status but EMPTY and PRESENT makes the segment malformed. -/
def readEntry : List Byte → Option Cell
  | [st, t1, t0, w1, w0, n1, n0, k, d] =>
    if st = 0 then some .empty
    else if st = 1 then
      some (.present
        { thickness := min 2000 (word t1 t0), width := min 4500 (word w1 w0), wane := min 4500 (word n1 n0),
          knot := min 255 k.toNat, split := d.getLsbD 0, decay := d.getLsbD 1 })
    else none
  | _ => none

/-- The entries of a SEGMENT: exactly `n` of them. -/
def readEntries : Nat → List Byte → Option (List Cell)
  | 0, l => if l.isEmpty then some [] else none
  | n + 1, l => do
    let c ← readEntry (l.take 9)
    let cs ← readEntries n (l.drop 9)
    pure (c :: cs)

/-- What a SEGMENT carries. -/
structure SegmentData where
  tag : Nat
  first : Nat
  last : Bool
  entries : List Cell
deriving DecidableEq, Repr

/-- A SEGMENT that is not malformed: a count of 1 to 16, a length that agrees with it, every status known (R25). -/
def readSegment : List Byte → Option SegmentData
  | hi :: lo :: first :: count :: flags :: body =>
    if within 1 16 count.toNat then
      (readEntries count.toNat body).map fun es =>
        { tag := word hi lo, first := first.toNat, last := flags.getLsbD 0, entries := es }
    else none
  | _ => none

/-! ## The saw bus (section 11.4) -/

/-- A STATE answer: the address and what the module reports. -/
def readState : List Byte → Option (Nat × ModuleReading)
  | [a, mask, seq, down] => some (a.toNat, { mask := mask, seq := seq, down := down })
  | _ => none

/-- An ACK or RETRY: the address. -/
def readAddress : List Byte → Option Nat
  | [a] => some a.toNat
  | _ => none

/-- A FAULT: the address and the fault code. -/
def readFault : List Byte → Option (Nat × Byte)
  | [a, code] => some (a.toNat, code)
  | _ => none

/-! ## TABLE WRITE and OUTPUT FORCE (section 11.2) -/

/-- The first two bytes of a TABLE READ or TABLE WRITE, table kind and index, and what follows. -/
def readTablePlace : List Byte → Option (Byte × Nat × List Byte)
  | k :: i :: body => some (k, i.toNat, body)
  | _ => none

/-- An output number, 0 to 7. -/
def readOutput (b : Byte) : Option (Fin 8) := place? 8 b.toNat

/-- A level: 0 OFF, 1 ON. -/
def readLevel (b : Byte) : Option Force := if b = 0 then some .off else if b = 1 then some .on else none

/-- A cause mask of two bytes; `none` where it names a cause above 13 (R168, R169, R171). -/
def readMask : List Byte → Option CauseSet
  | [hi, lo] => if word hi lo < 2 ^ 14 then some (BitVec.ofNat 14 (word hi lo)) else none
  | _ => none

end Sys2Proof.Machine
end

