-- ==== Sys2Proof/Machine/Requests.lean ====
section
/-! DEFINITION. A host request as the Control Link Port takes it (R163 to R165), before its owner's checks. -/

namespace Sys2Proof.Machine

/-- A checked request frame (R163 to R165): discarded and counted while 8 replies wait; REFUSED BUSY while another request is
in process, and so STATUS and TABLE READ too during an image load by request, where R73 has STATUS still answered and R61 a read
served in every state of the controller (DEDUCED, notes/assumptions/35.md); then its length, then the line state, and then its owner's `body`. -/
def State.request (s : State) (kind frameTag : Byte) (payload : List Byte) (lengthOk inStarting : Bool)
    (body : State → State) : State :=
  let s' := s.received .control payload
  if Config.replyPlaces ≤ s'.ctl.replies.length then s'.countDiscard .control
  else if s'.ctl.inProcess.isSome then s'.refuse kind frameTag .busy
  else if !lengthOk then s'.refuse kind frameTag .badLength
  else if s'.tracker.line == .starting && !inStarting then s'.refuse kind frameTag .busy
  else body s'

/-- The payload has the length its kind calls for. -/
def hasLength (payload : List Byte) (n : Nat) : Bool := payload.length == n

end Sys2Proof.Machine
end

