-- ==== Sys2Proof/Machine/ControlLink.lean ====
section
/-! DEFINITION. The Control Link Port's own commands (Chapter 10): the cause set and alert mask, the transmit line, unknown
requests, and the receivers of every link. -/

namespace Sys2Proof.Machine

def causesKind : Byte := 0x03
def clearCausesKind : Byte := 0x04
def alertMaskKind : Byte := 0x05

/-- The cause set after a CLEAR CAUSES (R168): the causes named become clear, and a level cause named while its condition
holds is pending again at once. -/
def State.causesAfterClear (s : State) (mask : CauseSet) : CauseSet :=
  (s.ctl.pendingCauses &&& ~~~mask) ||| (mask &&& s.levelConditions)

/-- CLEAR CAUSES as the port takes it (R168). No CAUSE report is made. -/
def State.clearCauses (s : State) (frameTag : Byte) (payload : List Byte) : State :=
  match readMask payload with
  | none => s.refuse clearCausesKind frameTag .badValue
  | some mask =>
    let causes := s.causesAfterClear mask
    ((s.setCtl fun c => { c with pendingCauses := causes }).judge).ok clearCausesKind frameTag (u16 causes.toNat)

/-- ALERT MASK as the port takes it (R169). -/
def State.setAlertMask (s : State) (frameTag : Byte) (payload : List Byte) : State :=
  match readMask payload with
  | none => s.refuse alertMaskKind frameTag .badValue
  | some mask =>
    ((s.setCtl fun c => { c with alertMask := mask }).judge).ok alertMaskKind frameTag (u16 mask.toNat)

/-- The transmit line becomes free: the oldest reply is sent, else the head of the report queue (R164). -/
def ControlPort.send (c : ControlPort) : ControlPort :=
  match c.replies, c.reports with
  | f :: fs, _ => { c with sending := some f.wire, replies := fs }
  | [], f :: fs => { c with sending := some f.wire, reports := fs }
  | [], [] => { c with sending := none }

/-- The request kinds of the control link, 0x01 to 0x12 (section 11.2). -/
def requestKind (kind : Byte) : Bool := within 0x01 0x12 kind.toNat

/-! ## Receivers (R161) -/

/-- The bytes a receiver stands before when it has taken `bytes` from a sync byte on: those bytes, then what it held past
them. -/
def LinkReceiver.bytesAfter (bytes : List Byte) (r : LinkReceiver) : List Byte := bytes ++ r.held.drop bytes.length

/-- A bad frame discarded: counted, and the receiver hunts from the byte after the frame's sync byte (R161). -/
def LinkReceiver.discard (bytes : List Byte) (r : LinkReceiver) : LinkReceiver :=
  { held := hunt (r.bytesAfter bytes).tail, discarded := bump r.discarded }

/-! ## Meanings -/

/-- CAUSES (R168). -/
def execCauses (frameTag : Byte) (payload : List Byte) (s : State) : Host.Outcome State Fault Refusal :=
  .next
    (s.request causesKind frameTag payload (hasLength payload 0) false fun s =>
      s.ok causesKind frameTag (u16 s.ctl.pendingCauses.toNat))

/-- CLEAR_CAUSES (R168). -/
def execClearCauses (frameTag : Byte) (payload : List Byte) (s : State) : Host.Outcome State Fault Refusal :=
  .next (s.request clearCausesKind frameTag payload (hasLength payload 2) false (·.clearCauses frameTag payload))

/-- ALERT_MASK (R169). -/
def execAlertMask (frameTag : Byte) (payload : List Byte) (s : State) : Host.Outcome State Fault Refusal :=
  .next (s.request alertMaskKind frameTag payload (hasLength payload 2) false (·.setAlertMask frameTag payload))

/-- CONTROL_LINK_SEND (R164). -/
def execControlLinkSend (s : State) : Host.Outcome State Fault Refusal := .next (s.setCtl ControlPort.send)

/-- REQUEST_BAD_KIND (R163): a request of unknown kind is refused BAD_KIND, the kind being checked before the length and the
line state. A request of a known kind is not this event (notes/assumptions/2.md). -/
def execRequestBadKind (kind frameTag : Byte) (payload : List Byte) (s : State) : Host.Outcome State Fault Refusal :=
  .next
    (if requestKind kind then s
    else s.request kind frameTag payload true true fun s => s.refuse kind frameTag .badKind)

/-- BAD_FRAME (R161): the bytes a receiver took from a sync byte on fail its checks. Bytes that do not are not this event
(notes/assumptions/2.md). -/
def execBadFrame (link : Link) (bytes : List Byte) (s : State) : Host.Outcome State Fault Refusal :=
  .next
    (if beginsFrame bytes && judgeBytes bytes == .bad then s.setLink link (·.discard bytes) else s)

/-- FRAME_BYTE_TIMEOUT (R161): more than 5 ms pass before the frame begun by `bytes` is whole. Bytes that begin no frame, or
hold a whole one, are not this event (notes/assumptions/2.md). -/
def execFrameByteTimeout (link : Link) (bytes : List Byte) (s : State) : Host.Outcome State Fault Refusal :=
  .next
    (if beginsFrame bytes && judgeBytes bytes == .incomplete then s.setLink link (·.discard bytes) else s)

end Sys2Proof.Machine
end

