-- ==== Sys2Proof/Machine/Offers.lean ====
section
/-! DEFINITION. What the Console Interface offers the graders: PROPOSAL and WITHDRAW frames (sections 5.4 and 11.5). -/

namespace Sys2Proof.Machine

/-- The code of a grade: 1 to 7, 8 for U (section 11.3). -/
def PieceGrade.code : PieceGrade → Byte
  | .graded g => u8 g
  | .ungraded => 8

/-- The code of a source (section 11.3). -/
def Source.code : Source → Byte
  | .solver => 0
  | .override => 1
  | .fallback => 2

/-- Decision, a, b, grade, length and value with the fills of EXIT and PROPOSAL: 0xFF and value 0 for SCRAP (section 11.3). -/
def keepBytes (k : Option Keep) : List Byte :=
  match k with
  | some k => [0, u8 k.a, u8 k.b, k.grade.code, u8 k.length] ++ u16 k.value
  | none => [1, 0xFF, 0xFF, 0xFF, 0xFF] ++ u16 0

/-- One cell grade: 1 to 7, or 0 for E (section 11.5). -/
def CellGrade.code : CellGrade → Byte
  | .gap => 0
  | .grade g => u8 g

/-- A byte of flags, the first in bit 0. -/
def flagByte (l : List Bool) : Byte := u8 (packBits l)

/-- The PROPOSAL of a piece's solution (section 5.4), laid out as in section 11.5; its frame tag is 0. -/
def proposalFrame (x : Slot) (sol : Solution) : Frame :=
  { kind := 0x50
    tag := 0
    payload := u16 x.tag ++ u16 x.run ++ keepBytes sol.keep ++ [sol.source.code] ++ u16 sol.generation
      ++ u16 x.generation ++ [flagByte [sol.noSpan, x.scan.scanPartial], u8 sol.cellGrades.length]
      ++ sol.cellGrades.map CellGrade.code }

/-- The reasons of a WITHDRAW (section 11.5). -/
inductive WithdrawReason where
  | commit | cleared
deriving DecidableEq, Repr

/-- The code of a WITHDRAW reason. -/
def WithdrawReason.code : WithdrawReason → Byte
  | .commit => 1
  | .cleared => 2

/-- The WITHDRAW of a tag (R84, R96). -/
def withdrawFrame (tag : Nat) (r : WithdrawReason) : Frame :=
  { kind := 0x51, tag := 0, payload := u16 tag ++ [r.code] }

/-- A PROPOSAL of a slot's stored solution queued on one console; nothing where there is none (R81, R83). -/
def Console.offerSlot (x : Slot) (c : Console) : Console :=
  match x.solution with
  | some sol => c.propose x.tag (proposalFrame x sol)
  | none => c

/-- A PROPOSAL of a slot's stored solution made to every console subscribed (R83). -/
def State.propose (s : State) (x : Slot) : State := s.tellSubscribers (Console.offerSlot x)

/-- A WITHDRAW of a tag made to every console subscribed (R84, R96). -/
def State.withdraw (s : State) (tag : Nat) (r : WithdrawReason) : State :=
  s.tellSubscribers (Console.withdraw tag (withdrawFrame tag r))

/-- The arrival of a slot at GW (R82, R83): the window opens, and a BOARD piece with a solution is proposed. -/
def State.arriveGW (s : State) (x : Slot) : State :=
  let s' := s.updateSlot x.tag fun y => { y with console := { y.console with window := .open } }
  (if x.kind == .board then s'.propose x else s').judge

end Sys2Proof.Machine
end

