-- ==== Sys2Proof/Machine/Solver.lean ====
section
/-! DEFINITION. The Board Solver (sections 3.7 and 3.8): the arbiter, a solve's start and completion, override changes, and
the end of all solving at commit. -/

namespace Sys2Proof.Machine

/-- The solve record changed, where the slot has one. -/
def Slot.setSolve (x : Slot) (f : SolveRecord → SolveRecord) : Slot := { x with solve := x.solve.map f }

/-- The solver changed. -/
def State.setSolver (s : State) (f : Solver → Solver) : State := { s with solver := f s.solver }

/-- The arbiter: of the queued pieces, the one at the highest offset (R51). -/
def nearestCommit (best : Option Slot) : List Slot → Option Slot
  | [] => best
  | x :: xs =>
    nearestCommit
      (match best with
       | none => some x
       | some b => if b.offset < x.offset then some x else some b) xs

/-- A TABLE WRITE is held (R70). -/
def State.heldWrite (s : State) : Option HeldWrite :=
  match s.ctl.inProcess with
  | some (.heldWrite w) => some w
  | _ => none

/-- The inputs a solve takes at its start (R39). -/
def State.takeInputs (s : State) (x : Slot) : SolveJob :=
  { tag := x.tag, cells := x.scan.cells, extent := x.scan.extent, product := s.productOf x.run,
    overrides := x.console.overrides, generation := x.generation }

/-- A solve starts (R51): the engine is IDLE, the queue is not empty, and no held write waits to be applied first (R70). -/
def State.startSolve (s : State) : State :=
  match s.solver.engine, s.heldWrite, nearestCommit none s.solveQueue with
  | none, none, some x =>
    (s.updateSlot x.tag (·.setSolve fun r => { r with status := .solving })).setSolver fun e =>
      { e with engine := some (s.takeInputs x) }
  | _, _, _ => s

/-- The solve record at a completion (R52): the solution stored, and the piece SOLVED, or QUEUED again where the re-solve
mark was set. -/
def SolveRecord.complete (sol : Solution) (r : SolveRecord) : SolveRecord :=
  { r with solution := some sol, status := if r.reSolve then .queued else .solved, reSolve := false }

/-- A solve completes (R52, R83): the solution stored, the engine IDLE, and a PROPOSAL of a piece whose window is OPEN. -/
def State.completeSolve (s : State) : State :=
  match s.solver.engine with
  | none => s
  | some job =>
    let s' := (s.updateSlot job.tag (·.setSolve (·.complete (solve s.tables job)))).setSolver fun e =>
      { e with engine := none }
    (match s'.slot? job.tag with
     | some x => if x.console.window == Window.open then s'.propose x else s'
     | none => s').judge

/-- An announced override change (R54, R55): the generation goes up, wrapping; a SOLVED piece is queued again, and a piece
being solved is marked for a re-solve. -/
def SolveRecord.overrideChanged (r : SolveRecord) : SolveRecord :=
  let r' := { r with generation := (r.generation + 1) % 65536 }
  match r.status with
  | .queued => r'
  | .solving => { r' with reSolve := true }
  | .solved => { r' with status := .queued }
  | .closed => r'

/-- The end of all solving for a piece (R56). -/
def SolveRecord.close (r : SolveRecord) : SolveRecord := { r with status := .closed, reSolve := false }

/-- The Board Solver's handling of an arrival at CM (R56): a QUEUED or SOLVING piece is abandoned and counted, a running
solve of it ends with no solution stored, and the record becomes CLOSED. -/
def State.endSolving (s : State) (x : Slot) : State :=
  let waiting := (x.solve.map fun r => r.status == .queued || r.status == .solving).getD false
  let running := (s.solver.engine.map fun j => j.tag == x.tag).getD false
  (s.updateSlot x.tag (·.setSolve SolveRecord.close)).setSolver fun e =>
    { e with engine := if running then none else e.engine, abandoned := if waiting then bump e.abandoned else e.abandoned }

/-- SOLVE_START (R51). -/
def execSolveStart (s : State) : Host.Outcome State Fault Refusal := .next s.startSolve

/-- SOLVE_COMPLETE (R52). -/
def execSolveComplete (s : State) : Host.Outcome State Fault Refusal := .next s.completeSolve

end Sys2Proof.Machine
end

