-- ==== Sys2Proof/Machine/Consoles.lean ====
section
/-! DEFINITION. The Console Interface's requests (Chapter 5): subscriptions, claims and overrides, with their checks and
replies, and the sending of the queues. -/

namespace Sys2Proof.Machine

/-- The refusal reasons of a console (section 5.1). -/
inductive ConsoleReason where
  | noSuch | emptyLug | notYet | late | held | claimLimit | notClaimed | markLimit | noSpan | badValue
deriving DecidableEq, Repr

/-- The code of a reason (section 11.5). -/
def ConsoleReason.code : ConsoleReason → Byte
  | .noSuch => 1 | .emptyLug => 2 | .notYet => 3 | .late => 4 | .held => 5
  | .claimLimit => 6 | .notClaimed => 7 | .markLimit => 8 | .noSpan => 9 | .badValue => 10

/-! ## Replies (section 11.5) -/

/-- DONE to SUBSCRIBE and UNSUBSCRIBE. -/
def donePlain (frameTag : Byte) : Frame := { kind := 0x4E, tag := frameTag, payload := [] }

/-- DONE to a request that names a lug tag: the tag and the piece's generation after the request. -/
def doneFrame (frameTag : Byte) (tag generation : Nat) : Frame :=
  { kind := 0x4E, tag := frameTag, payload := u16 tag ++ u16 generation }

/-- REFUSED with a reason: the lug tag, absent where the request named none that could be read. Section 11.5 gives an absent tag
no fill value: it is sent as 0 (DESIGN CHOICE, notes/assumptions/40.md). -/
def consoleRefused (frameTag : Byte) (tag : Option Nat) (r : ConsoleReason) : Frame :=
  { kind := 0x4F, tag := frameTag, payload := presence 2 tag u16 ++ [r.code] }

/-- A reply joins its console's queue (R80). -/
def State.consoleReply (s : State) (c : Fin 4) (f : Frame) : State := s.setConsole c (·.join f)

/-! ## Taking a frame (R79, R80) -/

/-- A checked console frame (R79, R80): discarded and counted while 8 replies wait, answered BAD_VALUE with tag absent where
its length does not agree with its kind (`read` is then `none`), else dealt with whole. -/
def State.consoleFrame {α : Type} (s : State) (c : Fin 4) (frameTag : Byte) (payload : List Byte) (read : Option α)
    (take : State → α → State) : State :=
  let s' := s.received (.console c) payload
  if Config.replyPlaces ≤ (s'.consoles.get c).repliesWaiting then s'.countDiscard (.console c)
  else
    match read with
    | none => s'.consoleReply c (consoleRefused frameTag none .badValue)
    | some a => take s' a

/-- An empty payload. -/
def readNothing (payload : List Byte) : Option Unit := if payload.isEmpty then some () else none

/-! ## Subscriptions (R81) -/

/-- SUBSCRIBE (R81): DONE, then a PROPOSAL of each piece in the window with a solution, highest offset first. -/
def State.takeSubscribe (s : State) (c : Fin 4) (frameTag : Byte) : State :=
  s.setConsole c fun x =>
    (s.tracker.ring.filter (·.console.window == .open)).foldl (fun x y => x.offerSlot y)
      ({ x with subscribed := true }.join (donePlain frameTag))

/-- UNSUBSCRIBE (R81): every PROPOSAL and WITHDRAW still waiting is removed. -/
def State.takeUnsubscribe (s : State) (c : Fin 4) (frameTag : Byte) : State :=
  s.setConsole c fun x =>
    ({ x with subscribed := false, queue := x.queue.filter fun f => !f.isOffer } : Console).join (donePlain frameTag)

/-! ## The checks of a request on a piece (R85) -/

/-- Checks 2 to 5 (R85): the slot, or the first refusal. -/
def State.pieceFor (s : State) (tag : Nat) : Except ConsoleReason Slot :=
  match s.slot? tag with
  | none => .error .noSuch
  | some x =>
    if x.kind == .empty then .error .emptyLug
    else
      match x.console.window with
      | .before => .error .notYet
      | .closed => .error .late
      | .open => .ok x

/-- Check 6 for RELEASE and the override requests (R87, section 5.6): the requesting console is the holder. -/
def heldBy (c : Fin 4) (x : Slot) : Option ConsoleReason :=
  match x.console.holder with
  | none => some .notClaimed
  | some h => if h = c then none else some .held

/-- Check 6 for CLAIM (R86): no holder and fewer than 2 claims, or already the holder. -/
def State.claimCheck (s : State) (c : Fin 4) (x : Slot) : Option ConsoleReason :=
  match x.console.holder with
  | some h => if h = c then none else some .held
  | none => if Config.claimLimit ≤ (s.claims c).length then some .claimLimit else none

/-- A request on a piece (R85): `valid` is check 1, `checks` are checks 6 to 8, and `act` carries it out. A refused request
changes no state but the reply. -/
def State.onPiece (s : State) (c : Fin 4) (frameTag : Byte) (tag : Nat) (valid : Bool)
    (checks : Slot → Option ConsoleReason) (act : State → State) : State :=
  if !valid then s.consoleReply c (consoleRefused frameTag (some tag) .badValue)
  else
    match s.pieceFor tag with
    | .error r => s.consoleReply c (consoleRefused frameTag (some tag) r)
    | .ok x =>
      match checks x with
      | some r => s.consoleReply c (consoleRefused frameTag (some tag) r)
      | none =>
        let s' := act s
        s'.consoleReply c (doneFrame frameTag tag (((s'.slot? tag).map Slot.generation).getD 0))

/-! ## Claims (R86, R87) -/

/-- The claim holder of a piece set. -/
def State.setHolder (s : State) (tag : Nat) (h : Option (Fin 4)) : State :=
  s.updateSlot tag fun x => { x with console := { x.console with holder := h } }

/-- CLAIM (R86). One by the piece's own holder changes nothing. -/
def State.takeClaim (s : State) (c : Fin 4) (frameTag : Byte) (tag : Nat) : State :=
  s.onPiece c frameTag tag true (s.claimCheck c) fun s =>
    if (s.slot? tag).bind (·.console.holder) = some c then s else (s.setHolder tag (some c)).judge

/-- RELEASE (R87). -/
def State.takeRelease (s : State) (c : Fin 4) (frameTag : Byte) (tag : Nat) : State :=
  s.onPiece c frameTag tag true (heldBy c) fun s => (s.setHolder tag none).judge

/-! ## Overrides (R89 to R93) -/

/-- The override record of a piece changed and announced to the Board Solver (R93, R54, R55). -/
def State.changeOverrides (s : State) (tag : Nat) (f : Overrides → Overrides) : State :=
  s.updateSlot tag fun x =>
    ({ x with console := { x.console with overrides := f x.console.overrides } } : Slot).setSolve
      SolveRecord.overrideChanged

/-- A mark clipped to the cells below the extent; none where it holds no cell (R89). -/
def Mark.clip (m : Mark) (extent : Option Nat) : Option Mark :=
  match extent with
  | none => none
  | some e => if e ≤ m.first then none else some { m with last := min m.last (e - 1) }

/-- Check 1 for MARK (R85). -/
def Mark.valid (m : Mark) : Bool := decide (m.first ≤ m.last) && decide (m.last ≤ 89) && within 1 7 m.grade

/-- Checks 6 to 8 for MARK (R85, R89). -/
def markChecks (c : Fin 4) (m : Mark) (x : Slot) : Option ConsoleReason :=
  match heldBy c x with
  | some r => some r
  | none =>
    if Config.markLimit ≤ x.console.overrides.marks.length then some .markLimit
    else if (m.clip x.scan.extent).isNone then some .noSpan
    else none

/-- A mark added at the end of a mark list, clipped (R89). -/
def Overrides.addMark (m : Option Mark) (o : Overrides) : Overrides := { o with marks := o.marks ++ m.toList }

/-- The extent of the slot with a tag. -/
def State.extentAt (s : State) (tag : Nat) : Option Nat := (s.slot? tag).bind (·.scan.extent)

/-- MARK (R89). -/
def State.takeMark (s : State) (c : Fin 4) (frameTag : Byte) (r : MarkRequest) : State :=
  s.onPiece c frameTag r.tag r.mark.valid (markChecks c r.mark) fun s =>
    s.changeOverrides r.tag (Overrides.addMark (r.mark.clip (s.extentAt r.tag)))

/-- FORCE GRADE (R90). -/
def State.takeForceGrade (s : State) (c : Fin 4) (frameTag : Byte) (r : Nat × Nat) : State :=
  s.onPiece c frameTag r.1 (within 1 7 r.2) (heldBy c) fun s =>
    s.changeOverrides r.1 fun o => { o with forcedGrade := some r.2 }

/-- Checks 6 and 8 for FORCE LENGTH (R85, R91). -/
def State.lengthChecks (s : State) (c : Fin 4) (n : Nat) (x : Slot) : Option ConsoleReason :=
  match heldBy c x with
  | some r => some r
  | none => if hasSpanOf s.geo x.scan.cells x.scan.extent n then none else some .noSpan

/-- FORCE LENGTH (R91). -/
def State.takeForceLength (s : State) (c : Fin 4) (frameTag : Byte) (r : Nat × Nat) : State :=
  s.onPiece c frameTag r.1 (within 1 15 r.2) (s.lengthChecks c r.2) fun s =>
    s.changeOverrides r.1 fun o => { o with forcedLength := some r.2 }

/-- FORCE SCRAP (R90). -/
def State.takeForceScrap (s : State) (c : Fin 4) (frameTag : Byte) (tag : Nat) : State :=
  s.onPiece c frameTag tag true (heldBy c) fun s => s.changeOverrides tag fun o => { o with forcedScrap := true }

/-- CLEAR OVERRIDES (R92). -/
def State.takeClearOverrides (s : State) (c : Fin 4) (frameTag : Byte) (tag : Nat) : State :=
  s.onPiece c frameTag tag true (heldBy c) fun s => s.changeOverrides tag fun _ => Overrides.empty

/-! ## The send queue (R80) -/

/-- The frame of a queue entry. -/
def ConsoleFrame.frame : ConsoleFrame → Frame
  | .reply f => f
  | .proposal _ f => f
  | .withdraw _ f => f

/-- The link becomes free and the head of the queue is sent (R80). -/
def Console.send (c : Console) : Console :=
  match c.queue with
  | [] => { c with sending := none }
  | f :: fs => { c with sending := some f.frame.wire, queue := fs }

/-! ## Meanings -/

/-- SUBSCRIBE (R81). -/
def execSubscribe (c : Fin 4) (frameTag : Byte) (payload : List Byte) (s : State) : Host.Outcome State Fault Refusal :=
  .next (s.consoleFrame c frameTag payload (readNothing payload) fun s _ => s.takeSubscribe c frameTag)

/-- UNSUBSCRIBE (R81). -/
def execUnsubscribe (c : Fin 4) (frameTag : Byte) (payload : List Byte) (s : State) : Host.Outcome State Fault Refusal :=
  .next (s.consoleFrame c frameTag payload (readNothing payload) fun s _ => s.takeUnsubscribe c frameTag)

/-- CLAIM (R86). -/
def execClaim (c : Fin 4) (frameTag : Byte) (payload : List Byte) (s : State) : Host.Outcome State Fault Refusal :=
  .next (s.consoleFrame c frameTag payload (readWord payload) fun s tag => s.takeClaim c frameTag tag)

/-- RELEASE (R87). -/
def execRelease (c : Fin 4) (frameTag : Byte) (payload : List Byte) (s : State) : Host.Outcome State Fault Refusal :=
  .next (s.consoleFrame c frameTag payload (readWord payload) fun s tag => s.takeRelease c frameTag tag)

/-- MARK (R89). -/
def execMark (c : Fin 4) (frameTag : Byte) (payload : List Byte) (s : State) : Host.Outcome State Fault Refusal :=
  .next (s.consoleFrame c frameTag payload (readMark payload) fun s r => s.takeMark c frameTag r)

/-- FORCE_GRADE (R90). -/
def execForceGrade (c : Fin 4) (frameTag : Byte) (payload : List Byte) (s : State) : Host.Outcome State Fault Refusal :=
  .next (s.consoleFrame c frameTag payload (readTagByte payload) fun s r => s.takeForceGrade c frameTag r)

/-- FORCE_LENGTH (R91). -/
def execForceLength (c : Fin 4) (frameTag : Byte) (payload : List Byte) (s : State) : Host.Outcome State Fault Refusal :=
  .next (s.consoleFrame c frameTag payload (readTagByte payload) fun s r => s.takeForceLength c frameTag r)

/-- FORCE_SCRAP (R90). -/
def execForceScrap (c : Fin 4) (frameTag : Byte) (payload : List Byte) (s : State) : Host.Outcome State Fault Refusal :=
  .next (s.consoleFrame c frameTag payload (readWord payload) fun s tag => s.takeForceScrap c frameTag tag)

/-- CLEAR_OVERRIDES (R92). -/
def execClearOverrides (c : Fin 4) (frameTag : Byte) (payload : List Byte) (s : State) :
    Host.Outcome State Fault Refusal :=
  .next (s.consoleFrame c frameTag payload (readWord payload) fun s tag => s.takeClearOverrides c frameTag tag)

/-- CONSOLE_QUEUE_SEND (R80). -/
def execConsoleQueueSend (c : Fin 4) (s : State) : Host.Outcome State Fault Refusal := .next (s.setConsole c Console.send)

/-- The nine request kinds of a console link (section 11.5). -/
def consoleKind (kind : Byte) : Bool := within 0x41 0x49 kind.toNat

/-- CONSOLE_FRAME_BAD_KIND (R79): answered REFUSED BAD_VALUE with tag absent. A frame of one of the nine kinds is not this
event (notes/assumptions/2.md). -/
def execConsoleFrameBadKind (c : Fin 4) (kind frameTag : Byte) (payload : List Byte) (s : State) :
    Host.Outcome State Fault Refusal :=
  .next
    (if consoleKind kind then s
    else s.consoleFrame c frameTag payload (none : Option Unit) fun s _ => s)

end Sys2Proof.Machine
end

