-- ==== Sys2Proof/Machine/SawBus.lean ====
section
/-! DEFINITION. The Saw Bus Controller (Chapter 6): the decision at commit, the pattern, the exchange with the saw modules
and its abandonment, manual saws, and the trim strobe. -/

namespace Sys2Proof.Machine

/-! ## Small updates -/

/-- The controller changed. -/
def State.setSaw (s : State) (f : SawBus → SawBus) : State := { s with saw := f s.saw }

/-- One module changed. -/
def State.setModule (s : State) (m : Fin 2) (f : Module → Module) : State :=
  s.setSaw fun b => { b with modules := b.modules.modify m f }

/-- The commit record changed, where the slot has one. -/
def Slot.setCommit (x : Slot) (f : CommitRecord → CommitRecord) : Slot := { x with commit := x.commit.map f }

/-- A module's result for a piece. -/
def State.setResult (s : State) (tag : Nat) (m : Fin 2) (r : ModuleResult) : State :=
  s.updateSlot tag (·.setCommit fun c => { c with results := c.results.set m r })

/-- A frame on the bus that answers nothing is discarded and counted (R105). -/
def State.discardBus (s : State) : State := s.setSaw fun b => { b with discarded := bump b.discarded }

/-- A frame sent on the half-duplex saw bus, whose receiver takes it too (R161; notes/assumptions/36.md). -/
def State.sendOnBus (s : State) (f : Frame) : State :=
  (s.setSaw fun b => { b with sent := some f.wire }).setLink .sawBus (·.takeSent f.wire)

/-- The bus address of a module: 1 and 2. -/
def address (m : Fin 2) : Nat := m.val + 1

/-- The READ STATE frame of a module (section 11.4). -/
def readStateFrame (m : Fin 2) : Frame := { kind := 0x61, tag := 0, payload := [u8 (address m)] }

/-- The WRITE PATTERN frame of a module (section 11.4). -/
def writePatternFrame (m : Fin 2) (settings seq : Byte) : Frame :=
  { kind := 0x63, tag := 0, payload := [u8 (address m), settings, seq] }

/-! ## The decision (R99, R100, R102, R104) -/

/-- The decision of a piece at CM, with its pattern: the stored solution, or else the fallback; all RAISED under trim
inhibit. -/
def State.decision (s : State) (x : Slot) : CommitRecord :=
  let base := fun (keep : Option Keep) (noSpan : Bool) (source : Source) (generation : Option Nat) (missed : Bool) =>
    ({ keep := keep, noSpan := noSpan, source := source, generation := generation, overrideMissed := missed,
       inhibited := s.inhibitActive,
       pattern := if s.inhibitActive then List.replicate s.geo.saws false else sawPattern s.geo x.scan.extent keep,
       results := Bank.fill 2 .notStarted, masks := Bank.fill 2 none, manualConflict := false, trimMissed := false,
       trimmed := false } : CommitRecord)
  match x.solution with
  | some sol => base sol.keep sol.noSpan sol.source (some sol.generation) (sol.generation != x.generation)
  | none =>
    let f := fallbackDecision s.geo (s.productOf x.run) x.console.overrides x.scan.cells x.scan.extent
    base f.keep f.noSpan .fallback none false

/-- The causes of a commit (R99). -/
def State.raiseCommit (s : State) (x : Slot) : State :=
  match x.solution with
  | none => s.raise .solveOverrun
  | some sol => if sol.generation != x.generation then s.raise .overrideMissed else s

/-! ## The exchange (R105 to R112) -/

/-- READ STATE is sent to the module of an exchange, or waits for the end of a wait left from an abandoned exchange (R112). -/
def State.sendRead (s : State) (ex : Exchange) : State :=
  if s.saw.wait.isSome then s.setSaw fun b => { b with exchange := some { ex with phase := .readDue } }
  else
    (s.setSaw fun b => { b with exchange := some { ex with phase := .readState }, wait := some (2 * ex.timeout) }).sendOnBus
      (readStateFrame ex.module)

/-- A module of the module count is begun (R106): attempts from 1 where it is ONLINE, a probe where it is OFFLINE; past the
last module the exchange ends. R109 gives a probe no attempt number: the record holds 1 (DESIGN CHOICE,
notes/assumptions/39.md). -/
def State.beginModule (s : State) (tag timeout i : Nat) : State :=
  match place? 2 i with
  | some m =>
    if m.val < s.tables.sawBus.modules then
      s.sendRead
        { tag := tag, module := m, attempt := 1, phase := .readDue, onlyTimeouts := true,
          probe := !(s.saw.modules.get m).online, timeout := timeout }
    else s.setSaw fun b => { b with exchange := none }
  | none => s.setSaw fun b => { b with exchange := none }

/-- A module has reached its result: the next is begun (R106). -/
def State.moduleDone (s : State) (ex : Exchange) (r : ModuleResult) : State :=
  (s.setResult ex.tag ex.module r).beginModule ex.tag ex.timeout (ex.module.val + 1)

/-- An attempt has failed, by timeout or by RETRY (R107, R108): the next attempt, or after attempt 3 the result. -/
def State.failAttempt (s : State) (ex : Exchange) (byTimeout : Bool) : State :=
  let only := ex.onlyTimeouts && byTimeout
  if ex.attempt < 3 then s.sendRead { ex with attempt := ex.attempt + 1, onlyTimeouts := only, probe := false }
  else if only then
    ((s.setModule ex.module fun m => { m with online := false }).raise .moduleOffline).moduleDone ex .timedOut
  else s.moduleDone ex .unsettled

/-- The exchange in flight is abandoned (R112): the module being handled becomes ABANDONED. A wait for an answer runs on. -/
def State.abandonExchange (s : State) : State :=
  match s.saw.exchange with
  | none => s
  | some ex => (s.setResult ex.tag ex.module .abandoned).setSaw fun b => { b with exchange := none }

/-- The Saw Bus Controller's handling of a BOARD piece's arrival at CM (R99, R104, R106): the commit record, its causes, and
the exchange begun. -/
def State.commitPiece (s : State) (x : Slot) : State :=
  let s' := (s.updateSlot x.tag fun y => { y with commit := some (s.decision x) }).raiseCommit x
  s'.abandonExchange.beginModule x.tag s.tables.sawBus.timeout 0

/-- The exchange waits for an answer of this kind from this address: the exchange to go on with. -/
def SawBus.awaits (b : SawBus) (addr : Nat) (accepts : Phase → Bool) : Option Exchange :=
  match b.exchange with
  | some ex => if b.wait.isSome && accepts ex.phase && addr == address ex.module then some ex else none
  | none => none

/-- READ STATE is awaited. -/
def Phase.isRead : Phase → Bool
  | .readState => true
  | _ => false

/-- WRITE PATTERN is awaited. -/
def Phase.isWrite : Phase → Bool
  | .writePattern _ => true
  | _ => false

/-- The wait is over. -/
def State.endWait (s : State) : State := s.setSaw fun b => { b with wait := none }

/-- A STATE answer (R105, R107, R109): the module's last-read state is replaced, a probed module becomes ONLINE, and WRITE
PATTERN is due. -/
def State.takeState (s : State) (payload : List Byte) : State :=
  match readState payload with
  | none => s.discardBus
  | some (addr, r) =>
    match s.saw.awaits addr Phase.isRead with
    | none => s.discardBus
    | some ex =>
      let s' := s.endWait.setModule ex.module fun m => { m with lastRead := some r, online := m.online || ex.probe }
      s'.setSaw fun b => { b with exchange := some { ex with phase := .writeDue r, probe := false } }

/-- Every slot at an offset greater than CM has TR in its stations-passed set (R107). -/
def State.trimmerClear (s : State) : Bool :=
  s.tracker.ring.all fun x => !decide (s.geo.cm < x.offset) || x.passed.contains .tr

/-- The pattern of the piece of an exchange; none where the ring holds no such piece. -/
def State.patternOf (s : State) (tag : Nat) : List Bool :=
  (((s.slot? tag).bind (·.commit)).map (·.pattern)).getD []

/-- WRITE PATTERN is sent once it may be (R107). -/
def State.sendPattern (s : State) : State :=
  match s.saw.exchange with
  | some ex =>
    match ex.phase with
    | .writeDue r =>
      if s.trimmerClear then
        (s.setSaw fun b =>
          { b with exchange := some { ex with phase := .writePattern r }, wait := some (2 * ex.timeout) }).sendOnBus
          (writePatternFrame ex.module (moduleSettings (s.patternOf ex.tag) ex.module) r.seq)
      else s
    | _ => s
  | none => s

/-- A manual saw of a module disagrees with the pattern at or between the kept saws (R111). -/
def conflicts (saws : Nat) (c : CommitRecord) (m : Fin 2) (r : ModuleReading) : Bool :=
  match c.keep with
  | none => false
  | some k =>
    (List.range 8).any fun p =>
      let saw := 8 * m.val + p
      r.mask.getLsbD p && Nat.blt saw saws && Nat.ble k.a saw && Nat.ble saw k.b
        && r.down.getLsbD p != c.pattern.getD saw false

/-- A module's WRITE PATTERN is accepted (R107, R111): its manual masks are recorded and its manual saws judged. -/
def CommitRecord.accept (saws : Nat) (m : Fin 2) (r : ModuleReading) (c : CommitRecord) : CommitRecord :=
  { c with masks := c.masks.set m (some r), manualConflict := c.manualConflict || conflicts saws c m r }

/-- What was read in the attempt whose WRITE PATTERN is awaited. -/
def Phase.reading : Phase → Option ModuleReading
  | .writeDue r => some r
  | .writePattern r => some r
  | _ => none

/-- An ACK answer (R107, R111). -/
def State.takeAck (s : State) (payload : List Byte) : State :=
  match (readAddress payload).bind fun a => s.saw.awaits a Phase.isWrite with
  | none => s.discardBus
  | some ex =>
    match ex.phase.reading with
    | none => s.discardBus
    | some r =>
      (s.endWait.updateSlot ex.tag (·.setCommit (·.accept s.geo.saws ex.module r))).moduleDone ex .accepted

/-- A RETRY answer (R107, R108). -/
def State.takeRetry (s : State) (payload : List Byte) : State :=
  match (readAddress payload).bind fun a => s.saw.awaits a Phase.isWrite with
  | none => s.discardBus
  | some ex => (s.endWait.setModule ex.module fun m => { m with retries := bump m.retries }).failAttempt ex false

/-- A FAULT answer (R105, R107, R109): the fault code is recorded, a probed module becomes ONLINE, SAW_FAULT is raised and
the module's result is FAULTED. -/
def State.takeFault (s : State) (payload : List Byte) : State :=
  match readFault payload with
  | none => s.discardBus
  | some (addr, code) =>
    match s.saw.awaits addr fun p => p.isRead || p.isWrite with
    | none => s.discardBus
    | some ex =>
      let s' := s.endWait.setModule ex.module fun m =>
        { m with lastFault := some code, faults := bump m.faults, online := m.online || ex.probe }
      (s'.raise .sawFault).moduleDone ex .faulted

/-- The wait ends without an answer taken (R105, R107, R109, R112): a probe gives SKIPPED, an attempt fails by timeout, and
a wait left from an abandoned exchange lets the next exchange send its first frame. -/
def State.replyTimeout (s : State) : State :=
  match s.saw.wait, s.saw.exchange with
  | none, _ => s
  | some _, none => s.endWait
  | some _, some ex =>
    match ex.phase with
    | .readDue => s.endWait.sendRead ex
    | .writeDue _ => s.endWait
    | _ =>
      let s' := s.endWait.setModule ex.module fun m => { m with timeouts := bump m.timeouts }
      if ex.probe then s'.moduleDone ex .skipped else s'.failAttempt ex true

/-! ## The trim station (R113) -/

/-- A module of the module count has a result that leaves the exchange incomplete (R113). -/
def State.exchangeIncomplete (s : State) (c : CommitRecord) : Bool :=
  s.activeModules.any fun m => !(c.results.get m).complete

/-- A BOARD piece at TR: its exchange abandoned where it is still in flight, TRIM_MISSED judged, the piece TRIMMED (R113). -/
def State.trimPiece (s : State) (tag : Nat) : State :=
  let s' := if (s.saw.exchange.map (·.tag)) == some tag then s.abandonExchange else s
  match (s'.slot? tag).bind (·.commit) with
  | none => s'
  | some c =>
    let missed := s'.exchangeIncomplete c
    let s'' := s'.updateSlot tag (·.setCommit fun c => { c with trimMissed := c.trimMissed || missed, trimmed := true })
    if missed then s''.raise .trimMissed else s''

/-- The arrival of a slot at TR (R113): FIRE is pulsed whatever the kind; a BOARD piece is judged. -/
def State.arriveTR (s : State) (x : Slot) : State :=
  let s' := s.pulse .fire
  if x.kind == .board then s'.trimPiece x.tag else s'

/-! ## A module count that changes (R110) -/

/-- The modules after the module count changes: one added begins OFFLINE; one removed loses its state and last-read state. -/
def modulesAfterCount (old new : Nat) (modules : Bank 2 Module) : Bank 2 Module :=
  Bank.ofFn fun m =>
    let x := modules.get m
    if (m.val < old) = (m.val < new) then x else { x with online := false, lastRead := none }

/-- The module count changes from `old` to `new`; MODULE_OFFLINE is raised where a module is added (R110). -/
def State.changeModuleCount (s : State) (old new : Nat) : State :=
  let s' := s.setSaw fun b => { b with modules := modulesAfterCount old new b.modules }
  if old < new then s'.raise .moduleOffline else s'

/-! ## Meanings -/

/-- WRITE_PATTERN (R107). -/
def execWritePattern (s : State) : Host.Outcome State Fault Refusal := .next s.sendPattern

/-- STATE (R105, R107, R109). -/
def execState (payload : List Byte) (s : State) : Host.Outcome State Fault Refusal :=
  .next ((s.received .sawBus payload).takeState payload)

/-- ACK (R107, R111). -/
def execAck (payload : List Byte) (s : State) : Host.Outcome State Fault Refusal :=
  .next ((s.received .sawBus payload).takeAck payload)

/-- RETRY (R107, R108). -/
def execRetry (payload : List Byte) (s : State) : Host.Outcome State Fault Refusal :=
  .next ((s.received .sawBus payload).takeRetry payload)

/-- FAULT (R107, R109). -/
def execFault (payload : List Byte) (s : State) : Host.Outcome State Fault Refusal :=
  .next ((s.received .sawBus payload).takeFault payload)

/-- REPLY_TIMEOUT (R105, R107 to R109, R112). -/
def execReplyTimeout (s : State) : Host.Outcome State Fault Refusal := .next s.replyTimeout

/-- A kind that answers a request: STATE, ACK, RETRY, FAULT (section 11.4). -/
def answersRequest (kind : Byte) : Bool := [0x62, 0x64, 0x65, 0x66].contains kind

/-- BUS_FRAME_DISCARDED (R105): a checked frame of a kind that answers no request. A frame of a kind that does is not this
event (notes/assumptions/2.md). -/
def execBusFrameDiscarded (kind : Byte) (payload : List Byte) (s : State) : Host.Outcome State Fault Refusal :=
  .next (if answersRequest kind then s else (s.received .sawBus payload).discardBus)

end Sys2Proof.Machine
end

