-- ==== Sys2Proof/Machine/Runs.lean ====
section
/-! DEFINITION. The Run and Tally Unit's entries (sections 8.3 and 8.4): pieces scanned, exits with their reports, losses. -/

namespace Sys2Proof.Machine

/-- The number of a grade among the tally's counters: 0 to 6 for 1 to 7, 7 for U. -/
def PieceGrade.index : PieceGrade → Fin 8
  | .graded g => ⟨min (g - 1) 6, by omega⟩
  | .ungraded => 7

/-- The number of a length among the tally's counters: 0 to 14 for 1 to 15 steps. -/
def lengthIndex (n : Nat) : Fin 15 := ⟨min (n - 1) 14, by omega⟩

/-- The volume of a KEEP piece in cm³ (R142). -/
def pieceVolume (p : Product) (pitch length : Nat) : Nat :=
  (p.thickness * p.width * (length * pitch * 100) + 500) / 1000

/-- One counter increased by 1 where a flag is set. -/
def countIf (b : Bool) (c : Counter) : List (Counter × Nat) := if b then [(c, 1)] else []

/-- The tally entry of a piece at its exit (R141). -/
def exitEntry (p : Product) (pitch : Nat) (x : Slot) (c : CommitRecord) : List (Counter × Nat) :=
  (match c.keep with
   | some k =>
     [(.kept k.grade.index (lengthIndex k.length), 1), (.volume k.grade.index, pieceVolume p pitch k.length),
      (.value, k.value)]
   | none => [(.scrapped, 1)])
    ++ countIf x.console.overrides.inForce .overridden
    ++ countIf (c.source == .fallback) .fallback
    ++ countIf c.overrideMissed (.flag .overrideMissed)
    ++ countIf c.trimMissed (.flag .trimMissed)
    ++ countIf c.inhibited (.flag .inhibited)
    ++ countIf c.manualConflict (.flag .manualConflict)
    ++ countIf x.scan.scanPartial (.flag .scanPartial)
    ++ countIf x.scan.noProfile (.flag .noProfile)

/-- A module's manual mask and saws-down set in an EXIT report: present, mask, down (section 11.3). -/
def maskBytes (r : Option ModuleReading) : List Byte :=
  match r with
  | some r => [1, r.mask, r.down]
  | none => [0, 0, 0]

/-- The payload of an EXIT report, 26 bytes (R143, section 11.3). -/
def exitPayload (p : Product) (pitch : Nat) (x : Slot) (c : CommitRecord) : List Byte :=
  u16 x.tag ++ u16 x.run ++ keepBytes c.keep
    ++ u32 ((c.keep.map fun k => pieceVolume p pitch k.length).getD 0)
    ++ [c.source.code] ++ u16 (c.generation.getD 0)
    ++ [flagByte [x.console.overrides.inForce, x.lugSynth, x.scan.scanPartial, x.scan.noProfile, c.noSpan,
                  c.overrideMissed, c.inhibited, c.manualConflict],
        flagByte [c.trimMissed]]
    ++ maskBytes (c.masks.get 0) ++ maskBytes (c.masks.get 1)

/-- The slot with a tag leaves the ring. -/
def State.removeSlot (s : State) (tag : Nat) : State := s.setRing (s.tracker.ring.filter (·.tag != tag))

/-- The exit of a BOARD piece (R141, R143): its tally entry, then its EXIT report. -/
def State.exitPiece (s : State) (x : Slot) : State :=
  match x.commit with
  | some c =>
    let p := s.productOf x.run
    (s.enter x.run (exitEntry p s.geo.pitch x c)).report exitKind (exitPayload p s.geo.pitch x c)
  | none => s

/-- The arrival of a slot at EX (R9, R138, R141): a BOARD piece exits, the slot leaves the ring, and a DRAINING run left with
no open slot closes. -/
def State.arriveEX (s : State) (x : Slot) : State :=
  ((if x.kind == .board then s.exitPiece x else s).removeSlot x.tag).closeDrained

/-- A BOARD slot reported lost (R144). -/
def State.losePiece (s : State) (x : Slot) : State := if x.kind == .board then s.enter x.run [(.lost, 1)] else s

end Sys2Proof.Machine
end

