-- ==== Sys2Proof/Machine/Scan.lean ====
section
/-! DEFINITION. The Scan Intake (Chapter 2): triggers, segments and their merging, the closing of a scan, misses, head
states, and the hand-over to the Board Solver. -/

namespace Sys2Proof.Machine

/-! ## Triggers (R23) -/

/-- The TRIGGER frame of a tag (section 11.4). -/
def triggerFrame (tag : Nat) : Frame := { kind := 0x21, tag := 0, payload := u16 tag }

/-- A TRIGGER sent on a link: at once, or after the frames before it (R23). -/
def TriggerLink.send (tag : Nat) (l : TriggerLink) : TriggerLink :=
  match l.sending with
  | none => { l with sending := some (triggerFrame tag).wire }
  | some _ => { l with waiting := l.waiting ++ [tag] }

/-- A TRIGGER sent on the link of every head that is not DISABLED (R23). -/
def ScanIntake.trigger (tag : Nat) (s : ScanIntake) : ScanIntake :=
  { s with triggers := Bank.ofFn fun h =>
      if (s.heads.get h).status == .disabled then s.triggers.get h else (s.triggers.get h).send tag }

/-- The scan record of a new slot: every cell UNSEEN, the heads that are UP expected (section 2.2). -/
def ScanRecord.new (cells : Nat) (heads : Bank 4 Head) : ScanRecord :=
  { cells := List.replicate cells .unseen, expected := heads.map (·.status == .up), last := Bank.fill 4 false,
    status := .open, deadlinePassed := false, extent := none, scanPartial := false, noProfile := false,
    handedOver := false }

/-! ## Merging (R21, R27) -/

/-- The worse of two PRESENT records, field by field (R27). -/
def CellData.worse (x y : CellData) : CellData :=
  { thickness := min x.thickness y.thickness, width := min x.width y.width, wane := max x.wane y.wane,
    knot := max x.knot y.knot, split := x.split || y.split, decay := x.decay || y.decay }

/-- An entry merged into a cell (R27). -/
def mergeCell : Cell → Cell → Cell
  | .unseen, e => e
  | c, .unseen => c
  | .empty, e => e
  | .present x, .present y => .present (x.worse y)
  | .present x, .empty => .present x

/-- The line cell of a head's local cell `j`, where it is in the head's range (R21). -/
def HeadEntry.lineCell (h : HeadEntry) (j : Nat) : Option Nat :=
  if j < h.span then some (if h.reversed then h.base + (h.span - 1 - j) else h.base + j) else none

/-- One entry merged at local cell `j`; outside the head's range or the board it is ignored (R21). -/
def mergeEntry (h : HeadEntry) (j : Nat) (e : Cell) (cells : List Cell) : List Cell :=
  match h.lineCell j with
  | some i => cells.modify i (mergeCell · e)
  | none => cells

/-- The entries of a segment merged, from local cell `j` on (R26). -/
def mergeEntries (h : HeadEntry) (j : Nat) : List Cell → List Cell → List Cell
  | [], cells => cells
  | e :: es, cells => mergeEntries h (j + 1) es (mergeEntry h j e cells)

/-! ## Closing (R29, R30, R33) and hand-over (R32, R50) -/

/-- A cell is PRESENT. -/
def Cell.isPresent : Cell → Bool
  | .present _ => true
  | _ => false

/-- One more than the number of the highest PRESENT cell, the cells numbered from `i` on; `best` where there is none. -/
def extentFrom (i : Nat) (best : Option Nat) : List Cell → Option Nat
  | [] => best
  | c :: cs => extentFrom (i + 1) (if c.isPresent then some (i + 1) else best) cs

/-- The extent of a cell map (R33). -/
def extentOf (cells : List Cell) : Option Nat := extentFrom 0 none cells

/-- The scan record changed. -/
def Slot.setScan (x : Slot) (f : ScanRecord → ScanRecord) : Slot := { x with scan := f x.scan }

/-- NO_PROFILE is set for a BOARD slot whose closed scan has no extent (R33). -/
def Slot.flagProfile (x : Slot) : Slot :=
  if x.kind == .board && x.scan.status != .open && x.scan.extent.isNone then x.setScan fun r => { r with noProfile := true }
  else x

/-- The solve record at hand-over (R50). -/
def SolveRecord.new : SolveRecord := { status := .queued, solution := none, reSolve := false, generation := 0 }

/-- The slot is handed over to the Board Solver once its scan is closed and its kind is BOARD (R32). -/
def Slot.handOver (x : Slot) : Slot :=
  if x.kind == .board && x.scan.status != .open && !x.scan.handedOver then
    { x with solve := some SolveRecord.new, scan := { x.scan with handedOver := true } }
  else x

/-- The scan closes with a status: its extent is fixed, NO_PROFILE set where due, and the slot handed over if it is a BOARD
slot (R29, R30, R32, R33). -/
def Slot.closeScan (status : ScanStatus) (x : Slot) : Slot :=
  (x.setScan fun r =>
    { r with status := status, extent := extentOf r.cells,
             scanPartial := r.scanPartial || status == .closedPartial }).flagProfile.handOver

/-- Every expected head is in the LAST set, and some head is expected (R29). -/
def ScanRecord.answered (r : ScanRecord) : Bool :=
  r.expected.items.any id && (List.finRange 4).all fun h => !r.expected.get h || r.last.get h

/-- A segment merged into an OPEN scan (R26, R27, R29): its entries, its LAST mark, and the completion it may bring. -/
def Slot.mergeSegment (entry : HeadEntry) (h : Fin 4) (g : SegmentData) (x : Slot) : Slot :=
  let x' := x.setScan fun r =>
    { r with cells := mergeEntries entry g.first g.entries r.cells,
             last := if g.last then r.last.set h true else r.last }
  if g.last && x'.scan.answered then x'.closeScan .complete else x'

/-! ## Segments taken (R25, R26) -/

/-- The scan intake changed. -/
def State.setScan (s : State) (f : ScanIntake → ScanIntake) : State := { s with scan := f s.scan }

/-- A head set UP with miss count 0. -/
def ScanIntake.headUp (h : Fin 4) (s : ScanIntake) : ScanIntake :=
  { s with heads := s.heads.set h { status := .up, misses := 0 } }

/-- A LAST in time makes its head UP with miss count 0 (R26). -/
def State.lastInTime (s : State) (h : Fin 4) (last deadlinePassed : Bool) : State :=
  if last && !deadlinePassed then s.setScan (·.headUp h) else s

/-- A segment that is not malformed is dealt with by the first case of R26 that applies. -/
def State.takeSegment (s : State) (h : Fin 4) (g : SegmentData) : State :=
  match s.slot? g.tag with
  | none => s.setScan fun i => { i with stray := bump i.stray }
  | some x =>
    if x.scan.last.get h then s.setScan fun i => { i with late := bump i.late }
    else if x.scan.status == .open then
      (s.updateSlot g.tag (·.mergeSegment (s.tables.heads.get h) h g)).lastInTime h g.last x.scan.deadlinePassed
    else
      let s' := s.setScan fun i => { i with late := bump i.late }
      let s' := s'.updateSlot g.tag (·.setScan fun r => { r with last := if g.last then r.last.set h true else r.last })
      (s'.lastInTime h g.last x.scan.deadlinePassed).raise .scanLate

/-- The kind of a SEGMENT frame (section 11.4). -/
def segmentKind : Byte := 0x22

/-- A frame from a head link (R25): discarded in STARTING and for a DISABLED head, malformed, or taken. -/
def State.headFrame (s : State) (h : Fin 4) (kind : Byte) (payload : List Byte) : State :=
  if s.tracker.line == .starting || (s.scan.heads.get h).status == .disabled then s
  else
    match (if kind = segmentKind then readSegment payload else none) with
    | none => s.setScan fun i => { i with malformed := bump i.malformed }
    | some g => s.takeSegment h g

/-! ## The scan deadline (R30, R31) -/

/-- A head's miss: the count goes up to 255, and a head that reaches 3 while UP becomes DOWN (R31). -/
def Head.miss (h : Head) : Head :=
  let n := min (h.misses + 1) 255
  { status := if h.status == .up && decide (3 ≤ n) then .down else h.status, misses := n }

/-- The heads after the misses of a slot's arrival at SD: each expected head that has not sent LAST and is not DISABLED
counts one (R31). The state at the arrival decides: a head disabled since the slot's creation and enabled again before SD counts
its miss (DESIGN CHOICE, notes/assumptions/37.md). -/
def missHeads (r : ScanRecord) (heads : Bank 4 Head) : Bank 4 Head :=
  Bank.ofFn fun h =>
    let x := heads.get h
    if r.expected.get h && !r.last.get h && x.status != .disabled then x.miss else x

/-- The slot at its arrival at SD: the deadline has passed, and an OPEN scan closes as CLOSED_PARTIAL (R30). -/
def Slot.deadline (x : Slot) : Slot :=
  let x' := x.setScan fun r => { r with deadlinePassed := true }
  if x.scan.status == .open then x'.closeScan .closedPartial else x'

/-- The arrival of a slot at SD (R30, R31): the scan closed, then the misses, and HEAD_DOWN raised where a head goes DOWN. -/
def State.arriveSD (s : State) (x : Slot) : State :=
  let heads := missHeads x.scan s.scan.heads
  let s' := (s.updateSlot x.tag Slot.deadline).setScan fun i => { i with heads := heads }
  if (List.finRange 4).any fun h => (s.scan.heads.get h).status == .up && (heads.get h).status == .down then
    s'.raise .headDown
  else s'

/-! ## Head states from the HEADS table (R22, R34, R37) -/

/-- The head that goes with an entry afresh: UP or DISABLED, miss count 0 (R37). -/
def freshHead (e : HeadEntry) : Head := { status := if e.enabled then .up else .disabled, misses := 0 }

/-- A head after its entry changes: newly enabled UP, newly disabled DISABLED, else kept (R22). -/
def Head.afterWrite (old new : HeadEntry) (h : Head) : Head := if old.enabled == new.enabled then h else freshHead new

/-- Every head after the HEADS table changes (R22). -/
def headsAfterWrite (old new : Bank 4 HeadEntry) (heads : Bank 4 Head) : Bank 4 Head :=
  Bank.ofFn fun h => (heads.get h).afterWrite (old.get h) (new.get h)

/-! ## Meanings -/

/-- SEGMENT (R25, R26): a frame from a head link. -/
def execSegment (h : Fin 4) (kind : Byte) (payload : List Byte) (s : State) : Host.Outcome State Fault Refusal :=
  .next ((s.received (.head h) payload).headFrame h kind payload)

/-- A head link ends a frame and sends the next TRIGGER waiting on it (R23). -/
def TriggerLink.next (l : TriggerLink) : TriggerLink :=
  match l.waiting with
  | [] => { sending := none, waiting := [] }
  | t :: ts => { sending := some (triggerFrame t).wire, waiting := ts }

/-- HEAD_LINK_SEND (R23). -/
def execHeadLinkSend (h : Fin 4) (s : State) : Host.Outcome State Fault Refusal :=
  .next (s.setScan fun i => { i with triggers := i.triggers.modify h TriggerLink.next })

end Sys2Proof.Machine
end

