-- ==== Sys2Proof/Machine/Transport.lean ====
section
/-! DEFINITION. The Transport Tracker (Chapter 1): the chain encoder, lug capture, the line state, the advance of the lug
ring, and the announcements at the stations. -/

namespace Sys2Proof.Machine

/-! ## Quadrature (R1, R127) -/

/-- The phases after a count: forward when phase A leads phase B, reverse when phase B leads phase A. One phase changes at
each count. -/
def quadrature (forward : Bool) (a b : Bool) : Bool × Bool := if forward then (!b, a) else (b, !a)

/-- The chain encoder's pins after a count. -/
def Tracker.turn (forward : Bool) (t : Tracker) : Tracker :=
  { t with phaseA := (quadrature forward t.phaseA t.phaseB).1, phaseB := (quadrature forward t.phaseA t.phaseB).2 }

/-! ## Stations (R13, R14) -/

/-- The offset of a station (section 1.5). -/
def Geometry.station (g : Geometry) : Station → Nat
  | .sd => g.sd
  | .gw => g.gw
  | .cm => g.cm
  | .tr => g.tr
  | .ex => g.ex

/-- The Console Interface's handling of an arrival at CM (R82, R84, R88): the window closes and the claim ends; a BOARD
piece is withdrawn. -/
def State.closeWindow (s : State) (x : Slot) : State :=
  let s' := s.updateSlot x.tag fun y => { y with console := { y.console with window := .closed, holder := none } }
  if x.kind == .board then s'.withdraw x.tag .commit else s'

/-- The arrival of a slot at CM, taken by its three owners at one event (R14): the Board Solver ends all solving, the Saw Bus
Controller fixes the decision from the solution that stands, the Console Interface closes the window. -/
def State.arriveCM (s : State) (x : Slot) : State :=
  ((if x.kind == .board then (s.endSolving x).commitPiece x else s).closeWindow x).judge

/-- A slot announced at a station to the station's owner (R14). -/
def State.announce (s : State) (st : Station) (x : Slot) : State :=
  match st with
  | .sd => s.arriveSD x
  | .gw => s.arriveGW x
  | .cm => s.arriveCM x
  | .tr => s.arriveTR x
  | .ex => s.arriveEX x

/-- A slot announced at a station where its offset has reached it and it was not announced there before (R13). -/
def State.arriveAt (s : State) (tag : Nat) (st : Station) : State :=
  match s.slot? tag with
  | none => s
  | some x =>
    if s.geo.station st ≤ x.offset ∧ !x.passed.contains st then
      let x' := { x with passed := x.passed ++ [st] }
      (s.updateSlot tag fun y => { y with passed := y.passed ++ [st] }).announce st x'
    else s

/-- A slot announced at every station it has reached, in the order SD, GW, CM, TR, EX (R13). -/
def State.arriveAll (s : State) (tag : Nat) : State :=
  [Station.sd, .gw, .cm, .tr, .ex].foldl (fun s st => s.arriveAt tag st) s

/-! ## The advance (R9 to R12) -/

/-- The kind a slot takes at offset 1 (R12). -/
def Slot.fixedKind (x : Slot) : SlotKind := if x.eye || x.scan.cells.any Cell.isPresent then .board else .empty

/-- The slot with its kind fixed: as BOARD it is flagged NO_PROFILE and handed over where its scan is closed (R12, R32, R33). -/
def Slot.fixKind (x : Slot) : Slot := ({ x with kind := x.fixedKind } : Slot).flagProfile.handOver

/-- The kind of the slot that has come to offset 1 is fixed (R12): a BOARD is counted scanned in its run (R140); an EMPTY
slot ceases to be open, which may close its run (R138). -/
def State.fixKind (s : State) (x : Slot) : State :=
  let s' := s.updateSlot x.tag Slot.fixKind
  if x.fixedKind == .board then s'.enter x.run [(.scanned, 1)] else s'.closeDrained

/-- The slot at offset 1 whose kind is not fixed. -/
def State.arriving (s : State) : Option Slot := s.tracker.ring.find? fun x => x.offset == 1 && x.kind == .undecided

/-- The slot an advance creates (R10, R11, R23, R82). -/
def State.newSlot (s : State) (synth : Bool) : Slot :=
  { tag := s.tracker.nextTag, offset := 0, kind := .undecided, eye := s.inputActive .boardEye, run := s.boardSeq,
    lugSynth := synth, passed := [], scan := ScanRecord.new s.geo.cells s.scan.heads, solve := none,
    console := { window := .before, holder := none, overrides := Overrides.empty }, commit := none }

/-- The new slot at offset 0 (R10), the tag counter increased, and its TRIGGERs (R23). -/
def State.createSlot (s : State) (synth : Bool) : State :=
  let tag := s.tracker.nextTag
  (s.setTracker fun t => { t with ring := t.ring ++ [s.newSlot synth], nextTag := (tag + 1) % 65536 }).setScan
    (·.trigger tag)

/-- Every slot one lug further (R9), and the time of the advance recorded (R8). -/
def State.moveRing (s : State) : State :=
  s.setTracker fun t =>
    { t with ring := t.ring.map fun x => { x with offset := x.offset + 1 },
             advanceTimes := (s.nowMs :: t.advanceTimes).take 2 }

/-- An advance (R9): offsets, the kind at offset 1, the arrivals of each slot, oldest first, and last the new slot. -/
def State.advance (s : State) (synth : Bool) : State :=
  let s1 := s.moveRing
  let s2 := match s1.arriving with
    | some x => s1.fixKind x
    | none => s1
  let s3 := (s2.tracker.ring.map (·.tag)).foldl State.arriveAll s2
  s3.createSlot synth

/-! ## Lug capture (R2 to R4) -/

/-- The position and the last-advance record set. -/
def State.setPos (s : State) (pos : Nat) (last : LastAdvance) : State :=
  s.setTracker fun t => { t with pos := pos, lastAdvance := last }

/-- A lug pulse (R2, R3): a sensed advance at pos K-W or more, a late pulse for an unmatched synthesized advance at pos W or
less, else an extra pulse. -/
def State.lugPulse (s : State) : State :=
  if s.tracker.line == .starting then s
  else if s.geo.lugPitch - s.geo.halfWidth ≤ s.tracker.pos then (s.advance false).setPos 0 .sensed
  else if s.tracker.pos ≤ s.geo.halfWidth ∧ s.tracker.lastAdvance = .synthesized false then s.setPos 0 (.synthesized true)
  else s.raise .lugExtra

/-- The board eye going active sets the eye flag of the slot at offset 0 (R11). -/
def State.eyeActive (s : State) : State :=
  s.setRing (s.tracker.ring.map fun x => if x.offset == 0 then { x with eye := true } else x)

/-! ## Counts (R1, R4, R6, R7) -/

/-- A forward count's effect on the line state (R6, R7). Timers are in half milliseconds. The run-up count, which R6 holds only in
STOPPED and gives no meaning in RUNNING, stays there at the value it reached (DESIGN CHOICE, notes/assumptions/41.md). -/
def Tracker.runForward (g : Geometry) (t : Tracker) : Tracker :=
  match t.line with
  | .starting => t
  | .running => { t with stopTimer := some (2 * g.stopTime) }
  | .stopped =>
    let n := t.runUp + 1
    if g.runUpGoal ≤ n then { t with runUp := n, line := .running, stopTimer := some (2 * g.stopTime) }
    else { t with runUp := n }

/-- A forward count taken in STOPPED or RUNNING (R1, R4, R6, R7): the count that brings pos to K+W makes a synthesized
advance and raises LUG_MISSED. -/
def State.forwardCount (s : State) : State :=
  let s' := s.setTracker fun t => { t.runForward s.geo with pos := t.pos + 1 }
  if s.geo.windowEnd ≤ s.tracker.pos + 1 then
    ((s'.advance true).setPos s.geo.halfWidth (.synthesized false)).raise .lugMissed
  else s'

/-- A reverse count taken in STOPPED or RUNNING (R1, R6): pos and, in STOPPED, the run-up count go down by 1, each held at 0. -/
def Tracker.reverseCount (t : Tracker) : Tracker :=
  { t with pos := t.pos - 1, runUp := if t.line == .stopped then t.runUp - 1 else t.runUp }

/-! ## Meanings -/

/-- CHAIN_FORWARD_COUNT (R1). In STARTING the count is discarded; the encoder's pins have turned all the same. -/
def execChainForwardCount (s : State) : Host.Outcome State Fault Refusal :=
  let s' := s.setTracker (·.turn true)
  .next (if s.tracker.line == .starting then s' else s'.forwardCount)

/-- CHAIN_REVERSE_COUNT (R1). -/
def execChainReverseCount (s : State) : Host.Outcome State Fault Refusal :=
  let s' := s.setTracker (·.turn false)
  .next (if s.tracker.line == .starting then s' else s'.setTracker Tracker.reverseCount)

/-- STOP_TIMER_EXPIRY (R7): the line becomes STOPPED. It is no event while the timer does not run
(notes/assumptions/2.md). -/
def execStopTimerExpiry (s : State) : Host.Outcome State Fault Refusal :=
  .next (if s.tracker.stopTimer.isSome then s.enterStopped else s)

end Sys2Proof.Machine
end

