-- ==== Sys2Proof/Machine/FieldIO.lean ====
section
/-! DEFINITION. Field I/O (Chapter 9): input filtering and its announcements, pulse timers, beacon waves, forces. -/

namespace Sys2Proof.Machine

/-! ## Inputs (R152, R153) -/

/-- One input changed. -/
def State.setInput (s : State) (i : Fin 8) (f : Input → Input) : State :=
  { s with field := { s.field with inputs := s.field.inputs.modify i f } }

/-- A recognised change told to the owner of the input's function (R153). Only changes to ACTIVE are acted on. -/
def State.announceInput (s : State) (f : InputFunction) (active : Bool) : State :=
  match f, active with
  | .lug, true => s.lugPulse
  | .boardEye, true => s.eyeActive
  | .trimInhibit, true => s.raise .inhibitActive
  | _, _ => s

/-- The change of an input is recognised: the filtered state takes the raw level, the timer stops, and the owner is told
(R152, R153). -/
def State.recognise (s : State) (i : Fin 8) : State :=
  let e := s.tables.inputs.get i
  let raw := rawLevel e (s.field.inputs.get i)
  (s.setInput i fun x => { x with filtered := raw, timer := none }).announceInput e.function raw

/-- The raw level of an input has changed (R152): the filter timer is stopped where it is back at the filtered state, else
started with the entry's filter time, or the change recognised at once where that is 0. -/
def State.rawChanged (s : State) (i : Fin 8) : State :=
  let e := s.tables.inputs.get i
  let x := s.field.inputs.get i
  if rawLevel e x == x.filtered then s.setInput i fun x => { x with timer := none }
  else if e.filter = 0 then s.recognise i
  else s.setInput i fun x => { x with timer := some e.filter }

/-- What a change of an INPUTS entry does at its input (R152, R153): TRIM_INHIBIT bound to an input already ACTIVE raises
INHIBIT_ACTIVE, and a change of polarity turns the raw level over. Where one write does both, the filtered state before the
write is looked at first and the polarity acts after it (DESIGN CHOICE, notes/assumptions/22.md). -/
def State.inputRewritten (old new : Bank 8 InputEntry) (s : State) (i : Fin 8) : State :=
  let o := old.get i
  let n := new.get i
  let s' :=
    if n.function == .trimInhibit && o.function != .trimInhibit && (s.field.inputs.get i).filtered then
      s.raise .inhibitActive
    else s
  if o.polarity == n.polarity then s' else s'.rawChanged i

/-- What a change of the INPUTS table does, inputs in number order. -/
def State.inputsRewritten (s : State) (old new : Bank 8 InputEntry) : State :=
  (List.finRange 8).foldl (State.inputRewritten old new) s

/-! ## Outputs (R156 to R158) -/

/-- What a change of an OUTPUTS entry does to its output (R156, R157): a change of function stops a running pulse, and a
change of rate starts a running wave afresh. -/
def outputRewritten (old new : OutputEntry) (o : Output) : Output :=
  { o with
    pulse := if old.function == new.function then o.pulse else none
    wave := if old.function == new.function && old.rate == new.rate then o.wave else none }

/-- What a change of the OUTPUTS table does; every output is judged afresh (R155). -/
def State.outputsRewritten (s : State) (old new : Bank 8 OutputEntry) : State :=
  State.judge <| s.setOutputs <| Bank.ofFn fun o => outputRewritten (old.get o) (new.get o) (s.field.outputs.get o)

/-- Every running pulse timer stopped, at a line clear (R159). -/
def State.stopPulses (s : State) : State := (s.setOutputs (s.field.outputs.map fun o => { o with pulse := none })).judge

/-- An output after power-on or restart: nothing runs, nothing is forced, OFF (R159). -/
def Output.off : Output := { force := .none, pulse := none, wave := none, level := false }

/-- A wave changes phase (R157). -/
def Wave.turn (r : BeaconRate) (w : Wave) : Wave := { on := !w.on, left := r.halfPeriod }

/-! ## Meanings -/

/-- INPUT_RAW_CHANGE (R152): the pin goes to a level. A pin already there makes no change. -/
def execInputRawChange (i : Fin 8) (high : Bool) (s : State) : Host.Outcome State Fault Refusal :=
  .next (if (s.field.inputs.get i).pin == high then s else (s.setInput i fun x => { x with pin := high }).rawChanged i)

/-- FILTER_TIMER_EXPIRY (R152): the change is recognised. It is no event while the timer does not run. -/
def execFilterTimerExpiry (i : Fin 8) (s : State) : Host.Outcome State Fault Refusal :=
  .next (if (s.field.inputs.get i).timer.isSome then s.recognise i else s)

/-- PULSE_TIMER_EXPIRY (R156): the output's pulse ends. It is no event while the timer does not run. -/
def execPulseTimerExpiry (o : Fin 8) (s : State) : Host.Outcome State Fault Refusal :=
  .next (if (s.field.outputs.get o).pulse.isSome then (s.setOutput o fun x => { x with pulse := none }).judge else s)

/-- BEACON_PHASE_CHANGE (R157): a running wave changes phase. It is no event while the wave is stopped. -/
def execBeaconPhaseChange (o : Fin 8) (s : State) : Host.Outcome State Fault Refusal :=
  .next
    (if (s.field.outputs.get o).wave.isSome then
      (s.setOutput o fun x => { x with wave := x.wave.map (Wave.turn (s.tables.outputs.get o).rate) }).judge
    else s)

/-- The request kind of OUTPUT FORCE and OUTPUT RELEASE (section 11.2). -/
def outputForceKind : Byte := 0x0F
def outputReleaseKind : Byte := 0x10

/-- OUTPUT FORCE as its owner takes it (R158). -/
def State.forceOutput (s : State) (frameTag : Byte) (payload : List Byte) : State :=
  match payload with
  | [n, l] =>
    match readOutput n, readLevel l with
    | some o, some f => ((s.setOutput o fun x => { x with force := f }).judge).ok outputForceKind frameTag []
    | _, _ => s.refuse outputForceKind frameTag .badValue
  | _ => s

/-- OUTPUT RELEASE as its owner takes it (R158). -/
def State.releaseOutput (s : State) (frameTag : Byte) (payload : List Byte) : State :=
  match payload with
  | [n] =>
    match readOutput n with
    | some o => ((s.setOutput o fun x => { x with force := .none }).judge).ok outputReleaseKind frameTag []
    | none => s.refuse outputReleaseKind frameTag .badValue
  | _ => s

/-- OUTPUT_FORCE (R158). -/
def execOutputForce (frameTag : Byte) (payload : List Byte) (s : State) : Host.Outcome State Fault Refusal :=
  .next (s.request outputForceKind frameTag payload (hasLength payload 2) false (·.forceOutput frameTag payload))

/-- OUTPUT_RELEASE (R158). -/
def execOutputRelease (frameTag : Byte) (payload : List Byte) (s : State) : Host.Outcome State Fault Refusal :=
  .next (s.request outputReleaseKind frameTag payload (hasLength payload 1) false (·.releaseOutput frameTag payload))

end Sys2Proof.Machine
end

