-- ==== Sys2Proof/Machine/LogLane.lean ====
section
/-! DEFINITION. The Log Lane (Chapter 7): log frames, measurement and its faults, judging, the tally and report of each log,
and the log queue to the kicker. -/

namespace Sys2Proof.Machine

/-- The Lane changed. -/
def State.setLane (s : State) (f : LogLane → LogLane) : State := { s with lane := f s.lane }

/-! ## Measuring (R119 to R122) -/

/-- A log just opened (section 7.2). -/
def LogRecord.opened (number : Option Nat) : LogRecord :=
  { number := number, slices := 0, firstMean := none, lastMean := none, volume := 0 }

/-- The volume of a slice in cm³ (R119). -/
def sliceVolume (d1 d2 : Nat) : Nat := (d1 * d2 * 7854 + 50000) / 100000

/-- The mean of a slice in mm (R119). -/
def sliceMean (d1 d2 : Nat) : Nat := (d1 + d2) / 2

/-- A slice computed into the record (R119). -/
def LogRecord.take (d1 d2 : Nat) (r : LogRecord) : LogRecord :=
  { r with slices := r.slices + 1, volume := r.volume + sliceVolume d1 d2,
           firstMean := some (r.firstMean.getD (sliceMean d1 d2)), lastMean := some (sliceMean d1 d2) }

/-! ## The measures and the judgement of a log (R123, R124) -/

/-- The number from `i` on of the first bound greater than the SED; past the last, that is class 7. -/
def firstBound (sed i : Nat) : List Nat → Nat
  | [] => i
  | b :: bs => if sed < b then i else firstBound sed (i + 1) bs

/-- The class of a SED (R123). -/
def logClass (c : LogClasses) (sed : Nat) : Fin 8 := ⟨min (firstBound sed 0 c.bounds.items) 7, by omega⟩

/-- The measures of a log that ended without fault (R123). -/
def LogRecord.measures (c : LogClasses) (r : LogRecord) : LogMeasures :=
  let sed := min (r.firstMean.getD 0) (r.lastMean.getD 0)
  { volume := r.volume, length := r.slices * 100, sed := sed, cls := logClass c sed }

/-- The judgement of a log: `none` is ACCEPTED, `some` REJECTED with its reason (R124). -/
def judgeLog (p : Product) (fault : Option LogFault) (slices : Nat) (m : LogMeasures) : Option RejectReason :=
  match fault with
  | some _ => if p.kickOnFault then some .fault else none
  | none =>
    if m.sed < p.sedMin ∨ p.sedMax < m.sed then some .sed
    else if slices < p.minSlices then some .length
    else none

/-- The tally entry of a log (R145). -/
def logEntry (fault : Option LogFault) (m : LogMeasures) (reject : Option RejectReason) : List (Counter × Nat) :=
  [(.logsMeasured, 1)]
    ++ (match reject with | none => [(.accepted, 1)] | some r => [(.rejected r, 1)])
    ++ (match fault with
        | some _ => [(.faulted, 1)]
        | none => (if reject.isNone then [(.acceptedVolume, m.volume)] else []) ++ [(.logClass m.cls, 1)])

/-- The code of a log fault (section 11.3). -/
def LogFault.code : LogFault → Byte
  | .noStart => 1 | .indexGap => 2 | .tooLong => 3 | .restarted => 4 | .countMismatch => 5 | .tooShort => 6

/-- The code of a reject reason (section 11.3). -/
def RejectReason.code : RejectReason → Byte
  | .fault => 1
  | .sed => 2
  | .length => 3

/-- The payload of a LOG report, 18 bytes (R126, section 11.3). -/
def logPayload (seq : Nat) (r : LogRecord) (fault : Option LogFault) (m : LogMeasures) (reject : Option RejectReason)
    (untracked : Bool) : List Byte :=
  [flagByte [r.number.isSome, fault.isNone, untracked]] ++ u16 (r.number.getD 0) ++ u16 seq
    ++ [yesNo reject.isSome, (reject.map RejectReason.code).getD 0, (fault.map LogFault.code).getD 0, u8 r.slices]
    ++ (match fault with
        | none => u16 m.length ++ u32 m.volume ++ u16 m.sed ++ [u8 m.cls.val]
        | some _ => List.replicate 9 0)

/-- A log ends, with or without fault (R123 to R126, R128): judged against the log-current run's product, tallied in that run,
offered a place in the log queue, and reported. The record is then discarded by the caller's state change. -/
def State.endLog (s : State) (r : LogRecord) (fault : Option LogFault) : State :=
  let m := r.measures s.tables.logClasses
  let reject := judgeLog s.logProduct fault r.slices m
  let seq := s.logSeq
  let dk := s.tables.logClasses.kicker
  let s1 := s.enter seq (logEntry fault m reject)
  if s.lane.queue.length < Config.logPlaces then
    (s1.setLane fun l =>
      { l with queue := l.queue ++ [{ number := r.number, rejected := reject.isSome, entry := dk, countdown := dk }] }).report
      logKind (logPayload seq r fault m reject false)
  else (s1.raise .logUntracked).report logKind (logPayload seq r fault m reject true)

/-- A log frame discarded and counted (R118, R121, R122). -/
def State.discardLog (s : State) : State := s.setLane fun l => { l with discards := bump l.discards }

/-- The Lane's state set. -/
def State.setLaneState (s : State) (x : LaneState) : State := s.setLane fun l => { l with state := x }

/-- A LOG START (R120). -/
def State.takeLogStart (s : State) (number : Nat) : State :=
  match s.lane.state with
  | .open r => (s.endLog r (some .restarted)).setLaneState (.open (LogRecord.opened (some number)))
  | _ => s.setLaneState (.open (LogRecord.opened (some number)))

/-- The most slices of a log (R121). -/
def sliceLimit : Nat := 200

/-- A SLICE (R121). -/
def State.takeSlice (s : State) (x : SliceData) : State :=
  match s.lane.state with
  | .open r =>
    if sliceLimit ≤ r.slices then (s.endLog r (some .tooLong)).setLaneState .skipping
    else if x.index = r.slices + 1 then s.setLaneState (.open (r.take x.d1 x.d2))
    else (s.endLog r (some .indexGap)).setLaneState .skipping
  | .idle => (s.endLog (LogRecord.opened none) (some .noStart)).setLaneState .skipping
  | .skipping => s.discardLog

/-- The fault of a log at its LOG END, if any (R122). -/
def endFault (count slices : Nat) : Option LogFault :=
  if count ≠ slices then some .countMismatch else if slices < 5 then some .tooShort else none

/-- A LOG END (R122). -/
def State.takeLogEnd (s : State) (count : Nat) : State :=
  match s.lane.state with
  | .open r => (s.endLog r (endFault count r.slices)).setLaneState .idle
  | .skipping => s.setLaneState .idle
  | .idle => s.discardLog

/-- A log frame as the Lane takes it (R118): discarded in STARTING; of a wrong length discarded and counted. -/
def State.logFrame {α : Type} (s : State) (read : Option α) (take : State → α → State) : State :=
  if s.tracker.line == .starting then s
  else
    match read with
    | none => s.discardLog
    | some a => take s a

/-! ## The log queue (R127 to R130) -/

/-- A forward count (R129). -/
def QueuedLog.forward (q : QueuedLog) : QueuedLog := { q with countdown := q.countdown - 1 }

/-- A reverse count (R129). -/
def QueuedLog.reverse (q : QueuedLog) : QueuedLog := { q with countdown := min (q.countdown + 1) q.entry }

/-- A log whose countdown has run out. -/
def QueuedLog.arrived (q : QueuedLog) : Bool := q.countdown == 0

/-- The logs at the head of the queue whose countdown is 0 leave, head first, each rejected one asking for a KICK (R130). -/
def State.leaveQueue (s : State) : State :=
  let leaving := s.lane.queue.takeWhile QueuedLog.arrived
  let s' := s.setLane fun l => { l with queue := l.queue.dropWhile QueuedLog.arrived }
  if leaving.any (·.rejected) then s'.pulse .kick else s'

/-- The log encoder's pins after a count (R127). -/
def LogLane.turn (forward : Bool) (l : LogLane) : LogLane :=
  { l with phaseA := (quadrature forward l.phaseA l.phaseB).1, phaseB := (quadrature forward l.phaseA l.phaseB).2 }

/-! ## Meanings -/

/-- LOG_START (R120). -/
def execLogStart (payload : List Byte) (s : State) : Host.Outcome State Fault Refusal :=
  .next ((s.received .log payload).logFrame (readWord payload) State.takeLogStart)

/-- SLICE (R121). -/
def execSlice (payload : List Byte) (s : State) : Host.Outcome State Fault Refusal :=
  .next ((s.received .log payload).logFrame (readSlice payload) State.takeSlice)

/-- LOG_END (R122). -/
def execLogEnd (payload : List Byte) (s : State) : Host.Outcome State Fault Refusal :=
  .next ((s.received .log payload).logFrame (readWord payload) State.takeLogEnd)

/-- The payload length of a log frame kind; `none` for an unknown kind (section 11.4). -/
def logFrameLength (kind : Byte) : Option Nat :=
  if kind = 0x71 then some 2 else if kind = 0x72 then some 6 else if kind = 0x73 then some 2 else none

/-- LOG_FRAME_DISCARD (R118): a checked frame of unknown kind or wrong length is discarded and counted; in STARTING it is
discarded uncounted, as every log frame is. A frame that is neither is not this event (notes/assumptions/2.md). -/
def execLogFrameDiscard (kind : Byte) (payload : List Byte) (s : State) : Host.Outcome State Fault Refusal :=
  .next
    (if logFrameLength kind = some payload.length then s
    else
      let s' := s.received .log payload
      if s.tracker.line == .starting then s' else s'.discardLog)

/-- LOG_FORWARD_COUNT (R127, R129, R130). In STARTING the count is discarded. -/
def execLogForwardCount (s : State) : Host.Outcome State Fault Refusal :=
  let s' := s.setLane (·.turn true)
  .next
    (if s.tracker.line == .starting then s'
    else (s'.setLane fun l => { l with queue := l.queue.map QueuedLog.forward }).leaveQueue)

/-- LOG_REVERSE_COUNT (R127, R129). In STARTING the count is discarded. -/
def execLogReverseCount (s : State) : Host.Outcome State Fault Refusal :=
  let s' := s.setLane (·.turn false)
  .next
    (if s.tracker.line == .starting then s'
    else s'.setLane fun l => { l with queue := l.queue.map QueuedLog.reverse })

end Sys2Proof.Machine
end

