-- ==== Sys2Proof/Machine/ImageMemory.lean ====
section
/-! DEFINITION. The image memory (section 4.8): its bytes in one canonical form, the image as bytes (R71, R76), and the
judgement of a load (R73). -/

namespace Sys2Proof.Machine

/-! ## The memory: a list of (address, byte), addresses strictly rising, no entry equal to what an unlisted address reads as -/

/-- What an address reads as that nothing has written: DESIGN CHOICE 0xFF (notes/assumptions/7.md). -/
def blankByte : Byte := 0xFF

/-- The byte at an address. -/
def memRead (m : List Host.Cell) (a : Nat) : Byte :=
  match m with
  | [] => blankByte
  | (b, v) :: r => if a = b then v else if a < b then blankByte else memRead r a

/-- A cell put in front, unless it reads as an unlisted address does. -/
def memCons (a : Nat) (v : Byte) (m : List Host.Cell) : List Host.Cell := if v = blankByte then m else (a, v) :: m

/-- One byte written. -/
def memWrite (m : List Host.Cell) (a : Nat) (v : Byte) : List Host.Cell :=
  match m with
  | [] => memCons a v []
  | (b, w) :: r =>
    if a < b then memCons a v ((b, w) :: r)
    else if a = b then memCons a v r
    else (b, w) :: memWrite r a v

/-- Bytes written from an address on. -/
def memWriteBytes (m : List Host.Cell) (a : Nat) : List Byte → List Host.Cell
  | [] => m
  | v :: vs => memWriteBytes (memWrite m a v) (a + 1) vs

/-- `n` bytes read from an address on. -/
def memReadBytes (m : List Host.Cell) (a : Nat) : Nat → List Byte
  | 0 => []
  | n + 1 => memRead m a :: memReadBytes m (a + 1) n

/-- Every address of the list is above `lo` and the addresses rise, and no listed byte reads as blank. -/
def memWfAbove (lo : Option Nat) : List Host.Cell → Bool
  | [] => true
  | (a, v) :: r => (match lo with | none => true | some b => decide (b < a)) && v != blankByte && memWfAbove (some a) r

/-- The canonical form. -/
def memWf (m : List Host.Cell) : Bool := memWfAbove none m

/-! ## The image -/

/-- The signature byte at address 0. -/
def imageSignature : Byte := 0xC9

/-- The number of bytes in the whole image. -/
def imageLength : Nat := 1396

/-- The tables as the image holds them, addresses 6 to 1,395. -/
def Tables.encode (t : Tables) : List Byte := t.entries.flatMap Entry.encode

/-- The bytes the image's CRC is taken over: format number, image length, tables (R71). -/
def imageCovered (tables : List Byte) : List Byte := u8 Config.imageFormat :: (u16 imageLength ++ tables)

/-- The image with the given CRC bytes in its header. -/
def imageWith (crc : Nat) (tables : List Byte) : List Byte :=
  imageSignature :: u8 Config.imageFormat :: (u16 imageLength ++ u16 crc ++ tables)

/-- The image of the tables in force, with its true CRC (R71). -/
def imageOf (t : Tables) : List Byte := imageWith (crc16 (imageCovered t.encode)) t.encode

/-- An image with the bitwise inverse of its CRC in the header: what the memory holds until the save's last write (R71). -/
def invertCrc (image : List Byte) : List Byte :=
  image.take 4 ++ ((image.drop 4).take 2).map (~~~ ·) ++ image.drop 6

/-- Bytes in one page. -/
def pageSize : Nat := 64

/-- The page writes of one save (R76). -/
def pageWrites : Nat := 23

/-- The page that write `w` (1 to 23) writes: pages 0 to 21, then page 0 again (R76). -/
def pageOf (w : Nat) : Nat := if w < pageWrites then w - 1 else 0

/-- The bytes of write `w`: write 1 carries the inverse CRC, write 23 the true one (R76). -/
def pageBytes (image : List Byte) (w : Nat) : List Byte :=
  ((if w = 1 then invertCrc image else image).drop (pageSize * pageOf w)).take pageSize

/-- The memory with write `w` of the save of `image` completed. -/
def pageWritten (m : List Host.Cell) (image : List Byte) (w : Nat) : List Host.Cell :=
  memWriteBytes m (pageSize * pageOf w) (pageBytes image w)

/-- The memory with the page of write `w` left open, as the `n`-th such page: its bytes are free (notes/assumptions/8.md). -/
def pageLeftOpen (n : Nat) (m : List Host.Cell) (image : List Byte) (w : Nat) : List Host.Cell :=
  memWriteBytes m (pageSize * pageOf w) ((List.range (pageBytes image w).length).map (Config.tornByte n))

/-- The memory where write `w` timed out, as the `n`-th page left open. A timed-out write 1 leaves page 0 open (R76: "as it was,
half written or as written"), and the pages of writes 2 to 22 are left open too (DESIGN CHOICE, notes/assumptions/8.md). After
write 1 page 0 holds the inverse CRC and a stopped save leaves it there (R76), so a timed-out write 23 leaves page 0 as it was. -/
def pageTorn (n : Nat) (m : List Host.Cell) (image : List Byte) (w : Nat) : List Host.Cell :=
  if w < pageWrites then pageLeftOpen n m image w else m

/-! ## The judgement of a load (R73) -/

/-- The outcomes of a load (R74), NO ANSWER aside, which only a read timeout gives. -/
inductive LoadOutcome where
  | good (t : Tables)
  | noSignature
  | noAnswer
  | badCrc
deriving DecidableEq, Repr

/-- The tables read from the image's bytes 6 to 1,395, at the addresses of section 11.6; `none` where a field holds a value
no table lists. -/
def Tables.decode (l : List Byte) : Option Tables := do
  let geometry ← Geometry.decode (l.take 12)
  let heads ← decodeBank 4 4 HeadEntry.decode ((l.drop 12).take 16)
  let gradeSets ← decodeBank 4 60 (decodeBank 6 10 GradeRecord.decode) ((l.drop 28).take 240)
  let priceRows ← decodeBank 28 30 (decodeBank 15 2 decodeWord) ((l.drop 268).take 840)
  let products ← decodeBank 8 26 Product.decode ((l.drop 1108).take 208)
  let logClasses ← LogClasses.decode ((l.drop 1316).take 16)
  let inputs ← decodeBank 8 3 InputEntry.decode ((l.drop 1332).take 24)
  let outputs ← decodeBank 8 4 OutputEntry.decode ((l.drop 1356).take 32)
  let sawBus ← SawBusEntry.decode ((l.drop 1388).take 2)
  pure { geometry := geometry, heads := heads, gradeSets := gradeSets, priceRows := priceRows, products := products,
         logClasses := logClasses, inputs := inputs, outputs := outputs, sawBus := sawBus }

/-- The judgement of the image in the memory (R73): signature, format number and length, CRC, then every entry. -/
def judgeImage (m : List Host.Cell) : LoadOutcome :=
  if memRead m 0 ≠ imageSignature then .noSignature
  else if memRead m 1 ≠ u8 Config.imageFormat ∨ word (memRead m 2) (memRead m 3) ≠ imageLength then .badCrc
  else
    let tables := memReadBytes m 6 (imageLength - 6)
    if word (memRead m 4) (memRead m 5) ≠ crc16 (imageCovered tables) then .badCrc
    else
      match Tables.decode tables with
      | some t => if t.valid then .good t else .badCrc
      | none => .badCrc

end Sys2Proof.Machine
end

