-- ==== Sys2Proof/Machine/TableStore.lean ====
section
/-! DEFINITION. The Table Store (Chapter 4): tables read and written with their effects on the blocks that use them, held
writes, image loads and image saves. -/

namespace Sys2Proof.Machine

/-! ## Tables replaced, with what follows in the blocks that use them (R16, R22, R34, R63, R110, R152 to R157) -/

/-- A pos at or above the new K+W becomes K+W-1 (R16: a GEOMETRY write; the same is taken of an image load by request, which R75
leaves open: DESIGN CHOICE, notes/assumptions/38.md). -/
def Tracker.clampPos (g : Geometry) (t : Tracker) : Tracker := { t with pos := min t.pos (g.windowEnd - 1) }

/-- The tables replaced at one event, with the effects the manual gives a change of each: the outputs (R155 to R157), pos
(R16), the heads (R22), the module count (R63, R110), and last the inputs, whose changes others are told of (R152, R153).
Entries that stay equal have no effect. -/
def State.applyTables (s : State) (new : Tables) : State :=
  let old := s.tables
  let s1 := ({ s with tables := new } : State).outputsRewritten old.outputs new.outputs
  let s2 := (s1.setTracker (·.clampPos new.geometry)).setScan fun i =>
    { i with heads := headsAfterWrite old.heads new.heads i.heads }
  (s2.changeModuleCount old.sawBus.modules new.sawBus.modules).inputsRewritten old.inputs new.inputs

/-- An accepted TABLE WRITE applied: the entry replaced with its effects, and the edit mark set (R62, R72). -/
def State.applyEntry (s : State) (e : Entry) : State :=
  (s.applyTables (s.tables.put e)).setStore fun t => { t with editMark := true }

/-! ## TABLE READ and TABLE WRITE (R61, R62) -/

def tableReadKind : Byte := 0x06
def tableWriteKind : Byte := 0x07

/-- TABLE READ as its owner takes it (R61). -/
def State.readTable (s : State) (frameTag : Byte) (payload : List Byte) : State :=
  match payload with
  | [k, i] =>
    match TableKind.ofCode k with
    | none => s.refuse tableReadKind frameTag .badValue
    | some kind =>
      match s.tables.entry? kind i.toNat with
      | none => s.refuse tableReadKind frameTag .noSuch
      | some e => s.ok tableReadKind frameTag ([k, i] ++ e.encode)
  | _ => s

/-- A save is in progress. -/
def State.saving (s : State) : Bool :=
  match s.store.activity with
  | .saving _ => true
  | _ => false

/-- The controller is IDLE. -/
def State.imageIdle (s : State) : Bool :=
  match s.store.activity with
  | .idle => true
  | _ => false

/-- The editing condition of GEOMETRY and HEADS: STOPPED with no BOARD slot in the ring (R16). -/
def State.editable (s : State) : Bool := s.tracker.line == .stopped && !s.hasBoard

/-- An entry is written only under the editing condition (R16). -/
def Entry.needsStopped : Entry → Bool
  | .geometry _ => true
  | .head _ _ => true
  | _ => false

/-- An entry belongs to the grade set or price set the running solve uses (R70). -/
def State.inUse (s : State) : Entry → Bool
  | .gradeSet i _ => s.gradeSetInUse == some i.val
  | .priceRow i _ => s.priceSetInUse == some (i.val / 7)
  | _ => false

/-- A TABLE WRITE that passed its checks: held while a solve uses its set (R70), else applied and answered at once. -/
def State.writeEntry (s : State) (frameTag : Byte) (e : Entry) : State :=
  if s.inUse e then s.setCtl fun c => { c with inProcess := some (.heldWrite { frameTag := frameTag, entry := e }) }
  else (s.applyEntry e).ok tableWriteKind frameTag []

/-- TABLE WRITE as its owner takes it: the checks in the order of R62, the first that fails giving the refusal. -/
def State.writeTable (s : State) (frameTag : Byte) (payload : List Byte) : State :=
  match payload with
  | k :: i :: body =>
    match TableKind.ofCode k with
    | none => s.refuse tableWriteKind frameTag .badValue
    | some kind =>
      if kind.count ≤ i.toNat then s.refuse tableWriteKind frameTag .noSuch
      else if body.length ≠ kind.entryLength then s.refuse tableWriteKind frameTag .badLength
      else if s.saving then s.refuse tableWriteKind frameTag .busy
      else
        match Entry.decode kind i.toNat body with
        | none => s.refuse tableWriteKind frameTag .badValue
        | some e =>
          if !s.tables.admits e then s.refuse tableWriteKind frameTag .badValue
          else if e.needsStopped && !s.editable then s.refuse tableWriteKind frameTag .state
          else s.writeEntry frameTag e
  | _ => s

/-- A held write is applied and answered once the solve that used its set has ended (R70). -/
def State.releaseHeld (s : State) : State :=
  match s.solver.engine, s.heldWrite with
  | none, some w =>
    ((s.applyEntry w.entry).setCtl fun c => { c with inProcess := none }).ok tableWriteKind w.frameTag []
  | _, _ => s

/-! ## Image loads (R73 to R75) -/

def imageLoadKind : Byte := 0x08
def imageSaveKind : Byte := 0x09

/-- The code of an image status, by its place (R172). -/
def ImageStatus.code : ImageStatus → Byte
  | .loaded => 0
  | .defaults => 1
  | .fault => 2

/-- IMAGE LOAD as its owner takes it (R75, R77). -/
def State.loadImage (s : State) (frameTag : Byte) : State :=
  if !s.imageIdle then s.refuse imageLoadKind frameTag .busy
  else if !s.editable then s.refuse imageLoadKind frameTag .state
  else
    (s.setStore fun t => { t with activity := .loading (.request frameTag) }).setCtl fun c =>
      { c with inProcess := some .imageLoad }

/-- What the outcome of a load does to the tables, the image status and the edit mark, and the cause it raises (R72, R74). -/
def State.loadOutcome (s : State) (o : LoadOutcome) : State :=
  match o with
  | .good t => (s.applyTables t).setStore fun x => { x with status := .loaded, editMark := false }
  | .noSignature => (s.setStore fun x => { x with status := .defaults }).raise .imageFault
  | .noAnswer => (s.setStore fun x => { x with status := .defaults }).raise .imageFault
  | .badCrc => (s.setStore fun x => { x with status := .fault }).raise .imageFault

/-- The load at power-on or restart ends (R5, R37, R74): its outcome acts, the heads are set from the HEADS table then in
force, and the line becomes STOPPED. -/
def State.endStartUp (s : State) (o : LoadOutcome) : State :=
  let s' := s.loadOutcome o
  (s'.setScan fun i => { i with heads := s'.tables.heads.map freshHead }).enterStopped

/-- The load by request ends (R75): a GOOD image replaces the tables where the editing condition still holds. -/
def State.endRequested (s : State) (frameTag : Byte) (o : LoadOutcome) : State :=
  let s' := s.setCtl fun c => { c with inProcess := none }
  match o with
  | .good _ =>
    if s'.editable then (s'.loadOutcome o).ok imageLoadKind frameTag [ImageStatus.loaded.code]
    else s'.refuse imageLoadKind frameTag .state
  | _ => (s'.loadOutcome o).refuse imageLoadKind frameTag .imageFault

/-- A load ends with an outcome; nothing while no load is in progress. -/
def State.endLoad (s : State) (o : LoadOutcome) : State :=
  match s.store.activity with
  | .loading .startUp => (s.setStore fun t => { t with activity := .idle }).endStartUp o
  | .loading (.request frameTag) => (s.setStore fun t => { t with activity := .idle }).endRequested frameTag o
  | _ => s

/-! ## Image saves (R76, R77) -/

/-- The completion timeout of a page write, 40 ms, in half milliseconds (R76). -/
def pageTimeout : Nat := 80

/-- IMAGE SAVE as its owner takes it (R76, R77): the tables are copied at one event, write 1 begun, and OK sent. -/
def State.saveImage (s : State) (frameTag : Byte) : State :=
  if !s.imageIdle then s.refuse imageSaveKind frameTag .busy
  else
    (s.setStore fun t =>
      { t with activity := .saving { image := imageOf s.tables, write := 1, left := pageTimeout } }).ok
        imageSaveKind frameTag []

/-- A page write completes (R76): the next is begun, or after write 23 the save ends LOADED. -/
def Store.pageDone (t : Store) : Store :=
  match t.activity with
  | .saving job =>
    let t' := { t with memory := pageWritten t.memory job.image job.write }
    if job.write < pageWrites then
      { t' with activity := .saving { job with write := job.write + 1, left := pageTimeout } }
    else { t' with activity := .idle, status := .loaded, editMark := false }
  | _ => t

/-- A page write does not complete in time (R76): the save stops, the status is FAULT and IMAGE_FAULT is raised. What the
page then holds is open (notes/assumptions/8.md). -/
def State.pageTimedOut (s : State) : State :=
  match s.store.activity with
  | .saving job =>
    (({ s with freeCount := s.freeCount + 1 } : State).setStore fun t =>
      { t with activity := .idle, status := .fault, memory := pageTorn s.freeCount t.memory job.image job.write }).raise
        .imageFault
  | _ => s

/-- A save stopped by a restart (R77): the memory completes the page write in progress, no later one is begun. -/
def Store.stopSave (t : Store) : Store :=
  match t.activity with
  | .saving job => { t with memory := pageWritten t.memory job.image job.write }
  | _ => t

/-! ## Meanings -/

/-- TABLE_READ (R61). -/
def execTableRead (frameTag : Byte) (payload : List Byte) (s : State) : Host.Outcome State Fault Refusal :=
  .next (s.request tableReadKind frameTag payload (hasLength payload 2) false (·.readTable frameTag payload))

/-- TABLE_WRITE (R62). The port's own length check is for 2 bytes or more (R171). -/
def execTableWrite (frameTag : Byte) (payload : List Byte) (s : State) : Host.Outcome State Fault Refusal :=
  .next (s.request tableWriteKind frameTag payload (decide (2 ≤ payload.length)) false (·.writeTable frameTag payload))

/-- HELD_WRITE_APPLIED (R70). It is no event while no write is held or the solve has not ended. -/
def execHeldWriteApplied (s : State) : Host.Outcome State Fault Refusal := .next s.releaseHeld

/-- IMAGE_LOAD (R75). -/
def execImageLoad (frameTag : Byte) (payload : List Byte) (s : State) : Host.Outcome State Fault Refusal :=
  .next (s.request imageLoadKind frameTag payload (hasLength payload 0) false (·.loadImage frameTag))

/-- IMAGE_READ_TIMEOUT (R73): the load ends with outcome NO ANSWER. -/
def execImageReadTimeout (s : State) : Host.Outcome State Fault Refusal := .next (s.endLoad .noAnswer)

/-- IMAGE_LOAD_END (R73, R74): the load ends with the outcome of the image as the memory holds it. -/
def execImageLoadEnd (s : State) : Host.Outcome State Fault Refusal := .next (s.endLoad (judgeImage s.store.memory))

/-- IMAGE_SAVE (R76). -/
def execImageSave (frameTag : Byte) (payload : List Byte) (s : State) : Host.Outcome State Fault Refusal :=
  .next (s.request imageSaveKind frameTag payload (hasLength payload 0) false (·.saveImage frameTag))

/-- PAGE_WRITE_COMPLETE (R76). It is no event while no save is in progress. -/
def execPageWriteComplete (s : State) : Host.Outcome State Fault Refusal := .next (s.setStore Store.pageDone)

/-- PAGE_WRITE_TIMEOUT (R76). It is no event while no save is in progress. -/
def execPageWriteTimeout (s : State) : Host.Outcome State Fault Refusal := .next s.pageTimedOut

end Sys2Proof.Machine
end

