-- ==== Sys2Proof/Machine/RunRequests.lean ====
section
/-! DEFINITION. The requests of the Run and Tally Unit: runs opened, cut over and released, tallies read (sections 8.2 and
8.5). -/

namespace Sys2Proof.Machine

/-- The code of a run state, by its place (R172). -/
def RunState.code : RunState → Byte
  | .logs => 0 | .both => 1 | .boards => 2 | .draining => 3 | .closed => 4

/-- The request kinds of this unit (section 11.2). -/
def openRunKind : Byte := 0x0A
def boardCutoverKind : Byte := 0x0B
def tallyReadKind : Byte := 0x0C
def runReleaseKind : Byte := 0x0D

/-! ## OPEN RUN (R135, R136) -/

/-- A run just opened (R136). -/
def Run.opened (seq : Nat) (product : Fin 8) : Run :=
  { seq := seq, product := product, state := .logs, saturated := false, tally := Tally.zero }

/-- The run that was log-current, then in BOTH, becomes BOARDS (R136). -/
def Run.yieldLogs (r : Run) : Run := if r.state == .both then { r with state := .boards } else r

/-- The run table after an OPEN RUN that passes its checks (R136). -/
def RunTable.openRun (product : Fin 8) (t : RunTable) : RunTable :=
  { records := t.records.map Run.yieldLogs ++ [Run.opened (t.lastIssued + 1) product], lastIssued := t.lastIssued + 1 }

/-- The log-current run is in state LOGS. -/
def State.cutoverPending (s : State) : Bool := (s.logRun.map (·.state)) == some .logs

/-- A new run can be held and numbered (R135, R136). -/
def RunTable.hasRoom (t : RunTable) : Bool :=
  decide (t.records.length < Config.runRecords) && decide (t.lastIssued < 65535)

/-- OPEN RUN as its owner takes it, its checks in the order of R136. -/
def State.openRun (s : State) (frameTag : Byte) (payload : List Byte) : State :=
  match payload with
  | [p] =>
    match place? 8 p.toNat with
    | none => s.refuse openRunKind frameTag .badValue
    | some product =>
      if s.cutoverPending then s.refuse openRunKind frameTag .pendingCutover
      else if !s.runs.hasRoom then s.refuse openRunKind frameTag .tableFull
      else
        ({ s with runs := s.runs.openRun product } : State).ok openRunKind frameTag (u16 (s.runs.lastIssued + 1))
  | _ => s

/-! ## BOARD CUTOVER (R137) -/

/-- The state the board-current run takes at a cutover: DRAINING with an open slot, CLOSED with none (R137). -/
def State.drainedState (s : State) (seq : Nat) : RunState := if s.openSlots seq == 0 then .closed else .draining

/-- A run at a cutover: LOGS becomes BOTH, BOARDS takes its drained state (R137). -/
def Run.cutOver (drained : RunState) (r : Run) : Run :=
  match r.state with
  | .logs => { r with state := .both }
  | .boards => { r with state := drained }
  | _ => r

/-- BOARD CUTOVER as its owner takes it (R137). -/
def State.cutOver (s : State) (frameTag : Byte) : State :=
  if s.cutoverPending then
    let drained := s.drainedState s.boardSeq
    (s.setRuns (·.map (Run.cutOver drained))).ok boardCutoverKind frameTag (u16 s.logSeq ++ [drained.code])
  else s.refuse boardCutoverKind frameTag .state

/-! ## RUN RELEASE (R139) -/

/-- RUN RELEASE as its owner takes it (R139). -/
def State.releaseRun (s : State) (frameTag : Byte) (payload : List Byte) : State :=
  match readWord payload with
  | none => s
  | some seq =>
    match s.run? seq with
    | none => s.refuse runReleaseKind frameTag .noSuch
    | some r =>
      if r.state == .closed then (s.setRuns (·.filter (·.seq != seq))).ok runReleaseKind frameTag []
      else s.refuse runReleaseKind frameTag .state

/-! ## TALLY READ (R147, R148) -/

/-- The sections of a tally (R148), coded as in section 11.2. -/
inductive TallySection where
  | summary
  | grade (g : Fin 8)
  | logs
deriving DecidableEq, Repr

/-- The section a byte names: 0 SUMMARY, 1 to 7 the grades, 8 grade U, 9 LOGS (section 11.2). -/
def TallySection.ofCode (b : Byte) : Option TallySection :=
  if b = 0 then some .summary
  else if b = 9 then some .logs
  else (place? 8 (b.toNat - 1)).map .grade

/-- The items of SUMMARY in the order of R148. -/
def State.summaryItems (s : State) (r : Run) : List Byte :=
  let t := r.tally
  u16 r.seq ++ [u8 r.product.val] ++ encodeName (s.tables.product r.product).name
    ++ [r.state.code, yesNo r.saturated, u8 (s.openSlots r.seq), u8 (s.boardSlots r.seq)]
    ++ u32 t.scanned ++ u64 (min t.keptPieces Config.tallyMax) ++ u32 t.scrapped ++ u32 t.lost ++ u32 t.overridden
    ++ u32 t.fallback
    ++ [t.overrideMissed, t.trimMissed, t.inhibited, t.manualConflict, t.scanPartial, t.noProfile].flatMap u32
    ++ u32 t.value ++ u64 t.volumeTotal ++ u16 t.recovery

/-- The items of a grade's section: its 15 kept counters and its volume (R148). -/
def Tally.gradeItems (t : Tally) (g : Fin 8) : List Byte := (t.kept.get g).items.flatMap u32 ++ u32 (t.volume.get g)

/-- The items of LOGS (R148). -/
def Tally.logItems (t : Tally) : List Byte :=
  [t.logsMeasured, t.accepted, t.rejectedFault, t.rejectedSed, t.rejectedLength, t.faulted, t.acceptedVolume].flatMap u32
    ++ t.classes.items.flatMap u32

/-- The items of a section of a run's tally (R148). -/
def State.tallyItems (s : State) (r : Run) : TallySection → List Byte
  | .summary => s.summaryItems r
  | .grade g => r.tally.gradeItems g
  | .logs => r.tally.logItems

/-- TALLY READ as its owner takes it (R148). R148 gives its two refusals no order: an unknown run is refused NO_SUCH before the
section is looked at (DESIGN CHOICE, notes/assumptions/33.md). -/
def State.readTally (s : State) (frameTag : Byte) (payload : List Byte) : State :=
  match readTagByte payload with
  | none => s
  | some (seq, code) =>
    match s.run? seq with
    | none => s.refuse tallyReadKind frameTag .noSuch
    | some r =>
      match TallySection.ofCode (u8 code) with
      | none => s.refuse tallyReadKind frameTag .badValue
      | some x => s.ok tallyReadKind frameTag (s.tallyItems r x)

/-! ## Meanings -/

/-- OPEN_RUN (R136). -/
def execOpenRun (frameTag : Byte) (payload : List Byte) (s : State) : Host.Outcome State Fault Refusal :=
  .next (s.request openRunKind frameTag payload (hasLength payload 1) false (·.openRun frameTag payload))

/-- BOARD_CUTOVER (R137). -/
def execBoardCutover (frameTag : Byte) (payload : List Byte) (s : State) : Host.Outcome State Fault Refusal :=
  .next (s.request boardCutoverKind frameTag payload (hasLength payload 0) false (·.cutOver frameTag))

/-- RUN_RELEASE (R139). -/
def execRunRelease (frameTag : Byte) (payload : List Byte) (s : State) : Host.Outcome State Fault Refusal :=
  .next (s.request runReleaseKind frameTag payload (hasLength payload 2) false (·.releaseRun frameTag payload))

/-- TALLY_READ (R148). -/
def execTallyRead (frameTag : Byte) (payload : List Byte) (s : State) : Host.Outcome State Fault Refusal :=
  .next (s.request tallyReadKind frameTag payload (hasLength payload 3) false (·.readTally frameTag payload))

end Sys2Proof.Machine
end

