-- ==== Sys2Proof/Machine/Status.lean ====
section
/-! DEFINITION. What the host reads: IDENTIFY, the ten parts of STATUS, and PIECE QUERY (R166, R17, R35, R57, R78, R95,
R114, R131, R149, R160), encoded by R172. Readings of R172 that the manual leaves open: notes/assumptions/20.md. -/

namespace Sys2Proof.Machine

/-! ## Codes by place (R172) -/

def LineState.code : LineState → Byte
  | .starting => 0 | .stopped => 1 | .running => 2

def HeadStatus.code : HeadStatus → Byte
  | .up => 0 | .down => 1 | .disabled => 2

def ScanStatus.code : ScanStatus → Byte
  | .open => 0 | .complete => 1 | .closedPartial => 2

def SolveStatus.code : SolveStatus → Byte
  | .queued => 0 | .solving => 1 | .solved => 2 | .closed => 3

def SlotKind.code : SlotKind → Byte
  | .undecided => 0 | .board => 1 | .empty => 2

def Window.code : Window → Byte
  | .before => 0 | .open => 1 | .closed => 2

def ModuleResult.code : ModuleResult → Byte
  | .notStarted => 0 | .accepted => 1 | .faulted => 2 | .unsettled => 3 | .timedOut => 4 | .skipped => 5 | .abandoned => 6

def Force.code : Force → Byte
  | .none => 0 | .on => 1 | .off => 2

def LaneState.code : LaneState → Byte
  | .idle => 0 | .open _ => 1 | .skipping => 2

def Activity.code : Activity → Byte
  | .idle => 0 | .loading _ => 1 | .saving _ => 2

def LinkRate.code : LinkRate → Byte
  | .b115200 => 0 | .b230400 => 1 | .b460800 => 2 | .b921600 => 3

/-! ## IDENTIFY (R166) -/

def identifyKind : Byte := 0x01
def statusKind : Byte := 0x02
def pieceQueryKind : Byte := 0x0E

/-- The data of an IDENTIFY reply. -/
def State.identity (s : State) : List Byte :=
  u16 Config.partNumber ++ [u8 Config.revision, u8 Config.imageFormat, s.ctl.rate.code, s.tracker.line.code]

/-! ## The parts of STATUS (R166) -/

/-- Part 0 (R17). -/
def State.trackerItems (s : State) : List Byte :=
  [s.tracker.line.code] ++ u16 s.lugRate ++ [u8 s.tracker.ring.length]
    ++ presence 2 (s.tracker.ring.getLast?.map (·.tag)) u16

/-- Part 1 (R35). -/
def State.scanItems (s : State) : List Byte :=
  (s.scan.heads.items.flatMap fun h => [h.status.code, u8 h.misses]) ++ [if s.coverageFull then 0 else 1]
    ++ u16 s.scan.stray ++ u16 s.scan.late ++ u16 s.scan.malformed

/-- Part 2 (R57). -/
def State.solverItems (s : State) : List Byte :=
  [if s.solver.engine.isNone then 0 else 1] ++ presence 2 (s.solver.engine.map (·.tag)) u16
    ++ [u8 s.solveQueue.length] ++ u16 s.solver.abandoned

/-- The page writes completed in the save in progress (R78). -/
def Activity.pagesDone : Activity → Option Nat
  | .saving job => some (job.write - 1)
  | _ => none

/-- Part 3 (R78). -/
def State.storeItems (s : State) : List Byte :=
  [s.store.activity.code, s.store.status.code, yesNo s.store.editMark]
    ++ presence 1 s.store.activity.pagesDone fun n => [u8 n]

/-- The entry of one console in part 4 (R95). Its claims stand in the order of `State.claims`. -/
def State.consoleItems (s : State) (c : Fin 4) : List Byte :=
  [yesNo (s.consoles.get c).subscribed, u8 (s.claims c).length] ++ (s.claims c).flatMap u16
    ++ [u8 (s.consoles.get c).offersWaiting] ++ u16 (s.consoles.get c).dropped

/-- The call condition of one output in part 4, absent where it is not bound to GRADER_CALL (R95, R172). -/
def State.callItem (s : State) (o : Fin 8) : List Byte :=
  let e := s.tables.outputs.get o
  presence 1 (if e.function == .graderCall then some (s.callCondition e) else none) fun b => [yesNo b]

/-- Part 4 (R95). -/
def State.interfaceItems (s : State) : List Byte :=
  (List.finRange 4).flatMap s.consoleItems ++ (List.finRange 8).flatMap s.callItem

/-- The items of one module (R114). -/
def Module.items (m : Module) : List Byte :=
  [if m.online then 0 else 1] ++ presence 3 m.lastRead (fun r => [r.mask, r.seq, r.down])
    ++ presence 1 m.lastFault (fun c => [c]) ++ u16 m.retries ++ u16 m.timeouts ++ u16 m.faults

/-- What a module of the module count has, as an entry that is absent for a module outside it (R172). -/
def State.moduleEntry {α : Type} (s : State) (m : Fin 2) (a : α) : Option α :=
  if m.val < s.tables.sawBus.modules then some a else none

/-- Part 5 (R114). -/
def State.sawItems (s : State) : List Byte :=
  ((List.finRange 2).flatMap fun m => presence 13 (s.moduleEntry m (s.saw.modules.get m)) Module.items)
    ++ u16 s.saw.discarded
    ++ presence 4 s.saw.exchange fun ex => u16 ex.tag ++ [u8 (address ex.module), u8 ex.attempt]

/-- The open log of the Lane (R131). -/
def LaneState.openLog : LaneState → Option LogRecord
  | .open r => some r
  | _ => none

/-- A queued log in part 6: number, outcome, countdown (R131). -/
def QueuedLog.items (q : QueuedLog) : List Byte := presence 2 q.number u16 ++ [yesNo q.rejected] ++ u16 q.countdown

/-- Part 6 (R131). -/
def State.laneItems (s : State) : List Byte :=
  [s.lane.state.code] ++ presence 2 (s.lane.state.openLog.bind (·.number)) u16
    ++ presence 1 (s.lane.state.openLog.map (·.slices)) (fun n => [u8 n])
    ++ [u8 s.lane.queue.length] ++ s.lane.queue.flatMap QueuedLog.items ++ u16 s.lane.discards

/-- The runs in DRAINING or CLOSED (R149), in the order they were opened: R149 gives none (DESIGN CHOICE,
notes/assumptions/31.md). -/
def State.oldRuns (s : State) : List Run := s.runs.records.filter fun r => r.state == .draining || r.state == .closed

/-- Part 7 (R149). -/
def State.runItems (s : State) : List Byte :=
  u16 s.logSeq ++ u16 s.boardSeq ++ [u8 (Config.runRecords - s.runs.records.length)] ++ u16 s.runs.lastIssued
    ++ [u8 s.oldRuns.length] ++ s.oldRuns.flatMap fun r => u16 r.seq ++ [r.state.code]

/-- One input in part 8: function, raw level, filtered state (ACTIVE 0, INACTIVE 1), filter timer running (R160). R160 lists no
values of the raw level: active is sent as 1 and inactive as 0 (DESIGN CHOICE, notes/assumptions/20.md). -/
def State.inputItems (s : State) (i : Fin 8) : List Byte :=
  let e := s.tables.inputs.get i
  let x := s.field.inputs.get i
  [e.function.code, yesNo (rawLevel e x), if x.filtered then 0 else 1, yesNo x.timer.isSome]

/-- One output in part 8: function, force, level driven (OFF 0, ON 1), pulse timer running (R160). -/
def State.outputItems (s : State) (o : Fin 8) : List Byte :=
  let x := s.field.outputs.get o
  [(s.tables.outputs.get o).function.code, x.force.code, yesNo x.level, yesNo x.pulse.isSome]

/-- Part 8 (R160). -/
def State.fieldItems (s : State) : List Byte :=
  (List.finRange 8).flatMap s.inputItems ++ (List.finRange 8).flatMap s.outputItems ++ [yesNo s.alert]

/-- Part 9 (R166): the discarded-frame counts stand in the order in which R161 names the links' owners. -/
def State.portItems (s : State) : List Byte :=
  u16 s.ctl.pendingCauses.toNat ++ u16 s.ctl.alertMask.toNat ++ [u8 s.ctl.reports.length, u8 s.ctl.nextReport]
    ++ u16 s.ctl.dropped ++ s.links.items.flatMap fun l => u16 l.discarded

/-- The items of a part of STATUS (R166), parts 0 to 9. -/
def State.partItems (s : State) : Nat → List Byte
  | 0 => s.trackerItems
  | 1 => s.scanItems
  | 2 => s.solverItems
  | 3 => s.storeItems
  | 4 => s.interfaceItems
  | 5 => s.sawItems
  | 6 => s.laneItems
  | 7 => s.runItems
  | 8 => s.fieldItems
  | _ => s.portItems

/-- STATUS as the port takes it (R166). -/
def State.readStatus (s : State) (frameTag : Byte) (payload : List Byte) : State :=
  match payload with
  | [p] =>
    if 9 < p.toNat then s.refuse statusKind frameTag .badValue
    else s.ok statusKind frameTag (p :: s.partItems p.toNat)
  | _ => s

/-! ## PIECE QUERY (R163) -/

/-- From the Tracker (R17). -/
def Slot.trackerItems (x : Slot) : List Byte :=
  [u8 x.offset, x.kind.code] ++ u16 x.run ++ [yesNo x.lugSynth, yesNo x.eye]

/-- A set of heads: bit i for member i (R172). -/
def setByte {n : Nat} (b : Bank n Bool) : Byte := u8 (packBits b.items)

/-- How many cells below the extent are of a sort; absent with the extent (R35). -/
def ScanRecord.countItem (r : ScanRecord) (p : Cell → Bool) : List Byte :=
  presence 1 r.extent fun e => [u8 ((r.cells.take e).countP p)]

/-- From the Scan Intake (R35). -/
def ScanRecord.items (r : ScanRecord) : List Byte :=
  [r.status.code, setByte r.expected, setByte r.last, yesNo r.scanPartial, yesNo r.noProfile]
    ++ presence 1 r.extent (fun e => [u8 e])
    ++ r.countItem Cell.isPresent ++ r.countItem (· == .empty) ++ r.countItem (· == .unseen)

/-- The fields of what is kept: decision, a, b, grade, length, value; a, b, grade and length are absent for SCRAP. -/
def keepItems (k : Option Keep) : List Byte :=
  [yesNo k.isNone] ++ presence 1 k (fun k => [u8 k.a]) ++ presence 1 k (fun k => [u8 k.b])
    ++ presence 1 k (fun k => [k.grade.code]) ++ presence 1 k (fun k => [u8 k.length])
    ++ u16 ((k.map (·.value)).getD 0)

/-- The fields of a stored solution (R57). -/
def Solution.items (x : Solution) : List Byte :=
  keepItems x.keep ++ [yesNo x.noSpan] ++ u16 x.generation ++ [x.source.code]

/-- From the Board Solver (R57). R57 calls only the status and the solution absent: before the hand-over the generation and the
re-solve mark are sent as 0 with no presence byte (DESIGN CHOICE, notes/assumptions/20.md). -/
def Slot.solveItems (x : Slot) : List Byte :=
  presence 1 (x.solve.map (·.status)) (fun c => [c.code]) ++ u16 x.generation
    ++ [yesNo ((x.solve.map (·.reSolve)).getD false)] ++ presence 15 x.solution Solution.items

/-- The code of a claim holder, by its place in "CL0 to CL3, or none" (R95, R172): 0 to 3, and 4 for none. -/
def holderCode (h : Option (Fin 4)) : Byte :=
  match h with
  | some c => u8 c.val
  | none => 4

/-- From the Console Interface (R95). -/
def ConsoleRecord.items (r : ConsoleRecord) : List Byte :=
  [r.window.code, holderCode r.holder, u8 r.overrides.marks.length]
    ++ r.overrides.marks.flatMap (fun m => [u8 m.first, u8 m.last, u8 m.grade])
    ++ presence 1 r.overrides.forcedGrade (fun g => [u8 g]) ++ presence 1 r.overrides.forcedLength (fun n => [u8 n])
    ++ [yesNo r.overrides.forcedScrap]

/-- A module's result and recorded masks (R114). -/
def CommitRecord.moduleItems (c : CommitRecord) (m : Fin 2) : List Byte :=
  [(c.results.get m).code] ++ presence 2 (c.masks.get m) fun r => [r.mask, r.down]

/-- The commit record (R114), 33 bytes. -/
def State.commitItems (s : State) (c : CommitRecord) : List Byte :=
  keepItems c.keep ++ [yesNo c.noSpan, c.source.code] ++ presence 2 c.generation u16
    ++ [yesNo c.overrideMissed, yesNo c.inhibited, yesNo c.manualConflict, yesNo c.trimMissed]
    ++ u16 (packBits c.pattern)
    ++ ((List.finRange 2).flatMap fun m => presence 4 (s.moduleEntry m m) c.moduleItems)
    ++ [yesNo c.trimmed]

/-- From the Run and Tally Unit (R149): the slot's sequence number, and the state of its run. An EMPTY slot outlives a run
released since; the reply then finds no run (R139), and the state is sent as absent (DEDUCED, notes/assumptions/32.md). -/
def State.pieceRunItems (s : State) (x : Slot) : List Byte :=
  u16 x.run ++ presence 1 (s.run? x.run) fun r => [r.state.code]

/-- What every block holds for a slot, in the order of section 11.2. -/
def State.pieceItems (s : State) (x : Slot) : List Byte :=
  x.trackerItems ++ x.scan.items ++ x.solveItems ++ x.console.items ++ presence 33 x.commit s.commitItems
    ++ s.pieceRunItems x

/-- PIECE QUERY as the port takes it (R163). -/
def State.queryPiece (s : State) (frameTag : Byte) (payload : List Byte) : State :=
  match readWord payload with
  | none => s
  | some tag =>
    match s.slot? tag with
    | none => s.refuse pieceQueryKind frameTag .noSuch
    | some x => s.ok pieceQueryKind frameTag (s.pieceItems x)

/-! ## Meanings -/

/-- IDENTIFY (R166); it is taken in STARTING too (R165). -/
def execIdentify (frameTag : Byte) (payload : List Byte) (s : State) : Host.Outcome State Fault Refusal :=
  .next (s.request identifyKind frameTag payload (hasLength payload 0) true fun s => s.ok identifyKind frameTag s.identity)

/-- STATUS (R166); it is taken in STARTING too (R165). -/
def execStatus (frameTag : Byte) (payload : List Byte) (s : State) : Host.Outcome State Fault Refusal :=
  .next (s.request statusKind frameTag payload (hasLength payload 1) true (·.readStatus frameTag payload))

/-- PIECE_QUERY (R163). -/
def execPieceQuery (frameTag : Byte) (payload : List Byte) (s : State) : Host.Outcome State Fault Refusal :=
  .next (s.request pieceQueryKind frameTag payload (hasLength payload 2) false (·.queryPiece frameTag payload))

end Sys2Proof.Machine
end

