-- ==== Sys2Proof/Machine/Resets.lean ====
section
/-! DEFINITION. The three resets: line clear, restart and power-on, block by block (R170 and the rules of each chapter's
section on resets). -/

namespace Sys2Proof.Machine

def lineClearKind : Byte := 0x11
def restartKind : Byte := 0x12

/-! ## What line clear and restart share -/

/-- The lug ring emptied: each BOARD slot is reported lost before it is removed, and every DRAINING run, left with no open
slot, closes (R18, R138, R144, R150). -/
def State.emptyRing (s : State) : State :=
  ((s.tracker.ring.foldl State.losePiece s).setRing []).closeDrained

/-- The solve in flight is abandoned; the queue and the records go with the slots (R58). -/
def State.stopSolving (s : State) : State := s.setSolver fun e => { e with engine := none }

/-- The log being measured is dropped and the log queue emptied (R132). -/
def State.dropLogs (s : State) : State := s.setLane fun l => { l with state := .idle, queue := [] }

/-! ## Line clear (R18, R36, R58, R96, R115, R132, R150, R159) -/

/-- WITHDRAW CLEARED of every BOARD slot in the window, before the slots are removed (R96), oldest slot first: R96 gives no
order (DESIGN CHOICE, notes/assumptions/22.md). -/
def State.withdrawCleared (s : State) : State :=
  (s.tracker.ring.filter fun x => x.kind == .board && x.console.window == .open).foldl
    (fun s x => s.withdraw x.tag .cleared) s

/-- The Tracker's own part of a line clear (R18). -/
def Tracker.clear (t : Tracker) : Tracker := { t with pos := 0, lastAdvance := .none }

/-- A line clear taken by every block (R170). -/
def State.clearLine (s : State) : State :=
  ((s.withdrawCleared.abandonExchange.emptyRing.setTracker Tracker.clear).stopSolving.dropLogs).stopPulses

/-! ## Restart (R19, R37, R59, R77, R97, R116, R133, R150, R154, R159, R167, R168) -/

/-- The Tracker's own part of a restart (R19). The run-up count, which becomes 0 at the entry to STOPPED (R6), is 0 in STARTING too
(DESIGN CHOICE, notes/assumptions/41.md). -/
def Tracker.restart (t : Tracker) : Tracker :=
  { t with pos := 0, lastAdvance := .none, nextTag := 0, line := .starting, runUp := 0, stopTimer := none,
           advanceTimes := [] }

/-- The Scan Intake's own part (R37): heads from the HEADS table in force, counts 0. TRIGGERs on the links are kept
(notes/assumptions/11.md). -/
def ScanIntake.restart (heads : Bank 4 HeadEntry) (i : ScanIntake) : ScanIntake :=
  { i with heads := heads.map freshHead, stray := 0, late := 0, malformed := 0 }

/-- A module OFFLINE with nothing read and nothing counted (R116, R117). -/
def Module.fresh : Module :=
  { online := false, lastRead := none, lastFault := none, retries := 0, timeouts := 0, faults := 0 }

/-- The Saw Bus Controller's own part (R116): the exchange is abandoned, its commit record going with its slot. A wait for an
answer runs on (R112, R115). -/
def SawBus.restart (b : SawBus) : SawBus :=
  { b with modules := Bank.fill 2 Module.fresh, exchange := none, discarded := 0 }

/-- A console at a restart (R97): a frame already being sent is completed. -/
def Console.restart (c : Console) : Console := { c with subscribed := false, queue := [], dropped := 0 }

/-- The Table Store's part (R72, R74, R77): a save is stopped, and the restart's image load is taken. -/
def Store.restart (t : Store) : Store := { t.stopSave with activity := .loading .startUp }

/-- The Control Link Port's own part before the level causes are made pending (R164, R167, R168, R170). The alert mask and
the rate are kept. -/
def ControlPort.restart (c : ControlPort) : ControlPort :=
  { c with inProcess := none, replies := [], reports := [], nextReport := 0, dropped := 0, pendingCauses := 0 }

/-- The outputs of a restart (R159): stopped, unforced, OFF. -/
def State.outputsOff (s : State) : State := s.setOutputs (Bank.fill 8 Output.off)

/-- The level causes whose condition then holds made pending with a CAUSE report (R168), one after the other in number order:
R168 gives no order (DESIGN CHOICE, notes/assumptions/22.md). -/
def State.raiseLevels (s : State) : State :=
  let s1 := if s.headDown then s.raise .headDown else s
  let s2 := if s1.moduleOffline then s1.raise .moduleOffline else s1
  if s2.inhibitActive then s2.raise .inhibitActive else s2

/-- Every block as its chapter states, but for the ring, the level causes and the outputs. R161 gives the receivers' counts 0
and says nothing of the bytes they hold: those are kept (DESIGN CHOICE, notes/assumptions/34.md). -/
def State.restartBlocks (s : State) : State :=
  { s with
    tracker := s.tracker.restart
    scan := s.scan.restart s.tables.heads
    solver := { engine := none, abandoned := 0 }
    store := s.store.restart
    consoles := s.consoles.map Console.restart
    saw := s.saw.restart
    lane := { s.lane with state := .idle, queue := [], discards := 0 }
    ctl := s.ctl.restart
    links := s.links.map fun r => { r with discarded := 0 } }

/-- A restart announced to every block (R170): the port's own part with the level causes, then the ring emptied and its pieces
lost. The outputs are OFF after it, until a later event judges them (R159; notes/assumptions/19.md). -/
def State.announceRestart (s : State) : State := s.restartBlocks.raiseLevels.emptyRing.outputsOff

/-- A restart is in process and its reply has left (R170). -/
def State.restartDue (s : State) : Bool :=
  s.ctl.inProcess == some .restart && !(s.ctl.replies.any (·.kind == restartKind + 0x80))

/-! ## Power-on (R20, R38, R60, R78, R98, R117, R133, R151, R154, R159, R162) -/

/-- The rate that the two straps select (R162). -/
def rateOf (strap0 strap1 : Bool) : LinkRate :=
  match strap0, strap1 with
  | false, false => .b115200
  | true, false => .b230400
  | false, true => .b460800
  | true, true => .b921600

/-- An input as power-on finds it (R154): INACTIVE, and its filter timer started where its raw level is active. -/
def Input.powerOn (e : InputEntry) (pin : Bool) : Input :=
  let x : Input := { pin := pin, filtered := false, timer := none }
  { x with timer := if rawLevel e x then some e.filter else none }

/-- The image memory as a loss of power leaves it. The manual does not say what the page of a write in progress then holds: it is
left open at every write, so at write 23 too, whose timeout R76 settles and whose loss of power it does not (DESIGN CHOICE,
notes/assumptions/8.md). -/
def State.memoryAtPowerLoss (s : State) : List Host.Cell :=
  match s.store.activity with
  | .saving job => pageLeftOpen s.freeCount s.store.memory job.image job.write
  | _ => s.store.memory

/-- The free values used by a loss of power. -/
def State.freeAtPowerLoss (s : State) : Nat := if s.saving then s.freeCount + 1 else s.freeCount

/-- Power applied: the power-on state of every block with the straps and pins as they are. What is outside the part's own
reset is kept (notes/assumptions/28.md): the image memory, the encoders' pins, the clock, and the commands waiting. -/
def State.powerOn (s : State) (strap0 strap1 : Bool) (pins : Byte) : State :=
  { State.reset with
    clock := s.clock
    freeCount := s.freeAtPowerLoss
    tracker := { State.reset.tracker with phaseA := s.tracker.phaseA, phaseB := s.tracker.phaseB }
    store := { State.reset.store with memory := s.memoryAtPowerLoss }
    lane := { State.reset.lane with phaseA := s.lane.phaseA, phaseB := s.lane.phaseB }
    field :=
      { State.reset.field with
        inputs := Bank.ofFn fun i => Input.powerOn (State.reset.tables.inputs.get i) (pins.getLsbD i.val) }
    ctl := { State.reset.ctl with rate := rateOf strap0 strap1 }
    pending := s.pending }

/-! ## Meanings -/

/-- LINE_CLEAR (R170). -/
def execLineClear (frameTag : Byte) (payload : List Byte) (s : State) : Host.Outcome State Fault Refusal :=
  .next (s.request lineClearKind frameTag payload (hasLength payload 0) false fun s =>
    s.clearLine.ok lineClearKind frameTag [])

/-- RESTART (R170): its reply is made, and it stays in process until the reply has been sent. -/
def execRestart (frameTag : Byte) (payload : List Byte) (s : State) : Host.Outcome State Fault Refusal :=
  .next (s.request restartKind frameTag payload (hasLength payload 0) false fun s =>
    (s.ok restartKind frameTag []).setCtl fun c => { c with inProcess := some .restart })

/-- RESTART_ANNOUNCED (R170). It is no event while no restart is in process or its reply still waits
(notes/assumptions/13.md). -/
def execRestartAnnounced (s : State) : Host.Outcome State Fault Refusal :=
  .next (if s.restartDue then s.announceRestart else s)

/-- POWER_ON (R20, R162). -/
def execPowerOn (strap0 strap1 : Bool) (pins : Byte) (s : State) : Host.Outcome State Fault Refusal :=
  .next (s.powerOn strap0 strap1 pins)

end Sys2Proof.Machine
end

