-- ==== Sys2Proof/Machine/Dispatch.lean ====
section
/-! DEFINITION. The meaning of each command: one arm per constructor, one meaning per arm. -/

namespace Sys2Proof.Machine

/-- A command's effect on everything but the queue. -/
def exec (i : Instr) (s : State) : Host.Outcome State Fault Refusal :=
  match i with
  | .powerOn strap0 strap1 pins => Sys2Proof.Machine.execPowerOn strap0 strap1 pins s
  | .chainForwardCount => Sys2Proof.Machine.execChainForwardCount s
  | .chainReverseCount => Sys2Proof.Machine.execChainReverseCount s
  | .stopTimerExpiry => Sys2Proof.Machine.execStopTimerExpiry s
  | .inputRawChange n high => Sys2Proof.Machine.execInputRawChange n high s
  | .filterTimerExpiry n => Sys2Proof.Machine.execFilterTimerExpiry n s
  | .segment h kind payload => Sys2Proof.Machine.execSegment h kind payload s
  | .solveStart => Sys2Proof.Machine.execSolveStart s
  | .solveComplete => Sys2Proof.Machine.execSolveComplete s
  | .writePattern => Sys2Proof.Machine.execWritePattern s
  | .state payload => Sys2Proof.Machine.execState payload s
  | .ack payload => Sys2Proof.Machine.execAck payload s
  | .retry payload => Sys2Proof.Machine.execRetry payload s
  | .fault payload => Sys2Proof.Machine.execFault payload s
  | .replyTimeout => Sys2Proof.Machine.execReplyTimeout s
  | .subscribe c frameTag payload => Sys2Proof.Machine.execSubscribe c frameTag payload s
  | .unsubscribe c frameTag payload => Sys2Proof.Machine.execUnsubscribe c frameTag payload s
  | .claim c frameTag payload => Sys2Proof.Machine.execClaim c frameTag payload s
  | .release c frameTag payload => Sys2Proof.Machine.execRelease c frameTag payload s
  | .mark c frameTag payload => Sys2Proof.Machine.execMark c frameTag payload s
  | .forceGrade c frameTag payload => Sys2Proof.Machine.execForceGrade c frameTag payload s
  | .forceLength c frameTag payload => Sys2Proof.Machine.execForceLength c frameTag payload s
  | .forceScrap c frameTag payload => Sys2Proof.Machine.execForceScrap c frameTag payload s
  | .clearOverrides c frameTag payload => Sys2Proof.Machine.execClearOverrides c frameTag payload s
  | .consoleQueueSend c => Sys2Proof.Machine.execConsoleQueueSend c s
  | .logStart payload => Sys2Proof.Machine.execLogStart payload s
  | .slice payload => Sys2Proof.Machine.execSlice payload s
  | .logEnd payload => Sys2Proof.Machine.execLogEnd payload s
  | .logForwardCount => Sys2Proof.Machine.execLogForwardCount s
  | .logReverseCount => Sys2Proof.Machine.execLogReverseCount s
  | .pulseTimerExpiry o => Sys2Proof.Machine.execPulseTimerExpiry o s
  | .beaconPhaseChange o => Sys2Proof.Machine.execBeaconPhaseChange o s
  | .outputForce frameTag payload => Sys2Proof.Machine.execOutputForce frameTag payload s
  | .outputRelease frameTag payload => Sys2Proof.Machine.execOutputRelease frameTag payload s
  | .tableRead frameTag payload => Sys2Proof.Machine.execTableRead frameTag payload s
  | .tableWrite frameTag payload => Sys2Proof.Machine.execTableWrite frameTag payload s
  | .heldWriteApplied => Sys2Proof.Machine.execHeldWriteApplied s
  | .imageLoad frameTag payload => Sys2Proof.Machine.execImageLoad frameTag payload s
  | .imageReadTimeout => Sys2Proof.Machine.execImageReadTimeout s
  | .imageLoadEnd => Sys2Proof.Machine.execImageLoadEnd s
  | .imageSave frameTag payload => Sys2Proof.Machine.execImageSave frameTag payload s
  | .pageWriteComplete => Sys2Proof.Machine.execPageWriteComplete s
  | .pageWriteTimeout => Sys2Proof.Machine.execPageWriteTimeout s
  | .openRun frameTag payload => Sys2Proof.Machine.execOpenRun frameTag payload s
  | .boardCutover frameTag payload => Sys2Proof.Machine.execBoardCutover frameTag payload s
  | .runRelease frameTag payload => Sys2Proof.Machine.execRunRelease frameTag payload s
  | .tallyRead frameTag payload => Sys2Proof.Machine.execTallyRead frameTag payload s
  | .identify frameTag payload => Sys2Proof.Machine.execIdentify frameTag payload s
  | .status frameTag payload => Sys2Proof.Machine.execStatus frameTag payload s
  | .pieceQuery frameTag payload => Sys2Proof.Machine.execPieceQuery frameTag payload s
  | .causes frameTag payload => Sys2Proof.Machine.execCauses frameTag payload s
  | .clearCauses frameTag payload => Sys2Proof.Machine.execClearCauses frameTag payload s
  | .alertMask frameTag payload => Sys2Proof.Machine.execAlertMask frameTag payload s
  | .controlLinkSend => Sys2Proof.Machine.execControlLinkSend s
  | .lineClear frameTag payload => Sys2Proof.Machine.execLineClear frameTag payload s
  | .restart frameTag payload => Sys2Proof.Machine.execRestart frameTag payload s
  | .restartAnnounced => Sys2Proof.Machine.execRestartAnnounced s
  | .badFrame link bytes => Sys2Proof.Machine.execBadFrame link bytes s
  | .frameByteTimeout link bytes => Sys2Proof.Machine.execFrameByteTimeout link bytes s
  | .headLinkSend h => Sys2Proof.Machine.execHeadLinkSend h s
  | .requestBadKind kind frameTag payload => Sys2Proof.Machine.execRequestBadKind kind frameTag payload s
  | .consoleFrameBadKind c kind frameTag payload => Sys2Proof.Machine.execConsoleFrameBadKind c kind frameTag payload s
  | .logFrameDiscard kind payload => Sys2Proof.Machine.execLogFrameDiscard kind payload s
  | .busFrameDiscarded kind payload => Sys2Proof.Machine.execBusFrameDiscarded kind payload s

end Sys2Proof.Machine
end

