-- ==== Sys2Proof/Machine/Ticks.lean ====
section
/-! DEFINITION. The passing of half a millisecond: the clock of the lug-rate record and the time left of every running timer
(DESIGN CHOICE, notes/assumptions/1.md). An expiry is a command of its own (notes/assumptions/3.md). -/

namespace Sys2Proof.Machine

/-- A running timer with half a millisecond less left. -/
def runDown (t : Option Nat) : Option Nat := t.map (· - 1)

/-- An output's timers run down. -/
def Output.runDown (o : Output) : Output :=
  { o with pulse := Sys2Proof.Machine.runDown o.pulse, wave := o.wave.map fun w => { w with left := w.left - 1 } }

/-- The page write in progress runs down. -/
def Activity.runDown (a : Activity) : Activity :=
  match a with
  | .saving job => .saving { job with left := job.left - 1 }
  | _ => a

/-- Half a millisecond passes. -/
def State.tick (s : State) : State :=
  { s with
    clock := s.clock + 1
    tracker := { s.tracker with stopTimer := runDown s.tracker.stopTimer }
    store := { s.store with activity := s.store.activity.runDown }
    saw := { s.saw with wait := runDown s.saw.wait }
    field :=
      { inputs := s.field.inputs.map fun i => { i with timer := runDown i.timer }
        outputs := s.field.outputs.map Output.runDown } }

end Sys2Proof.Machine
end

