-- ==== Sys2Proof/WellFormed.lean ====
section
/-! DEFINITION. Well-formed commands: those that stand for something the links can bring (section 10.1 and the rules of the
rows). exec is total all the same: an ill-formed command of a kind that is no event changes nothing. -/

namespace Sys2Proof

open Sys2Proof.Machine

/-- A payload fits a frame: at most 250 bytes (section 10.1). -/
def payloadFits (payload : List Byte) : Bool := decide (payload.length ≤ 250)

/-- The command stands for something the links can bring. -/
def Instr.wellFormed : Instr → Bool
  | .powerOn _ _ _ => true
  | .chainForwardCount => true
  | .chainReverseCount => true
  | .stopTimerExpiry => true
  | .inputRawChange _ _ => true
  | .filterTimerExpiry _ => true
  | .segment _ _ p => payloadFits p
  | .solveStart => true
  | .solveComplete => true
  | .writePattern => true
  | .state p => payloadFits p
  | .ack p => payloadFits p
  | .retry p => payloadFits p
  | .fault p => payloadFits p
  | .replyTimeout => true
  | .subscribe _ _ p => payloadFits p
  | .unsubscribe _ _ p => payloadFits p
  | .claim _ _ p => payloadFits p
  | .release _ _ p => payloadFits p
  | .mark _ _ p => payloadFits p
  | .forceGrade _ _ p => payloadFits p
  | .forceLength _ _ p => payloadFits p
  | .forceScrap _ _ p => payloadFits p
  | .clearOverrides _ _ p => payloadFits p
  | .consoleQueueSend _ => true
  | .logStart p => payloadFits p
  | .slice p => payloadFits p
  | .logEnd p => payloadFits p
  | .logForwardCount => true
  | .logReverseCount => true
  | .pulseTimerExpiry _ => true
  | .beaconPhaseChange _ => true
  | .outputForce _ p => payloadFits p
  | .outputRelease _ p => payloadFits p
  | .tableRead _ p => payloadFits p
  | .tableWrite _ p => payloadFits p
  | .heldWriteApplied => true
  | .imageLoad _ p => payloadFits p
  | .imageReadTimeout => true
  | .imageLoadEnd => true
  | .imageSave _ p => payloadFits p
  | .pageWriteComplete => true
  | .pageWriteTimeout => true
  | .openRun _ p => payloadFits p
  | .boardCutover _ p => payloadFits p
  | .runRelease _ p => payloadFits p
  | .tallyRead _ p => payloadFits p
  | .identify _ p => payloadFits p
  | .status _ p => payloadFits p
  | .pieceQuery _ p => payloadFits p
  | .causes _ p => payloadFits p
  | .clearCauses _ p => payloadFits p
  | .alertMask _ p => payloadFits p
  | .controlLinkSend => true
  | .lineClear _ p => payloadFits p
  | .restart _ p => payloadFits p
  | .restartAnnounced => true
  | .badFrame _ b => beginsFrame b && judgeBytes b == .bad
  | .frameByteTimeout _ b => beginsFrame b && judgeBytes b == .incomplete
  | .headLinkSend _ => true
  | .requestBadKind k _ p => !requestKind k && payloadFits p
  | .consoleFrameBadKind _ k _ p => !consoleKind k && payloadFits p
  | .logFrameDiscard k p => (logFrameLength k != some p.length) && payloadFits p
  | .busFrameDiscarded k p => !answersRequest k && payloadFits p

end Sys2Proof
end

