-- ==== Sys2Proof/Safety.lean ====
section
/-! DEFINITION. What counts as a sound state of the 7140, in the terms the statements use: the bounds and relations that the
manual's rules keep, and the conditions under which a request or a console's frame is carried out. -/

namespace Sys2Proof.Machine

/-! ## Conditions on taking a frame -/

/-- The Control Link Port takes the next request in this state: fewer than 8 replies wait and none is in process (R163,
R164). -/
abbrev State.portReady (s : State) : Prop := s.ctl.replies.length < 8 ∧ s.ctl.inProcess = none

/-- The port is ready and the line state is STOPPED or RUNNING, so that every request is taken (R165). -/
abbrev State.serving (s : State) : Prop := s.portReady ∧ s.tracker.line ≠ .starting

/-- Console `c` has room for a reply (R80). -/
abbrev State.consoleReady (s : State) (c : Fin 4) : Prop := (s.consoles.get c).repliesWaiting < 8

/-- The state after a request of the control link has been received and answered with a frame, all else as it was. -/
abbrev State.answered (s : State) (payload : List Byte) (f : Frame) : State := (s.received .control payload).reply f

/-- The lug input's filter timer is about to expire with its raw level active, at a pos in the capture region: the next
FILTER_TIMER_EXPIRY of that input makes a sensed advance (R2, R3). -/
abbrev State.lugDue (s : State) (i : Fin 8) (left : Nat) : Prop :=
  s.tracker.line ≠ .starting ∧ (s.tables.inputs.get i).function = .lug ∧ (s.field.inputs.get i).timer = some left
    ∧ rawLevel (s.tables.inputs.get i) (s.field.inputs.get i) = true ∧ s.geo.lugPitch - s.geo.halfWidth ≤ s.tracker.pos

/-! ## Invariants -/

/-- The image memory is in its canonical form. -/
abbrev State.memoryKept (s : State) : Prop := memWf s.store.memory = true

/-- The GEOMETRY entry passes its checks and the module count follows S (R15, R63). -/
abbrev State.geometryKept (s : State) : Prop := s.geo.valid = true ∧ s.tables.sawBus.modules = s.geo.modules

/-- pos is 0 to K+W-1 (R1, R4, R16). -/
abbrev State.posKept (s : State) : Prop := s.tracker.pos < s.geo.windowEnd

/-- The tag of the `i`-th of the `n` slots in the ring, oldest first: tags are issued in sequence (R10). -/
def tagBefore (next n i : Nat) : Nat := (next + 65536 - n + i) % 65536

/-- The lug ring, oldest first: offsets fall and stay below EX's greatest value, no slot that reached EX remains, tags are
consecutive, and the slot at offset 0 alone is UNDECIDED (R9, R10, R12, R13). So it holds at most 31 slots between commands. -/
abbrev State.ringKept (s : State) : Prop :=
  (s.tracker.ring.map (·.offset)).Pairwise (· > ·)
    ∧ (∀ x ∈ s.tracker.ring, x.offset ≤ 30 ∧ Station.ex ∉ x.passed ∧ (x.kind = .undecided ↔ x.offset = 0))
    ∧ s.tracker.ring.map (·.tag) =
        (List.range s.tracker.ring.length).map (tagBefore s.tracker.nextTag s.tracker.ring.length)
    ∧ s.tracker.nextTag < 65536

/-- The window that goes with the stations passed (R82). -/
def windowAt (passed : List Station) : Window :=
  if .cm ∈ passed then .closed else if .gw ∈ passed then .open else .before

/-- What holds of every slot between commands: GW, CM and TR are passed in that order after SD, its window follows the stations
passed, a claim stands only in the window, its records exist exactly where the rules create them, and the engine solves exactly
the piece whose status is SOLVING (R13, R30, R32, R50, R51, R56, R82, R88, R99). -/
abbrev State.slotKept (s : State) (x : Slot) : Prop :=
  x.console.window = windowAt x.passed
    ∧ (x.console.holder.isSome → x.console.window = .open)
    ∧ (x.kind = .undecided → x.passed = [])
    ∧ (Station.gw ∈ x.passed → Station.sd ∈ x.passed)
    ∧ (Station.cm ∈ x.passed → Station.gw ∈ x.passed)
    ∧ (Station.tr ∈ x.passed → Station.cm ∈ x.passed)
    ∧ (Station.sd ∈ x.passed → x.scan.status ≠ .open)
    ∧ (x.solve.isSome ↔ x.kind = .board ∧ x.scan.status ≠ .open)
    ∧ (x.scan.handedOver = x.solve.isSome)
    ∧ (x.commit.isSome ↔ x.kind = .board ∧ Station.cm ∈ x.passed)
    ∧ (∀ r ∈ x.solve, (r.status = .closed ↔ Station.cm ∈ x.passed)
        ∧ (r.status = .solving ↔ s.solver.engine.map (·.tag) = some x.tag))

/-- Every slot is as it should be, and the piece being solved is in the ring. -/
abbrev State.slotsKept (s : State) : Prop :=
  (∀ x ∈ s.tracker.ring, s.slotKept x) ∧ ∀ j ∈ s.solver.engine, ∃ x ∈ s.tracker.ring, x.tag = j.tag ∧ x.solve.isSome

/-- The exchange in flight is that of a piece in the ring which has arrived at CM, so has a commit record, and not yet at TR
(R106, R112). -/
abbrev State.exchangeKept (s : State) : Prop :=
  ∀ ex ∈ s.saw.exchange, ∃ x ∈ s.tracker.ring,
    x.tag = ex.tag ∧ x.commit.isSome ∧ Station.cm ∈ x.passed ∧ Station.tr ∉ x.passed

/-- A console holds at most 2 claims (R88). -/
abbrev State.claimsKept (s : State) : Prop := ∀ c : Fin 4, (s.claims c).length ≤ 2

/-- The queues keep their bounds: 64 reports, 8 waiting replies and the one more of a request in process, for each console 8
replies and 32 PROPOSAL and WITHDRAW frames, 8 logs, each no further from the kicker than where it entered (R80, R128, R129,
R164, R167). -/
abbrev State.queuesKept (s : State) : Prop :=
  s.ctl.reports.length ≤ 64
    ∧ s.ctl.replies.length ≤ (if s.ctl.inProcess.isSome then 8 else 9)
    ∧ (∀ c : Fin 4, (s.consoles.get c).repliesWaiting ≤ 8 ∧ (s.consoles.get c).offersWaiting ≤ 32)
    ∧ s.lane.queue.length ≤ 8 ∧ ∀ q ∈ s.lane.queue, q.countdown ≤ q.entry

/-- The counters of a run keep their maximum, and none has stopped while the saturated mark is clear (R146). -/
def Run.countersKept (r : Run) : Prop :=
  ∀ c : Counter, r.tally.get c ≤ Config.tallyMax ∧ (r.saturated = false → r.tally.get c < Config.tallyMax)

/-- The run table (R134, R135, R138): numbers rise and are at most the last issued; one run is log-current and one
board-current, the latter not the later; a DRAINING run has an open slot and a CLOSED run none; an open slot's run exists. -/
def State.runsKept (s : State) : Prop :=
  (s.runs.records.map (·.seq)).Pairwise (· < ·)
    ∧ (∀ r ∈ s.runs.records, 1 ≤ r.seq ∧ r.seq ≤ s.runs.lastIssued ∧ r.countersKept)
    ∧ s.runs.lastIssued ≤ 65535 ∧ s.runs.records.length ≤ 16
    ∧ s.runs.records.countP (·.state.logCurrent) = 1 ∧ s.runs.records.countP (·.state.boardCurrent) = 1
    ∧ s.boardSeq ≤ s.logSeq
    ∧ (∀ r ∈ s.runs.records,
        (r.state = .draining → s.openSlots r.seq ≠ 0) ∧ (r.state = .closed → s.openSlots r.seq = 0))
    ∧ ∀ x ∈ s.tracker.ring, x.kind ≠ .empty → (s.run? x.run).isSome

/-- The request in process: a write is held only to a grade set or a price set (R70), and a load by request is in progress only
while its request is in process (R75, R163). -/
def State.requestKept (s : State) : Prop :=
  (∀ w, s.heldWrite = some w → w.entry.kind = .gradeSet ∨ w.entry.kind = .priceRow)
    ∧ ∀ frameTag, s.store.activity = .loading (.request frameTag) → s.ctl.inProcess = some .imageLoad

/-- All of these together. -/
structure State.Inv (s : State) : Prop where
  memory : s.memoryKept
  geometry : s.geometryKept
  pos : s.posKept
  ring : s.ringKept
  slots : s.slotsKept
  exchange : s.exchangeKept
  claims : s.claimsKept
  queues : s.queuesKept
  runs : s.runsKept
  request : s.requestKept

/-! ## What several statements say of the state after a command -/

/-- A slot as an advance creates it, but for its tag, eye flag, run and LUG_SYNTH flag (R10, R12, R23, R82): at offset 0,
UNDECIDED, announced nowhere, its cells UNSEEN, the heads that are UP expected, its window BEFORE, no override in force. -/
def State.freshSlot (t : State) (cells : Nat) (n : Slot) : Prop :=
  (n.offset, n.kind, n.passed, n.solve, n.commit) = (0, .undecided, [], none, none)
    ∧ n.scan.cells = List.replicate cells .unseen
    ∧ (∀ h : Fin 4, (n.scan.expected.get h = true ↔ (t.scan.heads.get h).status = .up) ∧ n.scan.last.get h = false)
    ∧ (n.scan.status, n.scan.deadlinePassed, n.scan.extent, n.scan.scanPartial, n.scan.noProfile, n.scan.handedOver) =
        (.open, false, none, false, false, false)
    ∧ n.console =
        { window := .before, holder := none,
          overrides := { marks := [], forcedGrade := none, forcedLength := none, forcedScrap := false } }

/-- The TRIGGER of a new slot sent on the link of every head that is not DISABLED: at once, or behind those that wait (R23). -/
def State.triggered (s t : State) (tag : Nat) : Prop :=
  ∀ h : Fin 4, t.scan.triggers.get h =
    if (t.scan.heads.get h).status = .disabled then s.scan.triggers.get h
    else
      match (s.scan.triggers.get h).sending with
      | none =>
        { s.scan.triggers.get h with sending := some (Frame.wire { kind := 0x21, tag := 0, payload := u16 tag }) }
      | some _ => { s.scan.triggers.get h with waiting := (s.scan.triggers.get h).waiting ++ [tag] }

/-- The ring after an advance (R9, R10, R12): every slot one lug further, those at EX gone, and last the new slot, UNDECIDED,
with the next tag and the board-current run, its TRIGGER sent (R23). A slot that was UNDECIDED is BOARD where its eye flag is
set or a cell is PRESENT, and EMPTY otherwise; every other slot keeps its kind. The time of the advance is recorded (R8). -/
def State.advancedTo (s t : State) (synth : Bool) : Prop :=
  (t.tracker.ring.map fun y => (y.tag, y.offset, y.run, y.lugSynth, y.eye)) =
      ((s.tracker.ring.filter fun x => decide (x.offset + 1 < s.geo.ex)).map fun x =>
        (x.tag, x.offset + 1, x.run, x.lugSynth, x.eye))
      ++ [(s.tracker.nextTag, 0, s.boardSeq, synth, s.inputActive .boardEye)]
    ∧ t.tracker.nextTag = (s.tracker.nextTag + 1) % 65536
    ∧ t.tracker.advanceTimes = (s.clock / 2 :: s.tracker.advanceTimes).take 2
    ∧ (∃ n, t.tracker.ring.getLast? = some n ∧ t.freshSlot s.geo.cells n) ∧ s.triggered t s.tracker.nextTag
    ∧ ∀ x ∈ s.tracker.ring, ∀ y ∈ t.tracker.ring, y.tag = x.tag →
        y.kind = (if x.kind = .undecided then
          (if x.eye ∨ x.scan.cells.any Cell.isPresent then .board else .empty) else x.kind)

/-- Tables put into force at one event turn the input bound to LUG to ACTIVE in that event (R152): its polarity changes, its
filter time is 0, and its raw level is then active where its filtered state is not. -/
abbrev State.lugTurnsWith (s : State) (new : Tables) : Prop :=
  ∃ i : Fin 8, (new.inputs.get i).function = .lug ∧ (s.tables.inputs.get i).polarity ≠ (new.inputs.get i).polarity
    ∧ (new.inputs.get i).filter = 0 ∧ rawLevel (new.inputs.get i) (s.field.inputs.get i) = true
    ∧ (s.field.inputs.get i).filtered = false

/-- The heads after new tables: newly enabled UP, newly disabled DISABLED, both with miss count 0, the others as they were
(R22, R34). -/
abbrev State.headsFollow (s t : State) (new : Tables) : Prop :=
  ∀ h : Fin 4, t.scan.heads.get h =
    if (s.tables.heads.get h).enabled = (new.heads.get h).enabled then s.scan.heads.get h
    else { status := if (new.heads.get h).enabled then .up else .disabled, misses := 0 }

/-- The modules after new tables: one added to the module count or taken from it is OFFLINE with no last-read state, the others
are as they were, and an addition leaves MODULE_OFFLINE pending (R63, R110). The fault code and the counts stay
(notes/assumptions/18.md). -/
abbrev State.modulesFollow (s t : State) (new : Tables) : Prop :=
  (∀ m : Fin 2, t.saw.modules.get m =
      if m.val < s.tables.sawBus.modules ↔ m.val < new.sawBus.modules then s.saw.modules.get m
      else { s.saw.modules.get m with online := false, lastRead := none })
    ∧ (s.tables.sawBus.modules < new.sawBus.modules → t.isPending .moduleOffline = true)

/-- The ring emptied with its BOARD slots counted lost, and nothing else in the tallies: lost stops at its maximum, and every
DRAINING run becomes CLOSED (R144, R146, R150). -/
def State.ringLost (s t : State) : Prop :=
  t.tracker.ring = [] ∧ t.runs.lastIssued = s.runs.lastIssued
    ∧ (t.runs.records.map fun r => (r.seq, r.product, r.state, r.tally.lost)) =
        (s.runs.records.map fun r =>
          (r.seq, r.product, if r.state = .draining then .closed else r.state,
            min (r.tally.lost + s.boardSlots r.seq) Config.tallyMax))
    ∧ ∀ c : Counter, c ≠ .lost → (t.runs.records.map (·.tally.get c)) = s.runs.records.map (·.tally.get c)

/-- A cell map has this extent (R33): one more than the number of its highest PRESENT cell; none where no cell is PRESENT. -/
def extentIs (cells : List Cell) (extent : Option Nat) : Prop :=
  ∀ e : Nat, extent = some e ↔
    (∃ c ∈ cells[e - 1]?, 0 < e ∧ c.isPresent = true) ∧ ∀ j c, cells[j]? = some c → c.isPresent = true → j < e

/-- A segment's entries merged into a cell map (R21, R26): entry k into the line cell of local cell first + k, where that lies in
the head's range and on the board, and no other cell changed. -/
def HeadEntry.merges (h : HeadEntry) (g : SegmentData) (old new : List Cell) : Prop :=
  let lineCell := fun k : Nat => if h.reversed then h.base + (h.span - 1 - (g.first + k)) else h.base + (g.first + k)
  new.length = old.length
    ∧ (∀ (k : Nat) (e : Cell), g.entries[k]? = some e → g.first + k < h.span →
        new[lineCell k]? = (old[lineCell k]?).map fun c => mergeCell c e)
    ∧ ∀ i : Nat, (∀ k < g.entries.length, g.first + k < h.span → i ≠ lineCell k) → new[i]? = old[i]?

/-- A head after a slot whose scan record is `r` has arrived at SD (R31): one expected, with no LAST sent and not DISABLED,
counts a miss up to 255, and at the third or a later one goes from UP to DOWN. -/
def Head.afterDeadline (r : ScanRecord) (h : Fin 4) (old new : Head) : Prop :=
  new =
    if r.expected.get h = true ∧ r.last.get h = false ∧ old.status ≠ .disabled then
      { status := if old.status = .up ∧ 2 ≤ old.misses then .down else old.status, misses := min (old.misses + 1) 255 }
    else old

/-- A PRESENT cell meets the six cell limits of a grade (R40). -/
def GradeRecord.admitsCell (r : GradeRecord) (d : CellData) : Prop :=
  r.minThickness ≤ d.thickness ∧ r.minWidth ≤ d.width ∧ d.wane ≤ r.maxWane ∧ d.knot ≤ r.maxKnot
    ∧ (d.split = true → r.split = true) ∧ (d.decay = true → r.decay = true)

/-- A number 1 to 7 is the smallest of 1 to 6 with a property, or 7 where none of them has it (R40, R43). -/
def firstOfSix (p : Fin 6 → Prop) (n : Nat) : Prop :=
  1 ≤ n ∧ n ≤ 7 ∧ (∀ i : Fin 6, i.val + 1 < n → ¬p i) ∧ ∀ i : Fin 6, i.val + 1 = n → p i

/-- A span is valid on a board of extent `e` (R42). -/
def spanAllowed (pitch e : Nat) (cells : List Cell) (minLength : Nat) (forced : Option Nat) (a b : Nat) : Prop :=
  a < b ∧ b * pitch ≤ e ∧ (∀ j, a * pitch ≤ j → j < b * pitch → cells[j]? ≠ some .empty)
    ∧ match forced with
      | some n => b - a = n
      | none => minLength ≤ b - a

/-- A span with these cell grades qualifies for grade `i + 1` (R43). -/
def GradeRecord.admitsSpan (r : GradeRecord) (i : Fin 6) (cells : List CellGrade) : Prop :=
  (∀ c ∈ cells, ∃ g ≤ i.val + 2, c = .grade g) ∧ cells.count (.grade (i.val + 2)) ≤ r.allowance

/-- A log that ended with a fault (R122 to R126, R128, R145): counted as measured and faulted in the log-current run, `q`, and as
rejected by FAULT or accepted as that run's product kicks on a fault or does not, with no volume and no class; given a place in
the log queue or left UNTRACKED; and reported with its fault, its measures absent, where the report queue has room. Beside that
only the Lane's state may change. -/
def State.logFaulted (s t : State) (r : LogRecord) (fault : Byte) (q : Run) : Prop :=
  let kick := (s.tables.products.get q.product).kickOnFault
  { t.lane with state := s.lane.state, queue := s.lane.queue } = s.lane
    ∧ { t with lane := s.lane, runs := { t.runs with records := s.runs.records }, ctl := s.ctl, field := s.field,
               links := s.links } = s
    ∧ (∀ r' ∈ s.runs.records, r'.seq ≠ q.seq → r' ∈ t.runs.records)
    ∧ (s.lane.queue.length < 8 →
        t.lane.queue =
          s.lane.queue
            ++ [{ number := r.number, rejected := kick, entry := s.tables.logClasses.kicker,
                  countdown := s.tables.logClasses.kicker }])
    ∧ (8 ≤ s.lane.queue.length → t.lane.queue = s.lane.queue ∧ t.isPending .logUntracked = true)
    ∧ (∃ q' ∈ t.runs.records, q'.seq = q.seq
        ∧ ∀ c : Counter, q'.tally.get c =
            if c = .logsMeasured ∨ c = .faulted ∨ c = (if kick then .rejected .fault else .accepted) then
              min (q.tally.get c + 1) Config.tallyMax
            else q.tally.get c)
    ∧ (s.ctl.reports.length ≤ 61 →
        ∃ f ∈ t.ctl.reports, f.kind = 0xE2
          ∧ f.payload =
              [flagByte [r.number.isSome, false, decide (8 ≤ s.lane.queue.length)]] ++ u16 (r.number.getD 0) ++ u16 q.seq
                ++ [yesNo kick, yesNo kick, fault, u8 r.slices] ++ List.replicate 9 0)

/-- A PROPOSAL with frame `f` for a tag made to a console (R80): it takes the place of one for that tag still waiting; else it
joins the tail while fewer than 32 PROPOSAL and WITHDRAW frames wait, and is dropped and counted while 32 do. -/
def Console.offered (tag : Nat) (f : Frame) (old new : Console) : Prop :=
  ((∃ g ∈ old.queue, g.isProposalFor tag = true) →
      new = { old with queue := old.queue.map fun g => if g.isProposalFor tag = true then .proposal tag f else g })
    ∧ ((∀ g ∈ old.queue, g.isProposalFor tag = false) →
      new =
        if old.offersWaiting < 32 then { old with queue := old.queue ++ [.proposal tag f] }
        else { old with dropped := min (old.dropped + 1) 65535 })

/-- The PROPOSALs that the window holds, highest offset first: each piece whose window is OPEN and which has a solution, with the
frame of that solution (R81). -/
def State.windowOffers (s : State) : List (Nat × Frame) :=
  s.tracker.ring.filterMap fun x =>
    if x.console.window = .open then x.solution.map fun sol => (x.tag, proposalFrame x sol) else none

/-- The exchange with this module begun: attempt 1, or the probe of an OFFLINE module (R106, R109). -/
def SawBus.begun (b : SawBus) (tag : Nat) (m : Fin 2) (timeout : Nat) (phase : Phase) : Exchange :=
  { tag := tag, module := m, attempt := 1, phase := phase, onlyTimeouts := true, probe := !(b.modules.get m).online,
    timeout := timeout }

/-- A frame of this kind and payload on the saw bus, as sent there: its tag is 0 (section 11.4). -/
def busWire (kind : Byte) (payload : List Byte) : List Byte := Frame.wire { kind := kind, tag := 0, payload := payload }

/-- The ring with one slot's commit record replaced. -/
def State.ringWithCommit (s : State) (tag : Nat) (d : CommitRecord) : List Slot :=
  s.tracker.ring.map fun z => if z.tag = tag then { z with commit := some d } else z

/-- The piece of an exchange, whose module now handled has reached this result (R106). The module after it in the module count is
begun: READ STATE is sent and the wait started, in the same command (notes/assumptions/3.md). After the last the exchange ends and
no answer is awaited. -/
def State.moduleEnded (s t : State) (ex : Exchange) (d : CommitRecord) : Prop :=
  t.tracker.ring = s.ringWithCommit ex.tag d
    ∧ (s.tables.sawBus.modules ≤ ex.module.val + 1 →
        (t.saw.exchange, t.saw.wait, t.saw.sent) = (none, none, s.saw.sent))
    ∧ (ex.module = 0 → s.tables.sawBus.modules = 2 →
        t.saw.exchange = some (s.saw.begun ex.tag 1 ex.timeout .readState) ∧ t.saw.wait = some (2 * ex.timeout)
          ∧ t.saw.sent = some (busWire 0x61 [2]))
    ∧ t.saw.discarded = s.saw.discarded

/-- A report of this kind and payload asked for (R167): it takes the next report number and joins the tail. While 64 wait it is
dropped and counted, its number used all the same, and REPORT_OVERFLOW becomes pending where it was clear, whose own CAUSE report
takes a number too and is dropped and counted. -/
abbrev ControlPort.reportAsked (old new : ControlPort) (kind : Byte) (payload : List Byte) : Prop :=
  new =
    if old.reports.length < 64 then
      { old with
        nextReport := (old.nextReport + 1) % 256
        reports := old.reports ++ [{ kind := kind, tag := u8 old.nextReport, payload := payload }] }
    else if old.pendingCauses.getLsbD Cause.reportOverflow.number.val = true then
      { old with nextReport := (old.nextReport + 1) % 256, dropped := min (old.dropped + 1) 65535 }
    else
      { old with
        nextReport := (old.nextReport + 2) % 256
        dropped := min (old.dropped + 2) 65535
        pendingCauses := old.pendingCauses ||| Cause.reportOverflow.bit }

/-- A cause raised (R168): a pending one changes nothing; a clear one becomes pending, and one CAUSE report is asked for with its
number and the pending set as it then stands. -/
abbrev ControlPort.causeRaised (old new : ControlPort) (x : Cause) : Prop :=
  if old.pendingCauses.getLsbD x.number.val = true then new = old
  else
    ControlPort.reportAsked { old with pendingCauses := old.pendingCauses ||| x.bit } new 0xE3
      (u8 x.number.val :: u16 (old.pendingCauses ||| x.bit).toNat)

/-- The address in the image of the first entry of a table kind (section 11.6). -/
def imageAddress : TableKind → Nat
  | .geometry => 6
  | .heads => 18
  | .gradeSet => 34
  | .priceRow => 274
  | .product => 1114
  | .logClasses => 1322
  | .inputs => 1338
  | .outputs => 1362
  | .sawBus => 1394

/-- The bytes of an entry in the image memory (section 11.6). -/
def imageEntry (m : List Host.Cell) (kind : TableKind) (i : Nat) : List Byte :=
  memReadBytes m (imageAddress kind + i * kind.entryLength) kind.entryLength

/-- The memory's header is that of an image: its signature, format number and length, and the CRC of what follows (R71, R73). -/
def imageHeaderRight (m : List Host.Cell) : Prop :=
  memRead m 0 = 0xC9 ∧ memRead m 1 = 1 ∧ word (memRead m 2) (memRead m 3) = 1396
    ∧ word (memRead m 4) (memRead m 5) = crc16 ([1, 5, 0x74] ++ memReadBytes m 6 1390)

/-- The slot with its cell map replaced. -/
abbrev Slot.withCells (cells : List Cell) (x : Slot) : Slot := { x with scan := { x.scan with cells := cells } }

/-- The slot with its solve record replaced. -/
abbrev Slot.withSolve (r : SolveRecord) (x : Slot) : Slot := { x with solve := some r }

/-- A solve record after an announced override change (R54, R55). -/
def SolveRecord.announced (r : SolveRecord) : SolveRecord :=
  { r with
    generation := (r.generation + 1) % 65536
    status := if r.status = .solved then .queued else r.status
    reSolve := r.reSolve || r.status == .solving }

/-- An override request carried out (R54, R55, R93): the override record of the piece changed by `f` and announced, DONE with
the new generation, and nothing else changed. -/
def State.overrideTaken (s t : State) (c : Fin 4) (frameTag : Byte) (tag : Nat) (generation : Nat)
    (f : Overrides → Overrides) : Prop :=
  t.tracker.ring =
      (s.tracker.ring.map fun y =>
        if y.tag = tag then
          { y with console := { y.console with overrides := f y.console.overrides },
                   solve := y.solve.map SolveRecord.announced }
        else y)
    ∧ (t.consoles.get c).queue =
        (s.consoles.get c).queue
          ++ [.reply { kind := 0x4E, tag := frameTag, payload := u16 tag ++ u16 ((generation + 1) % 65536) }]
    ∧ { t with tracker := { t.tracker with ring := s.tracker.ring }, links := s.links,
               consoles := t.consoles.set c { t.consoles.get c with queue := (s.consoles.get c).queue } } = s

/-- A console's request finds a piece it may change (R85): in the ring, not EMPTY, its window OPEN, held by that console, and
handed over; the slot and its solve record. -/
def State.holds (s : State) (c : Fin 4) (tag : Nat) (x : Slot) (r : SolveRecord) : Prop :=
  s.consoleReady c ∧ s.slot? tag = some x ∧ x.kind ≠ .empty ∧ x.console.window = .open ∧ x.console.holder = some c
    ∧ x.solve = some r

/-! ## Whole-machine relations stated of their own -/

/-- The board-side balance of a run (R140). -/
def State.balanced (s : State) (r : Run) : Prop :=
  r.saturated = false →
    r.tally.scanned = r.tally.keptPieces + r.tally.scrapped + r.tally.lost + s.boardSlots r.seq

/-- The log-side balances of a run (R145). -/
def Run.logBalanced (r : Run) : Prop :=
  r.saturated = false →
    r.tally.logsMeasured = r.tally.accepted + (r.tally.rejectedFault + r.tally.rejectedSed + r.tally.rejectedLength)
      ∧ r.tally.classes.items.sum + r.tally.faulted = r.tally.logsMeasured

/-- Every output drives what its force or its function gives it now, and a wave runs exactly at a BEACON output while the
alert condition holds (R94, R155, R157). -/
abbrev State.outputsJudged (s : State) : Prop :=
  ∀ o : Fin 8,
    let e := s.tables.outputs.get o
    let x := s.field.outputs.get o
    x.level = outputLevel s.alert (s.callCondition e) e x ∧ (x.wave.isSome ↔ e.function = .beacon ∧ s.alert = true)

/-- Every level cause whose condition holds is pending (R168). -/
abbrev State.levelsPending (s : State) : Prop := s.levelConditions &&& ~~~s.ctl.pendingCauses = 0

end Sys2Proof.Machine
end

