-- ==== Sys2Proof/Certificates/Slice0/Obligations.lean ====
section
/-! DEFINITION. The statements for the provers. In each, `s` is the state a command is taken in with the queue's rest, and the
state after it is written out in full or by every field that may differ. -/

open Sys2Proof Sys2Proof.Machine

/-! ## The step -/

/-- A step takes the command at the front of the queue and runs it with the queue's rest. On an empty queue half a millisecond
passes: that is the model's choice (notes/assumptions/1.md). -/
def Obligations.StepTakesFrontCommand : Prop :=
  (∀ (c : Instr) (s : State), step { s with pending := c :: s.pending } = exec c s)
    ∧ ∀ s : State, s.pending = [] →
        ∃ t, step s = .next t ∧ t.clock = s.clock + 1
          ∧ { t with clock := s.clock, tracker := s.tracker, store := s.store, saw := s.saw, field := s.field } = s
          ∧ { t.tracker with stopTimer := s.tracker.stopTimer } = s.tracker
          ∧ { t.saw with wait := s.saw.wait } = s.saw
          ∧ (t.store.memory, t.store.status, t.store.editMark) = (s.store.memory, s.store.status, s.store.editMark)
          ∧ ∀ o : Fin 8, (t.field.outputs.get o).level = (s.field.outputs.get o).level
              ∧ (t.field.inputs.get o).filtered = (s.field.inputs.get o).filtered

/-- Every command has an effect and none stops the part: exec answers a next state, with the commands that wait as they were
(the model: notes/assumptions/23.md). -/
def Obligations.CommandsLeaveTheQueue : Prop :=
  ∀ (c : Instr) (s : State), ∃ t, exec c s = .next t ∧ t.pending = s.pending

/-! ## Power-on -/

/-- R60 and R98: at power-on, whatever the state before, there is no solve record and no console record (the ring is empty), the
solve queue is empty, the engine IDLE and the commit-abandoned count 0; no console is subscribed or holds a claim, every send
queue is empty, every dropped-frame count 0 and every call condition false. -/
def Obligations.PowerOnSolverAndConsoles : Prop :=
  ∀ (a b : Bool) (pins : Byte) (s : State), ∃ t, exec (.powerOn a b pins) s = .next t
    ∧ t.tracker.ring = [] ∧ t.solveQueue = [] ∧ t.solver.engine = none ∧ t.solver.abandoned = 0
    ∧ (∀ c : Fin 4, (t.consoles.get c).subscribed = false ∧ t.claims c = [] ∧ (t.consoles.get c).queue = []
        ∧ (t.consoles.get c).dropped = 0)
    ∧ ∀ e : OutputEntry, t.callCondition e = false

/-- Power-on in the other blocks: the line STARTING with an empty ring, pos 0, tag 0 and run-up count 0 (in STARTING the model's
choice, notes/assumptions/41.md); the defaults in every table, the image load begun with status DEFAULTS; every head UP, no
TRIGGER waiting, every count 0; every module OFFLINE with nothing read and counted, no exchange and no wait; the Lane IDLE; one
run, number 1 of product 0 in BOTH with every counter 0; every input INACTIVE, its filter timer started where its pin is high
(R154); every output OFF and unforced; no reply waiting and no request in process; every cause clear but MODULE_OFFLINE, whose
CAUSE report took number 0; every cause in the alert mask; every receiver empty with count 0; and the rate that the straps
select. A part that was not saving keeps its image memory. -/
def Obligations.PowerOnOtherBlocks : Prop :=
  ∀ (a b : Bool) (pins : Byte) (s : State), ∃ t, exec (.powerOn a b pins) s = .next t
    ∧ t.tracker.ring = []
    ∧ (t.tracker.line, t.tracker.pos, t.tracker.lastAdvance, t.tracker.nextTag, t.tracker.advanceTimes) =
        (.starting, 0, .none, 0, [])
    ∧ (t.tracker.runUp, t.tracker.stopTimer) = (0, none)
    ∧ t.tables = Tables.default
    ∧ (t.store.activity, t.store.status, t.store.editMark) = (.loading .startUp, .defaults, false)
    ∧ (∀ h : Fin 4, t.scan.heads.get h = { status := .up, misses := 0 }
        ∧ t.scan.triggers.get h = { sending := none, waiting := [] })
    ∧ (t.scan.stray, t.scan.late, t.scan.malformed) = (0, 0, 0)
    ∧ (∀ m : Fin 2, t.saw.modules.get m =
        { online := false, lastRead := none, lastFault := none, retries := 0, timeouts := 0, faults := 0 })
    ∧ (t.saw.exchange, t.saw.wait, t.saw.discarded) = (none, none, 0)
    ∧ t.lane.state = .idle ∧ t.lane.queue = [] ∧ t.lane.discards = 0
    ∧ t.runs.lastIssued = 1
    ∧ (∃ r, t.runs.records = [r] ∧ r.seq = 1 ∧ r.product = 0 ∧ r.state = .both ∧ r.saturated = false
        ∧ ∀ c : Counter, r.tally.get c = 0)
    ∧ (∀ i : Fin 8, t.field.inputs.get i =
        { pin := pins.getLsbD i.val, filtered := false, timer := if pins.getLsbD i.val then some 2 else none })
    ∧ (∀ o : Fin 8, t.field.outputs.get o = { force := .none, pulse := none, wave := none, level := false })
    ∧ (t.ctl.replies, t.ctl.inProcess, t.ctl.dropped) = ([], none, 0)
    ∧ t.ctl.pendingCauses = Cause.moduleOffline.bit ∧ t.ctl.alertMask = 0x3FFF
    ∧ t.ctl.reports = [{ kind := 0xE3, tag := 0, payload := [5, 0, 0x20] }] ∧ t.ctl.nextReport = 1
    ∧ (∀ l : Fin 11, t.links.get l = { held := [], discarded := 0 })
    ∧ t.ctl.rate = (match a, b with
        | false, false => .b115200
        | true, false => .b230400
        | false, true => .b460800
        | true, true => .b921600)
    ∧ ((∀ job, s.store.activity ≠ .saving job) → t.store.memory = s.store.memory)

/-! ## Line clear and restart -/

/-- LINE_CLEAR: the ring is emptied and its BOARD slots counted lost; pos is 0 and no advance is on record; the engine is IDLE;
the exchange is abandoned; the Lane is IDLE with no log queued; no pulse runs; the reply is OK. At each subscribed console with
room the PROPOSALs of the pieces in the window are removed and a WITHDRAW CLEARED of each joins the tail (R96), oldest first
(the model's order, notes/assumptions/22.md). The line state, run-up count, stop timer, tag counter and lug-rate record, the
tables and the image controller, the heads with their misses and the three segment counts, the modules with their counts, the
bus's and the Lane's discard counts, the receivers with their counts, the subscriptions, the forces, the waves that run and the
alert mask are kept. The pending causes, the reports waiting, the report number and the dropped-report count are kept but for
TALLY_SATURATED, raised where a loss stops a counter (R146), one that reaches its maximum exactly too (DEDUCED,
notes/assumptions/27.md). The model also keeps the TRIGGERs that wait on the head links (notes/assumptions/11.md) and a wait for
a saw-bus answer that runs (notes/assumptions/15.md). -/
def Obligations.LineClearEmptiesTheLine : Prop :=
  ∀ (frameTag : Byte) (s : State), s.Inv → s.serving →
    ∃ t, exec (.lineClear frameTag []) s = .next t
      ∧ s.ringLost t
      ∧ { t.tracker with pos := s.tracker.pos, lastAdvance := s.tracker.lastAdvance, ring := s.tracker.ring } = s.tracker
      ∧ t.tracker.pos = 0 ∧ t.tracker.lastAdvance = .none
      ∧ t.solver = { s.solver with engine := none }
      ∧ t.lane = { s.lane with state := .idle, queue := [] }
      ∧ t.saw = { s.saw with exchange := none }
      ∧ t.tables = s.tables ∧ t.store = s.store ∧ t.scan = s.scan
      ∧ (∀ o : Fin 8, (t.field.outputs.get o).pulse = none
          ∧ (t.field.outputs.get o).force = (s.field.outputs.get o).force
          ∧ ∀ w, s.outputsJudged → (s.field.outputs.get o).wave = some w → (t.field.outputs.get o).wave = some w)
      ∧ t.outputsJudged ∧ t.field.inputs = s.field.inputs ∧ t.links = (s.received .control []).links
      ∧ (t.clock, t.freeCount, t.pending) = (s.clock, s.freeCount, s.pending)
      ∧ (let offered := s.tracker.ring.filter fun x => decide (x.kind = .board ∧ x.console.window = .open)
         ∀ c : Fin 4, (t.consoles.get c).subscribed = (s.consoles.get c).subscribed
          ∧ (t.consoles.get c).sending = (s.consoles.get c).sending
          ∧ ((s.consoles.get c).subscribed = false → t.consoles.get c = s.consoles.get c)
          ∧ ((s.consoles.get c).subscribed = true →
              (∀ x ∈ offered, ∀ f ∈ (t.consoles.get c).queue, f.isProposalFor x.tag = false)
                ∧ ((s.consoles.get c).offersWaiting + offered.length ≤ 32 →
                    t.consoles.get c =
                      { s.consoles.get c with
                        queue :=
                          ((s.consoles.get c).queue.filter fun f => offered.all fun x => !f.isProposalFor x.tag)
                            ++ offered.map fun x =>
                              .withdraw x.tag { kind := 0x51, tag := 0, payload := u16 x.tag ++ [2] } })))
      ∧ t.ctl.alertMask = s.ctl.alertMask ∧ s.ctl.reports <+: t.ctl.reports
      ∧ t.ctl.replies = s.ctl.replies ++ [{ kind := 0x91, tag := frameTag, payload := [] }]
      ∧ if ∃ r ∈ s.runs.records, r.saturated = false ∧ Config.tallyMax ≤ r.tally.lost + s.boardSlots r.seq then
          s.ctl.causeRaised { t.ctl with replies := s.ctl.replies } .tallySaturated
        else { t.ctl with replies := s.ctl.replies } = s.ctl

/-- RESTART is answered OK and stays in process; nothing else changes until its reply has left (R170). RESTART_ANNOUNCED changes
nothing while that reply still waits: the restart is announced once it waits no more, when its sending has begun (DEDUCED,
notes/assumptions/13.md). Nor does it while no restart is in process (DESIGN CHOICE, notes/assumptions/2.md). -/
def Obligations.RestartWaitsForItsReply : Prop :=
  (∀ (frameTag : Byte) (s : State), s.serving →
      exec (.restart frameTag []) s =
        .next
          { s.received .control [] with
            ctl :=
              { s.ctl with
                replies := s.ctl.replies ++ [{ kind := 0x92, tag := frameTag, payload := [] }]
                inProcess := some .restart } })
    ∧ ∀ s : State, s.ctl.inProcess ≠ some .restart ∨ (∃ f ∈ s.ctl.replies, f.kind = 0x92) →
        exec .restartAnnounced s = .next s

/-- RESTART_ANNOUNCED, once the restart's reply has left the waiting replies (notes/assumptions/13.md): the ring is emptied and
its BOARD slots counted lost; every block takes its restart state; the tables, the image status and edit mark, the inputs, the
rate and the alert mask are kept; a save is stopped, the page write in progress completed and no later one begun, and the image
memory is else as it was (R77); the image load is begun; every output is OFF and unforced. Of the causes, MODULE_OFFLINE is
pending where a module is in the count, INHIBIT_ACTIVE where the TRIM_INHIBIT input is active, and no other but TALLY_SATURATED
can be; the report queue holds the CAUSE report of each, in that order and numbered from 0 (R167, R168, R170). The model's
choices in it: every output stays OFF although MODULE_OFFLINE may be in the alert mask, until the next event that judges the
outputs (notes/assumptions/19.md), MODULE_OFFLINE is made pending and reported before INHIBIT_ACTIVE and a TALLY_SATURATED of
the loss comes last (notes/assumptions/22.md). -/
def Obligations.RestartResetsEveryBlock : Prop :=
  ∀ s : State, s.Inv → s.ctl.inProcess = some .restart → (∀ f ∈ s.ctl.replies, f.kind ≠ 0x92) →
    ∃ t, exec .restartAnnounced s = .next t
      ∧ s.ringLost t
      ∧ (t.tracker.line, t.tracker.pos, t.tracker.lastAdvance, t.tracker.nextTag, t.tracker.stopTimer,
          t.tracker.advanceTimes) = (.starting, 0, .none, 0, none, [])
      ∧ (t.solver.engine, t.solver.abandoned) = (none, 0)
      ∧ (t.lane.state, t.lane.queue, t.lane.discards) = (.idle, [], 0)
      ∧ (∀ m : Fin 2, t.saw.modules.get m =
          { online := false, lastRead := none, lastFault := none, retries := 0, timeouts := 0, faults := 0 })
      ∧ t.saw.exchange = none ∧ t.saw.discarded = 0
      ∧ (∀ c : Fin 4, (t.consoles.get c) =
          { subscribed := false, queue := [], sending := (s.consoles.get c).sending, dropped := 0 })
      ∧ (∀ h : Fin 4, t.scan.heads.get h =
          { status := if (s.tables.heads.get h).enabled then .up else .disabled, misses := 0 })
      ∧ (t.scan.stray, t.scan.late, t.scan.malformed) = (0, 0, 0)
      ∧ t.tables = s.tables ∧ t.field.inputs = s.field.inputs
      ∧ t.store =
          { s.store with
            activity := .loading .startUp
            memory :=
              match s.store.activity with
              | .saving job => pageWritten s.store.memory job.image job.write
              | _ => s.store.memory }
      ∧ (∀ o : Fin 8, t.field.outputs.get o = { force := .none, pulse := none, wave := none, level := false })
      ∧ (t.ctl.rate, t.ctl.alertMask, t.ctl.inProcess, t.ctl.replies, t.ctl.dropped) =
          (s.ctl.rate, s.ctl.alertMask, none, [], 0)
      ∧ (∀ l : Fin 11, (t.links.get l).discarded = 0)
      ∧ (t.isPending .moduleOffline = true ↔ 0 < s.tables.sawBus.modules)
      ∧ (t.isPending .inhibitActive = true ↔ s.inputActive .trimInhibit = true)
      ∧ t.ctl.reports =
          [{ kind := 0xE3, tag := 0, payload := [5, 0, 0x20] }]
            ++ (if s.inputActive .trimInhibit then [{ kind := 0xE3, tag := 1, payload := [7, 0, 0xA0] }] else [])
            ++ (if t.isPending .tallySaturated then
                [{ kind := 0xE3, tag := if s.inputActive .trimInhibit then 2 else 1,
                   payload := 13 :: u16 t.ctl.pendingCauses.toNat }]
              else [])
      ∧ t.ctl.nextReport = t.ctl.reports.length
      ∧ ∀ c : Cause, c ≠ .moduleOffline → c ≠ .inhibitActive → c ≠ .tallySaturated → t.isPending c = false

/-! ## Tables -/

/-- An entry that passes its checks is read back from its bytes as it was: no bit of an entry is dropped. Its bytes are as many
as section 11.6 says, and its kind's code names its kind. -/
def Obligations.EntryBytesReadBack : Prop :=
  ∀ (t : Tables) (e : Entry), t.geometry.valid = true → t.admits e = true →
    Entry.decode e.kind e.index e.encode = some e ∧ e.encode.length = e.kind.entryLength
      ∧ TableKind.ofCode e.kind.code = some e.kind

/-- R15: a GEOMETRY write whose fields break a range or a relation is refused BAD_VALUE and changes nothing, one that breaks
none is applied under the editing condition, and TR is CM + 1. -/
def Obligations.GeometryWriteChecks : Prop :=
  (∀ g : Geometry, g.tr = g.cm + 1)
    ∧ ∀ (frameTag : Byte) (body : List Byte) (g : Geometry) (s : State),
        s.serving → s.saving = false → Geometry.decode body = some g →
        ((2 ≤ g.saws ∧ g.saws ≤ 16 ∧ 4 ≤ g.pitch ∧ g.pitch ≤ 8 ∧ (g.saws - 1) * g.pitch ≤ 90
            ∧ 64 ≤ g.lugPitch ∧ g.lugPitch ≤ 65535 ∧ 1 ≤ g.halfWidth ∧ g.halfWidth ≤ g.lugPitch / 4
            ∧ 100 ≤ g.stopTime ∧ g.stopTime ≤ 5000
            ∧ 1 ≤ g.sd ∧ g.sd < g.gw ∧ g.gw < g.cm ∧ g.cm + 2 ≤ g.ex ∧ g.ex ≤ 31) →
          s.tracker.line = .stopped → s.hasBoard = false →
          ∃ t, exec (.tableWrite frameTag (1 :: 0 :: body)) s = .next t ∧ t.tables.geometry = g
            ∧ t.tables.sawBus.modules = (g.saws + 7) / 8)
        ∧ (¬(2 ≤ g.saws ∧ g.saws ≤ 16 ∧ 4 ≤ g.pitch ∧ g.pitch ≤ 8 ∧ (g.saws - 1) * g.pitch ≤ 90
            ∧ 64 ≤ g.lugPitch ∧ g.lugPitch ≤ 65535 ∧ 1 ≤ g.halfWidth ∧ g.halfWidth ≤ g.lugPitch / 4
            ∧ 100 ≤ g.stopTime ∧ g.stopTime ≤ 5000
            ∧ 1 ≤ g.sd ∧ g.sd < g.gw ∧ g.gw < g.cm ∧ g.cm + 2 ≤ g.ex ∧ g.ex ≤ 31) →
          exec (.tableWrite frameTag (1 :: 0 :: body)) s =
            .next (s.answered (1 :: 0 :: body) { kind := 0xFF, tag := frameTag, payload := [7, 3] }))

/-- TABLE_WRITE. Carried out: the entry replaces the one in force, the edit mark is set and the reply is OK. A write that is not
of INPUTS leaves the inputs, the runs, the Lane, the engine, the consoles and the rest of the tracker; brings a pos past the new
K+W to K+W-1 (R16); makes a head newly enabled UP and one newly disabled DISABLED (R22); and makes a module added or removed
OFFLINE with nothing read, an addition leaving MODULE_OFFLINE pending (R63, R110; its fault code and counts stay:
notes/assumptions/18.md). An OUTPUTS write that changes the function stops a pulse, and one that changes function or rate starts
a BEACON's wave afresh; forces stay (R156, R157). An INPUTS write that keeps the polarity keeps the input; one that changes it
turns the raw level over, as any raw change (R152). TRIM_INHIBIT bound to an input that is ACTIVE, or made ACTIVE by the write,
leaves INHIBIT_ACTIVE pending (R153). Refused, by the first check of R62 that fails: BAD_VALUE for an unknown kind, NO_SUCH for
the index, BAD_LENGTH for the entry, BUSY during a save (R77), BAD_VALUE for its fields, STATE for GEOMETRY and HEADS outside
the editing condition (R16). -/
def Obligations.TableWriteApplies : Prop :=
  (∀ (frameTag : Byte) (e : Entry) (s : State), s.serving → s.saving = false → s.tables.geometry.valid = true →
    s.tables.admits e = true → (e.needsStopped = true → s.tracker.line = .stopped ∧ s.hasBoard = false) →
    s.inUse e = false →
    ∃ t, exec (.tableWrite frameTag (e.kind.code :: u8 e.index :: e.encode)) s = .next t
      ∧ t.tables = s.tables.put e ∧ t.store = { s.store with editMark := true }
      ∧ t.ctl.replies = s.ctl.replies ++ [{ kind := 0x87, tag := frameTag, payload := [] }]
      ∧ (e.kind ≠ .inputs →
          t.tracker = { s.tracker with pos := min s.tracker.pos ((s.tables.put e).geometry.windowEnd - 1) }
            ∧ t.runs = s.runs ∧ t.lane = s.lane ∧ t.solver = s.solver ∧ t.consoles = s.consoles
            ∧ t.field.inputs = s.field.inputs
            ∧ (∀ h : Fin 4, t.scan.heads.get h =
                (if (s.tables.heads.get h).enabled = ((s.tables.put e).heads.get h).enabled then s.scan.heads.get h
                else { status := if ((s.tables.put e).heads.get h).enabled then .up else .disabled, misses := 0 }))
            ∧ { t.saw with modules := s.saw.modules } = s.saw
            ∧ (∀ m : Fin 2, t.saw.modules.get m =
                (if m.val < s.tables.sawBus.modules ↔ m.val < (s.tables.put e).sawBus.modules then s.saw.modules.get m
                else { s.saw.modules.get m with online := false, lastRead := none }))
            ∧ (s.tables.sawBus.modules < (s.tables.put e).sawBus.modules → t.isPending .moduleOffline = true))
      ∧ (∀ (o : Fin 8) (n : OutputEntry), e = .output o n → s.outputsJudged →
          let old := s.tables.outputs.get o
          t.outputsJudged
            ∧ (∀ p : Fin 8, p ≠ o → t.field.outputs.get p = s.field.outputs.get p)
            ∧ (t.field.outputs.get o).force = (s.field.outputs.get o).force
            ∧ (t.field.outputs.get o).pulse = (if old.function = n.function then (s.field.outputs.get o).pulse else none)
            ∧ (t.field.outputs.get o).wave =
                (if n.function = .beacon ∧ s.alert = true then
                  (if old.function = .beacon ∧ old.rate = n.rate then (s.field.outputs.get o).wave
                  else some { on := true, left := n.rate.halfPeriod })
                else none))
      ∧ ∀ (j : Fin 8) (n : InputEntry), e = .input j n →
          let old := s.tables.inputs.get j
          let x := s.field.inputs.get j
          (∀ k : Fin 8, k ≠ j → t.field.inputs.get k = s.field.inputs.get k)
            ∧ t.field.inputs.get j =
                (if old.polarity = n.polarity then x
                else if rawLevel n x = x.filtered then { x with timer := none }
                else if n.filter = 0 then { x with filtered := rawLevel n x, timer := none }
                else { x with timer := some n.filter })
            ∧ (n.function = .trimInhibit → (old.function = .trimInhibit → x.filtered = false) →
                (t.field.inputs.get j).filtered = true → t.isPending .inhibitActive = true))
    ∧ ∀ (frameTag k i : Byte) (body : List Byte) (s : State), s.serving →
        let refused := fun code : Byte =>
          exec (.tableWrite frameTag (k :: i :: body)) s =
            .next (s.answered (k :: i :: body) { kind := 0xFF, tag := frameTag, payload := [7, code] })
        (TableKind.ofCode k = none → refused 3)
          ∧ ∀ kind, TableKind.ofCode k = some kind →
              (kind.count ≤ i.toNat → refused 7)
                ∧ (i.toNat < kind.count → body.length ≠ kind.entryLength → refused 2)
                ∧ (i.toNat < kind.count → body.length = kind.entryLength → s.saving = true → refused 5)
                ∧ (i.toNat < kind.count → body.length = kind.entryLength → s.saving = false →
                    (Entry.decode kind i.toNat body = none → refused 3)
                      ∧ ∀ e, Entry.decode kind i.toNat body = some e →
                          (s.tables.admits e = false → refused 3)
                            ∧ (s.tables.admits e = true → kind = .geometry ∨ kind = .heads →
                                ¬(s.tracker.line = .stopped ∧ s.hasBoard = false) → refused 4))

/-- A TABLE_WRITE to the grade set or price set that the running solve uses is held with no reply and no effect (R70), and
HELD_WRITE_APPLIED, once the engine is IDLE, applies it, answers OK and leaves no request in process. The reply is made whatever
number of replies waits, where R164 bounds them by 8: that is the model's choice (notes/assumptions/12.md). -/
def Obligations.HeldWriteWaitsForTheSolve : Prop :=
  (∀ (frameTag : Byte) (e : Entry) (s : State), s.serving → s.saving = false → s.tables.geometry.valid = true →
      s.tables.admits e = true → s.inUse e = true →
      exec (.tableWrite frameTag (e.kind.code :: u8 e.index :: e.encode)) s =
        .next
          { s.received .control (e.kind.code :: u8 e.index :: e.encode) with
            ctl := { s.ctl with inProcess := some (.heldWrite { frameTag := frameTag, entry := e }) } })
    ∧ ∀ (w : HeldWrite) (s : State), s.solver.engine = none → s.ctl.inProcess = some (.heldWrite w) →
        ∃ t, exec .heldWriteApplied s = .next t ∧ t.tables = s.tables.put w.entry
          ∧ t.store = { s.store with editMark := true } ∧ t.ctl.inProcess = none
          ∧ t.ctl.replies = s.ctl.replies ++ [{ kind := 0x87, tag := w.frameTag, payload := [] }]

/-! ## The image memory -/

/-- The memory after the first `n` page writes of a save of the tables `t` (R76). -/
def Sys2Proof.savedPages (t : Tables) (m : List Host.Cell) (n : Nat) : List Host.Cell :=
  (List.range n).foldl (fun m k => pageWritten m (imageOf t) (k + 1)) m

/-- Tables that pass their checks, saved by all 23 page writes over any memory, are judged GOOD and read back as they were; and
after the first 22 writes, the header holding the inverse CRC, the image is judged BAD CRC. -/
def Obligations.SavedImageLoadsBack : Prop :=
  ∀ (t : Tables) (m : List Host.Cell), t.valid = true → memWf m = true →
    judgeImage (savedPages t m 23) = .good t ∧ judgeImage (savedPages t m 22) = .badCrc

/-- IMAGE_LOAD begins a load whose reply waits for its end; it is refused BUSY while the controller is not IDLE and STATE
outside the editing condition (R75, R77; that BUSY comes first is notes/assumptions/29.md). A memory without the signature 0xC9
is judged NO SIGNATURE, and one of another format, length or CRC BAD CRC; where those are right, one with an entry that cannot
be read or fails the checks of a TABLE WRITE against the image's own tables is BAD CRC, and one whose entries all pass GOOD,
with those tables (R73). The start-up load ends with the line STOPPED and the heads set from the HEADS table then in force (R5,
R37): GOOD replaces the tables and leaves the status LOADED and the edit mark clear; otherwise the tables and the mark are kept,
IMAGE_FAULT is pending, and the status is DEFAULTS for NO SIGNATURE and NO ANSWER (IMAGE_READ_TIMEOUT) and FAULT for BAD CRC
(R74). A requested load ends with its reply (R75): GOOD under the editing condition replaces the tables and answers OK LOADED,
the heads follow the new HEADS table and the slots stay but for an eye flag (R34), the modules follow the new count (R110, at
the start-up load too; notes/assumptions/18.md), and a pos past the new K+W becomes K+W-1 (DESIGN CHOICE,
notes/assumptions/38.md); the inputs that the load itself turns come last (DEDUCED, notes/assumptions/22.md), and the pulse of a
lug sensor turned ACTIVE is taken at that pos (R3, R152), where only an advance can change the heads further. GOOD outside the
editing condition changes nothing and is refused STATE; the others act as above and are refused IMAGE_FAULT. That reply is made
whatever number of replies waits, where R164 bounds them by 8: the model's choice (notes/assumptions/12.md). -/
def Obligations.ImageLoadsAndTheirEnds : Prop :=
  (∀ (frameTag : Byte) (s : State), s.serving →
      (s.imageIdle = true → s.tracker.line = .stopped → s.hasBoard = false →
        exec (.imageLoad frameTag []) s =
          .next
            { s.received .control [] with
              store := { s.store with activity := .loading (.request frameTag) }
              ctl := { s.ctl with inProcess := some .imageLoad } })
        ∧ (s.imageIdle = false →
            exec (.imageLoad frameTag []) s =
              .next (s.answered [] { kind := 0xFF, tag := frameTag, payload := [8, 5] }))
        ∧ (s.imageIdle = true → ¬(s.tracker.line = .stopped ∧ s.hasBoard = false) →
            exec (.imageLoad frameTag []) s =
              .next (s.answered [] { kind := 0xFF, tag := frameTag, payload := [8, 4] })))
    ∧ (∀ m : List Host.Cell,
        (memRead m 0 ≠ 0xC9 → judgeImage m = .noSignature)
          ∧ (memRead m 0 = 0xC9 →
              (memRead m 1 ≠ 1 ∨ word (memRead m 2) (memRead m 3) ≠ 1396
                ∨ word (memRead m 4) (memRead m 5) ≠ crc16 ([1, 5, 0x74] ++ memReadBytes m 6 1390)) →
              judgeImage m = .badCrc)
          ∧ (imageHeaderRight m →
              ((∃ kind i, i < kind.count ∧ Entry.decode kind i (imageEntry m kind i) = none) → judgeImage m = .badCrc)
                ∧ ∀ t : Tables,
                    (∀ kind i, i < kind.count → Entry.decode kind i (imageEntry m kind i) = t.entry? kind i) →
                    ((∃ e ∈ t.entries, t.admits e = false) → judgeImage m = .badCrc)
                      ∧ ((∀ e ∈ t.entries, t.admits e = true) → judgeImage m = .good t)))
    ∧ (∀ (new : Tables) (s : State), s.store.activity = .loading .startUp → judgeImage s.store.memory = .good new →
        ∃ t, exec .imageLoadEnd s = .next t ∧ t.tables = new
          ∧ t.store = { s.store with activity := .idle, status := .loaded, editMark := false }
          ∧ s.modulesFollow t new
          ∧ (t.tracker.line, t.tracker.runUp, t.tracker.stopTimer, t.tracker.advanceTimes) = (.stopped, 0, none, [])
          ∧ ∀ h : Fin 4, t.scan.heads.get h =
              { status := if (new.heads.get h).enabled then .up else .disabled, misses := 0 })
    ∧ (∀ s : State, s.store.activity = .loading .startUp →
        ∀ p ∈ [(Instr.imageLoadEnd, LoadOutcome.noSignature, ImageStatus.defaults), (.imageLoadEnd, .badCrc, .fault),
            (.imageReadTimeout, .noAnswer, .defaults)],
          (p.1 = .imageLoadEnd → judgeImage s.store.memory = p.2.1) →
          ∃ t, exec p.1 s = .next t ∧ t.tables = s.tables
            ∧ t.store = { s.store with activity := .idle, status := p.2.2 }
            ∧ (t.tracker.line, t.tracker.runUp, t.tracker.stopTimer, t.tracker.advanceTimes) = (.stopped, 0, none, [])
            ∧ t.isPending .imageFault = true
            ∧ ∀ h : Fin 4, t.scan.heads.get h =
                { status := if (s.tables.heads.get h).enabled then .up else .disabled, misses := 0 })
    ∧ ∀ (frameTag : Byte) (s : State), s.store.activity = .loading (.request frameTag) →
        (∀ new : Tables, judgeImage s.store.memory = .good new → s.tracker.line = .stopped → s.hasBoard = false →
          ∃ t, exec .imageLoadEnd s = .next t ∧ t.tables = new ∧ t.ctl.inProcess = none
            ∧ t.store = { s.store with activity := .idle, status := .loaded, editMark := false }
            ∧ t.ctl.replies = s.ctl.replies ++ [{ kind := 0x88, tag := frameTag, payload := [0] }]
            ∧ s.modulesFollow t new
            ∧ let pos := min s.tracker.pos (new.geometry.windowEnd - 1)
              let edge := new.geometry.lugPitch - new.geometry.halfWidth
              (¬s.lugTurnsWith new →
                  { t.tracker with ring := s.tracker.ring } = { s.tracker with pos := pos } ∧ s.headsFollow t new
                    ∧ (t.tracker.ring.map fun x => { x with eye := true })
                      = s.tracker.ring.map fun x => { x with eye := true })
                ∧ (s.lugTurnsWith new →
                    (t.tracker.pos, t.tracker.lastAdvance) =
                        (if edge ≤ pos then (0, .sensed)
                        else if pos ≤ new.geometry.halfWidth ∧ s.tracker.lastAdvance = .synthesized false then
                          (0, .synthesized true)
                        else (pos, s.tracker.lastAdvance))
                      ∧ (pos < edge → s.headsFollow t new)))
          ∧ (∀ new : Tables, judgeImage s.store.memory = .good new → ¬(s.tracker.line = .stopped ∧ s.hasBoard = false) →
              exec .imageLoadEnd s =
                .next
                  { s with
                    store := { s.store with activity := .idle }
                    ctl :=
                      { s.ctl with
                        inProcess := none
                        replies := s.ctl.replies ++ [{ kind := 0xFF, tag := frameTag, payload := [8, 4] }] } })
          ∧ ∀ p ∈ [(Instr.imageLoadEnd, LoadOutcome.noSignature, ImageStatus.defaults), (.imageLoadEnd, .badCrc, .fault),
              (.imageReadTimeout, .noAnswer, .defaults)],
            (p.1 = .imageLoadEnd → judgeImage s.store.memory = p.2.1) →
            ∃ t, exec p.1 s = .next t ∧ t.ctl.inProcess = none
              ∧ t.store = { s.store with activity := .idle, status := p.2.2 }
              ∧ t.isPending .imageFault = true
              ∧ t.ctl.replies = s.ctl.replies ++ [{ kind := 0xFF, tag := frameTag, payload := [8, 9] }]
              ∧ { t with store := s.store, ctl := s.ctl, field := s.field } = s ∧ t.field.inputs = s.field.inputs

/-- IMAGE_SAVE copies the tables, begins write 1 and is answered OK at once; it is refused BUSY while the controller is not IDLE
(R77); PAGE_WRITE_COMPLETE puts the page into the memory and begins the next write, or after write 23 ends the save LOADED with
the edit mark clear; PAGE_WRITE_TIMEOUT stops the save with status FAULT and IMAGE_FAULT pending, and leaves every byte outside
that page as it was (R76). -/
def Obligations.ImageSavesPageByPage : Prop :=
  (∀ (frameTag : Byte) (s : State), s.serving → s.imageIdle = true →
      exec (.imageSave frameTag []) s =
        .next
          ({ s.answered [] { kind := 0x89, tag := frameTag, payload := [] } with
            store := { s.store with activity := .saving { image := imageOf s.tables, write := 1, left := 80 } } }))
    ∧ (∀ (frameTag : Byte) (s : State), s.serving → s.imageIdle = false →
        exec (.imageSave frameTag []) s = .next (s.answered [] { kind := 0xFF, tag := frameTag, payload := [9, 5] }))
    ∧ (∀ (job : SaveJob) (s : State), s.store.activity = .saving job →
        exec .pageWriteComplete s =
          .next
            { s with
              store :=
                if job.write < 23 then
                  { s.store with
                    memory := pageWritten s.store.memory job.image job.write
                    activity := .saving { image := job.image, write := job.write + 1, left := 80 } }
                else
                  { memory := pageWritten s.store.memory job.image job.write, activity := .idle, status := .loaded,
                    editMark := false } })
    ∧ ∀ (job : SaveJob) (s : State), s.store.activity = .saving job → memWf s.store.memory = true →
        ∃ t, exec .pageWriteTimeout s = .next t
          ∧ (t.store.activity, t.store.status, t.store.editMark) = (.idle, .fault, s.store.editMark)
          ∧ t.isPending .imageFault = true ∧ t.tables = s.tables ∧ t.tracker = s.tracker
          ∧ ∀ a : Nat, ¬(64 * pageOf job.write ≤ a ∧ a < 64 * pageOf job.write + 64) →
              memRead t.store.memory a = memRead s.store.memory a

/-! ## Runs -/

/-- OPEN_RUN of a product 0 to 7, while no run is in LOGS, a record is FREE and the last number issued is below 65535: a new run
in LOGS with the next number, every counter 0 and the saturated mark clear; the run that was BOTH becomes BOARDS; the reply
carries the new number (R135, R136). Otherwise it changes no run and is refused: BAD_VALUE for another product, else
PENDING_CUTOVER while a run is in LOGS, else TABLE_FULL. -/
def Obligations.OpenRunOpens : Prop :=
  (∀ (frameTag : Byte) (p : Fin 8) (s : State), s.serving → (∀ r ∈ s.runs.records, r.state ≠ .logs) →
    s.runs.records.length < 16 → s.runs.lastIssued < 65535 →
    exec (.openRun frameTag [u8 p.val]) s =
      .next
        { s.answered [u8 p.val]
            { kind := 0x8A, tag := frameTag, payload := u16 (s.runs.lastIssued + 1) } with
          runs :=
            { records :=
                (s.runs.records.map fun r => if r.state = .both then { r with state := .boards } else r)
                  ++ [{ seq := s.runs.lastIssued + 1, product := p, state := .logs, saturated := false,
                        tally := Tally.zero }]
              lastIssued := s.runs.lastIssued + 1 } })
    ∧ ∀ (frameTag p : Byte) (s : State), s.Inv → s.serving →
        let refused := fun code : Byte =>
          exec (.openRun frameTag [p]) s =
            .next (s.answered [p] { kind := 0xFF, tag := frameTag, payload := [0x0A, code] })
        (7 < p.toNat → refused 3)
          ∧ (p.toNat ≤ 7 → (∃ r ∈ s.runs.records, r.state = .logs) → refused 8)
          ∧ (p.toNat ≤ 7 → (∀ r ∈ s.runs.records, r.state ≠ .logs) →
              (s.runs.records.length = 16 ∨ s.runs.lastIssued = 65535) → refused 6)

/-- BOARD_CUTOVER with the log-current run in LOGS: that run becomes BOTH; the run in BOARDS becomes DRAINING where it has an
open slot and CLOSED where it has none; the reply carries the new board-current number and the state the old run took (R137).
With no run in LOGS it changes no run and is refused STATE. -/
def Obligations.BoardCutoverMovesTheBoardEnd : Prop :=
  (∀ (frameTag : Byte) (new old : Run) (s : State), s.Inv → s.serving → new ∈ s.runs.records → new.state = .logs →
    old ∈ s.runs.records → old.state = .boards →
    exec (.boardCutover frameTag []) s =
      .next
        { s.answered []
            { kind := 0x8B, tag := frameTag,
              payload := u16 new.seq ++ [if s.openSlots old.seq = 0 then 4 else 3] } with
          runs :=
            { s.runs with
              records := s.runs.records.map fun r =>
                if r.state = .logs then { r with state := .both }
                else if r.state = .boards then
                  { r with state := if s.openSlots old.seq = 0 then .closed else .draining }
                else r } })
    ∧ ∀ (frameTag : Byte) (s : State), s.serving → (∀ r ∈ s.runs.records, r.state ≠ .logs) →
        exec (.boardCutover frameTag []) s =
          .next (s.answered [] { kind := 0xFF, tag := frameTag, payload := [0x0B, 4] })

/-- RUN_RELEASE of a CLOSED run frees its record, every other run as it was; a number that no record holds is refused NO_SUCH
and a run in another state STATE (R139). -/
def Obligations.RunReleaseFreesTheRecord : Prop :=
  ∀ (frameTag hi lo : Byte) (s : State), s.serving →
    (∀ r : Run, s.run? (word hi lo) = some r → r.state = .closed →
      exec (.runRelease frameTag [hi, lo]) s =
        .next
          { s.answered [hi, lo] { kind := 0x8D, tag := frameTag, payload := [] } with
            runs := { s.runs with records := s.runs.records.filter fun q => decide (q.seq ≠ word hi lo) } })
      ∧ (s.run? (word hi lo) = none →
          exec (.runRelease frameTag [hi, lo]) s =
            .next (s.answered [hi, lo] { kind := 0xFF, tag := frameTag, payload := [0x0D, 7] }))
      ∧ ∀ r : Run, s.run? (word hi lo) = some r → r.state ≠ .closed →
          exec (.runRelease frameTag [hi, lo]) s =
            .next (s.answered [hi, lo] { kind := 0xFF, tag := frameTag, payload := [0x0D, 4] })

/-! ## The control link -/

/-- The requests that only read are answered OK with what they read and change nothing else: IDENTIFY and STATUS in every line
state, CAUSES, TABLE_READ, TALLY_READ and PIECE_QUERY outside STARTING. Every item of each reply is given, in the layout that
the model reads from R172 (notes/assumptions/20.md, 31.md and 32.md; the order of the links in part 9: 21.md). The lug rate is
the nearest whole number of lugs a minute to the last interval, halves up, and 0 unless RUNNING with two advances on record
(R8). Coverage is FULL where a head is enabled and none is DOWN (R22). Recovery is the board volume in thousandths of the
accepted volume, at most 9999, and 0 with none accepted (R147). A part, table kind, section or entry that there is none of is
refused BAD_VALUE or NO_SUCH (an unknown run before an unknown section: notes/assumptions/33.md), and a PIECE_QUERY of no slot
NO_SUCH. -/
def Obligations.ReadRequestsChangeNothing : Prop :=
  (∀ (frameTag : Byte) (s : State), s.portReady →
    let ok := fun (payload : List Byte) (kind : Byte) (data : List Byte) =>
      (.next (s.answered payload { kind := kind, tag := frameTag, payload := data }) : Host.Outcome State Fault Refusal)
    let part := fun (n : Byte) (items : List Byte) => exec (.status frameTag [n]) s = ok [n] 0x82 (n :: items)
    exec (.identify frameTag []) s = ok [] 0x81 (u16 7140 ++ [1, 1, s.ctl.rate.code, s.tracker.line.code])
      ∧ part 0 ([s.tracker.line.code] ++ u16 s.lugRate ++ [u8 s.tracker.ring.length]
          ++ presence 2 (s.tracker.ring.getLast?.map (·.tag)) u16)
      ∧ part 1 (((List.finRange 4).flatMap fun h => [(s.scan.heads.get h).status.code, u8 (s.scan.heads.get h).misses])
          ++ [if (∃ h : Fin 4, (s.scan.heads.get h).status ≠ .disabled) ∧ ∀ h : Fin 4, (s.scan.heads.get h).status ≠ .down
              then 0 else 1]
          ++ u16 s.scan.stray ++ u16 s.scan.late ++ u16 s.scan.malformed)
      ∧ part 2 ((match s.solver.engine with
          | none => [0, 0, 0, 0]
          | some job => [1, 1] ++ u16 job.tag)
          ++ [u8 (s.tracker.ring.countP (·.isQueued))] ++ u16 s.solver.abandoned)
      ∧ part 3 ([s.store.activity.code, s.store.status.code, yesNo s.store.editMark]
          ++ match s.store.activity with
            | .saving job => [1, u8 (job.write - 1)]
            | _ => [0, 0])
      ∧ part 4 (((List.finRange 4).flatMap fun c =>
            let claims := s.tracker.ring.filter fun x => decide (x.console.holder = some c)
            [yesNo (s.consoles.get c).subscribed, u8 claims.length] ++ (claims.flatMap fun x => u16 x.tag)
              ++ [u8 ((s.consoles.get c).queue.countP (·.isOffer))] ++ u16 (s.consoles.get c).dropped)
          ++ (List.finRange 8).flatMap fun o =>
            if (s.tables.outputs.get o).function = .graderCall then
              [1, yesNo (s.callCondition (s.tables.outputs.get o))]
            else [0, 0])
      ∧ part 5 (((List.finRange 2).flatMap fun m =>
            let x := s.saw.modules.get m
            if m.val < s.tables.sawBus.modules then
              [1, if x.online then 0 else 1] ++ presence 3 x.lastRead (fun r => [r.mask, r.seq, r.down])
                ++ presence 1 x.lastFault (fun code => [code]) ++ u16 x.retries ++ u16 x.timeouts ++ u16 x.faults
            else List.replicate 14 0)
          ++ u16 s.saw.discarded
          ++ presence 4 s.saw.exchange fun ex => u16 ex.tag ++ [u8 (ex.module.val + 1), u8 ex.attempt])
      ∧ part 6 ((match s.lane.state with
          | .idle => [0, 0, 0, 0, 0, 0]
          | .open r => [1] ++ presence 2 r.number u16 ++ [1, u8 r.slices]
          | .skipping => [2, 0, 0, 0, 0, 0])
          ++ [u8 s.lane.queue.length]
          ++ (s.lane.queue.flatMap fun q => presence 2 q.number u16 ++ [yesNo q.rejected] ++ u16 q.countdown)
          ++ u16 s.lane.discards)
      ∧ part 7 (let old := s.runs.records.filter fun r => decide (r.state = .draining ∨ r.state = .closed)
          u16 s.logSeq ++ u16 s.boardSeq ++ [u8 (16 - s.runs.records.length)] ++ u16 s.runs.lastIssued
            ++ [u8 old.length] ++ old.flatMap fun r => u16 r.seq ++ [r.state.code])
      ∧ part 8 (((List.finRange 8).flatMap fun i =>
            let e := s.tables.inputs.get i
            let x := s.field.inputs.get i
            [e.function.code, yesNo (rawLevel e x), yesNo !x.filtered, yesNo x.timer.isSome])
          ++ ((List.finRange 8).flatMap fun o =>
            let x := s.field.outputs.get o
            [(s.tables.outputs.get o).function.code, x.force.code, yesNo x.level, yesNo x.pulse.isSome])
          ++ [if s.ctl.pendingCauses &&& s.ctl.alertMask = 0 then 0 else 1])
      ∧ part 9 (u16 s.ctl.pendingCauses.toNat ++ u16 s.ctl.alertMask.toNat
          ++ [u8 s.ctl.reports.length, u8 s.ctl.nextReport] ++ u16 s.ctl.dropped
          ++ (List.finRange 11).flatMap fun l => u16 (s.links.get l).discarded)
      ∧ (∀ p : Byte, 9 < p.toNat → exec (.status frameTag [p]) s = ok [p] 0xFF [2, 3])
      ∧ (s.tracker.line ≠ .starting →
        exec (.causes frameTag []) s = ok [] 0x83 (u16 s.ctl.pendingCauses.toNat)
        ∧ (∀ (k : TableKind) (i : Byte),
            (∀ e : Entry, s.tables.entry? k i.toNat = some e →
              exec (.tableRead frameTag [k.code, i]) s = ok [k.code, i] 0x86 (k.code :: i :: e.encode))
            ∧ (s.tables.entry? k i.toNat = none → exec (.tableRead frameTag [k.code, i]) s = ok [k.code, i] 0xFF [6, 7]))
        ∧ (∀ k i : Byte, TableKind.ofCode k = none → exec (.tableRead frameTag [k, i]) s = ok [k, i] 0xFF [6, 3])
        ∧ (∀ hi lo b : Byte, s.run? (word hi lo) = none →
            exec (.tallyRead frameTag [hi, lo, b]) s = ok [hi, lo, b] 0xFF [0x0C, 7])
        ∧ (∀ (hi lo : Byte) (r : Run), s.run? (word hi lo) = some r →
            let p := s.tables.products.get r.product
            let total := ((List.finRange 8).map fun g => r.tally.volume.get g).sum
            (exec (.tallyRead frameTag [hi, lo, 0]) s =
                ok [hi, lo, 0] 0x8C
                  (u16 r.seq ++ [u8 r.product.val] ++ p.name ++ List.replicate (12 - p.name.length) 0
                    ++ [r.state.code, yesNo r.saturated,
                        u8 (s.tracker.ring.countP fun x => decide (x.run = r.seq ∧ x.kind ≠ .empty)),
                        u8 (s.tracker.ring.countP fun x => decide (x.run = r.seq ∧ x.kind = .board))]
                    ++ u32 r.tally.scanned
                    ++ u64 (min ((List.finRange 8).map fun g => ((List.finRange 15).map fun l =>
                        (r.tally.kept.get g).get l).sum).sum 4294967295)
                    ++ u32 r.tally.scrapped ++ u32 r.tally.lost ++ u32 r.tally.overridden ++ u32 r.tally.fallback
                    ++ u32 r.tally.overrideMissed ++ u32 r.tally.trimMissed ++ u32 r.tally.inhibited
                    ++ u32 r.tally.manualConflict ++ u32 r.tally.scanPartial ++ u32 r.tally.noProfile
                    ++ u32 r.tally.value ++ u64 total
                    ++ u16 (if r.tally.acceptedVolume = 0 then 0 else min 9999 (total * 1000 / r.tally.acceptedVolume))))
            ∧ (∀ g : Fin 8, exec (.tallyRead frameTag [hi, lo, u8 (g.val + 1)]) s =
                ok [hi, lo, u8 (g.val + 1)] 0x8C
                  (((List.finRange 15).flatMap fun l => u32 ((r.tally.kept.get g).get l)) ++ u32 (r.tally.volume.get g)))
            ∧ exec (.tallyRead frameTag [hi, lo, 9]) s =
                ok [hi, lo, 9] 0x8C
                  (u32 r.tally.logsMeasured ++ u32 r.tally.accepted ++ u32 r.tally.rejectedFault
                    ++ u32 r.tally.rejectedSed ++ u32 r.tally.rejectedLength ++ u32 r.tally.faulted
                    ++ u32 r.tally.acceptedVolume ++ (List.finRange 8).flatMap fun k => u32 (r.tally.classes.get k))
            ∧ ∀ b : Byte, 9 < b.toNat → exec (.tallyRead frameTag [hi, lo, b]) s = ok [hi, lo, b] 0xFF [0x0C, 3])
        ∧ ∀ (hi lo : Byte),
            (s.slot? (word hi lo) = none → exec (.pieceQuery frameTag [hi, lo]) s = ok [hi, lo] 0xFF [0x0E, 7])
            ∧ ∀ x : Slot, s.slot? (word hi lo) = some x →
              let scan := x.scan
              let below := fun (p : Cell → Bool) => presence 1 scan.extent fun e => [u8 ((scan.cells.take e).countP p)]
              let kept := fun keep : Option Keep =>
                [if keep = none then (1 : Byte) else 0] ++ presence 1 keep (fun k => [u8 k.a])
                  ++ presence 1 keep (fun k => [u8 k.b]) ++ presence 1 keep (fun k => [k.grade.code])
                  ++ presence 1 keep (fun k => [u8 (k.b - k.a)]) ++ u16 ((keep.map (·.value)).getD 0)
              exec (.pieceQuery frameTag [hi, lo]) s =
                ok [hi, lo] 0x8E
                  ([u8 x.offset, x.kind.code] ++ u16 x.run ++ [yesNo x.lugSynth, yesNo x.eye]
                    ++ [scan.status.code, u8 (packBits ((List.finRange 4).map scan.expected.get)),
                        u8 (packBits ((List.finRange 4).map scan.last.get)), yesNo scan.scanPartial, yesNo scan.noProfile]
                    ++ presence 1 scan.extent (fun e => [u8 e])
                    ++ below (·.isPresent) ++ below (fun c => decide (c = .empty)) ++ below (fun c => decide (c = .unseen))
                    ++ presence 1 x.solve (fun r => [r.status.code])
                    ++ (match x.solve with
                      | some r => u16 r.generation ++ [yesNo r.reSolve]
                      | none => [0, 0, 0])
                    ++ presence 15 (x.solve.bind (·.solution)) (fun sol =>
                        kept sol.keep ++ [yesNo sol.noSpan] ++ u16 sol.generation ++ [sol.source.code])
                    ++ [x.console.window.code, match x.console.holder with | some c => u8 c.val | none => 4]
                    ++ [u8 x.console.overrides.marks.length]
                    ++ (x.console.overrides.marks.flatMap fun m => [u8 m.first, u8 m.last, u8 m.grade])
                    ++ presence 1 x.console.overrides.forcedGrade (fun g => [u8 g])
                    ++ presence 1 x.console.overrides.forcedLength (fun n => [u8 n])
                    ++ [yesNo x.console.overrides.forcedScrap]
                    ++ presence 33 x.commit (fun c =>
                        kept c.keep ++ [yesNo c.noSpan, c.source.code] ++ presence 2 c.generation u16
                          ++ [yesNo c.overrideMissed, yesNo c.inhibited, yesNo c.manualConflict, yesNo c.trimMissed]
                          ++ u16 (packBits c.pattern)
                          ++ ((List.finRange 2).flatMap fun m =>
                            if m.val < s.tables.sawBus.modules then
                              [1, (c.results.get m).code] ++ presence 2 (c.masks.get m) fun r => [r.mask, r.down]
                            else List.replicate 5 0)
                          ++ [yesNo c.trimmed])
                    ++ u16 x.run ++ presence 1 (s.run? x.run) fun r => [r.state.code])))
    ∧ (∀ s : State,
        (∀ (t2 t1 : Nat) (rest : List Nat), s.tracker.line = .running → s.tracker.advanceTimes = t2 :: t1 :: rest →
          let d := max 1 (t2 - t1)
          2 * d * s.lugRate ≤ 2 * 60000 + d ∧ 2 * 60000 + d < 2 * d * (s.lugRate + 1))
          ∧ ((s.tracker.line ≠ .running ∨ s.tracker.advanceTimes.length < 2) → s.lugRate = 0))
    ∧ [LineState.starting, .stopped, .running].map (·.code) = [0, 1, 2]
    ∧ [HeadStatus.up, .down, .disabled].map (·.code) = [0, 1, 2]
    ∧ [ScanStatus.open, .complete, .closedPartial].map (·.code) = [0, 1, 2]
    ∧ [SolveStatus.queued, .solving, .solved, .closed].map (·.code) = [0, 1, 2, 3]
    ∧ [SlotKind.undecided, .board, .empty].map (·.code) = [0, 1, 2]
    ∧ [Window.before, .open, .closed].map (·.code) = [0, 1, 2]
    ∧ [ModuleResult.notStarted, .accepted, .faulted, .unsettled, .timedOut, .skipped, .abandoned].map (·.code) =
        [0, 1, 2, 3, 4, 5, 6]
    ∧ [Force.none, .on, .off].map (·.code) = [0, 1, 2]
    ∧ [ImageStatus.loaded, .defaults, .fault].map (·.code) = [0, 1, 2]
    ∧ (Activity.idle.code = 0 ∧ (∀ c, (Activity.loading c).code = 1) ∧ ∀ job, (Activity.saving job).code = 2)
    ∧ [LinkRate.b115200, .b230400, .b460800, .b921600].map (·.code) = [0, 1, 2, 3]
    ∧ [RunState.logs, .both, .boards, .draining, .closed].map (·.code) = [0, 1, 2, 3, 4]
    ∧ [Source.solver, .override, .fallback].map (·.code) = [0, 1, 2]
    ∧ (PieceGrade.ungraded.code = 8 ∧ ∀ g : Nat, (PieceGrade.graded g).code = u8 g)
    ∧ [InputFunction.none, .lug, .boardEye, .trimInhibit, .general].map (·.code) = [0, 1, 2, 3, 4]
    ∧ [OutputFunction.none, .fire, .kick, .alert, .beacon, .graderCall, .general].map (·.code) = [0, 1, 2, 3, 4, 5, 6]

/-- CLEAR_CAUSES clears every cause named but a level cause whose condition holds, which stays pending and makes no report, and
its reply carries the pending set after it; ALERT_MASK replaces the mask. Both have the outputs judged afresh and change nothing
else; a mask that names a cause above 13 is refused BAD_VALUE (R168, R169). -/
def Obligations.CausesClearedAndMasked : Prop :=
  (∀ (frameTag : Byte) (mask : CauseSet) (s : State), s.serving →
    (∃ t, exec (.clearCauses frameTag (u16 mask.toNat)) s = .next t
      ∧ t.ctl =
          { s.ctl with
            pendingCauses := (s.ctl.pendingCauses &&& ~~~mask) ||| (mask &&& s.levelConditions)
            replies := s.ctl.replies ++ [⟨0x84, frameTag,
              u16 ((s.ctl.pendingCauses &&& ~~~mask) ||| (mask &&& s.levelConditions)).toNat⟩] }
      ∧ t.outputsJudged ∧ t.field.inputs = s.field.inputs
      ∧ { t with ctl := s.ctl, field := s.field, links := s.links } = s)
    ∧ ∃ t, exec (.alertMask frameTag (u16 mask.toNat)) s = .next t
      ∧ t.ctl =
          { s.ctl with
            alertMask := mask
            replies := s.ctl.replies ++ [{ kind := 0x85, tag := frameTag, payload := u16 mask.toNat }] }
      ∧ t.outputsJudged ∧ t.field.inputs = s.field.inputs
      ∧ { t with ctl := s.ctl, field := s.field, links := s.links } = s)
    ∧ ∀ (frameTag hi lo : Byte) (s : State), s.serving → 2 ^ 14 ≤ word hi lo →
        exec (.clearCauses frameTag [hi, lo]) s =
            .next (s.answered [hi, lo] { kind := 0xFF, tag := frameTag, payload := [4, 3] })
          ∧ exec (.alertMask frameTag [hi, lo]) s =
            .next (s.answered [hi, lo] { kind := 0xFF, tag := frameTag, payload := [5, 3] })

/-- A line that becomes free sends the oldest frame waiting on it and ends the one before: the control link a reply before a
report (R164), a console link the head of its queue (R80), a head link the next TRIGGER (R23); with none waiting it is idle. The
three commands stand for that moment (DESIGN CHOICE, notes/assumptions/10.md). -/
def Obligations.FreeLinesSendTheOldest : Prop :=
  ∀ s : State,
    (exec .controlLinkSend s =
      .next
        { s with
          ctl := match s.ctl.replies, s.ctl.reports with
            | f :: fs, _ => { s.ctl with sending := some f.wire, replies := fs }
            | [], f :: fs => { s.ctl with sending := some f.wire, reports := fs }
            | [], [] => { s.ctl with sending := none } })
    ∧ (∀ c : Fin 4, exec (.consoleQueueSend c) s =
        .next
          { s with
            consoles := s.consoles.set c (match (s.consoles.get c).queue with
              | f :: fs => { s.consoles.get c with sending := some f.frame.wire, queue := fs }
              | [] => { s.consoles.get c with sending := none }) })
    ∧ ∀ h : Fin 4, exec (.headLinkSend h) s =
        .next
          { s with
            scan := { s.scan with
              triggers := s.scan.triggers.set h (match (s.scan.triggers.get h).waiting with
                | tag :: tags =>
                  { sending := some (Frame.wire { kind := 0x21, tag := 0, payload := u16 tag }), waiting := tags }
                | [] => { sending := none, waiting := [] }) } }

/-- The wire of every frame whose payload fits passes its receiver's checks, begins with the sync byte and holds the payload
whole after four bytes; and no frame is whole before its last byte. The receiver of a half-duplex link takes such a frame that
the 7140 sends as well: one that holds nothing holds nothing after it and counts nothing; one that holds an unfinished frame
goes on with the bytes sent, and discards and counts what they make bad (R161; notes/assumptions/36.md). -/
def Obligations.FramesPassTheChecks : Prop :=
  (∀ f : Frame, f.payload.length ≤ 250 →
    judgeBytes f.wire = .good ∧ beginsFrame f.wire = true ∧ (f.wire.drop 4).take f.payload.length = f.payload
      ∧ (∀ n : Nat, n < f.payload.length + 6 → judgeBytes (f.wire.take n) = .incomplete)
      ∧ ∀ count : Nat, LinkReceiver.takeSent f.wire { held := [], discarded := count } = { held := [], discarded := count })
    ∧ ∀ (wire : List Byte) (r : LinkReceiver), beginsFrame r.held = true →
        (judgeBytes (r.held ++ wire) = .incomplete → r.takeSent wire = { r with held := r.held ++ wire })
          ∧ (judgeBytes (r.held ++ wire) = .bad →
              r.takeSent wire =
                LinkReceiver.takeSent []
                  { held := hunt (r.held ++ wire).tail, discarded := min (r.discarded + 1) 65535 })

/-- A bad frame and one that is not whole in time are discarded and counted on their link alone, and the receiver hunts from the
byte after the frame's sync byte (R161); a log frame of unknown kind or wrong length outside STARTING and a saw-bus frame of a
kind that answers nothing are discarded and counted by their owners (R105, R118). A head link's frame is discarded in STARTING
and for a DISABLED head (R22, R25); a frame of another kind and a SEGMENT that is not well formed are counted malformed, a
segment of no slot stray, and a segment of a head that has sent LAST late, with no other effect; a segment of a closed scan is
counted late and leaves SCAN_LATE pending, and its LAST, if any, joins the LAST set and, before the scan deadline, makes the
head UP with miss count 0 (R25, R26). -/
def Obligations.BadFramesDiscarded : Prop :=
  (∀ (l : Link) (bytes : List Byte) (s : State), beginsFrame bytes = true →
      (judgeBytes bytes = .bad →
        exec (.badFrame l bytes) s =
          .next
            { s with
              links := s.links.set (linkIndex l)
                { held := hunt (bytes ++ (s.links.get (linkIndex l)).held.drop bytes.length).tail
                  discarded := min ((s.links.get (linkIndex l)).discarded + 1) 65535 } })
      ∧ (judgeBytes bytes = .incomplete →
        exec (.frameByteTimeout l bytes) s =
          .next
            { s with
              links := s.links.set (linkIndex l)
                { held := hunt (bytes ++ (s.links.get (linkIndex l)).held.drop bytes.length).tail
                  discarded := min ((s.links.get (linkIndex l)).discarded + 1) 65535 } }))
    ∧ (∀ (kind : Byte) (payload : List Byte) (s : State), s.tracker.line ≠ .starting →
        ¬((kind = 0x71 ∧ payload.length = 2) ∨ (kind = 0x72 ∧ payload.length = 6) ∨ (kind = 0x73 ∧ payload.length = 2)) →
        exec (.logFrameDiscard kind payload) s =
          .next { s.received .log payload with lane := { s.lane with discards := min (s.lane.discards + 1) 65535 } })
    ∧ (∀ (kind : Byte) (payload : List Byte) (s : State),
        kind ≠ 0x62 → kind ≠ 0x64 → kind ≠ 0x65 → kind ≠ 0x66 →
        exec (.busFrameDiscarded kind payload) s =
          .next { s.received .sawBus payload with saw := { s.saw with discarded := min (s.saw.discarded + 1) 65535 } })
    ∧ ∀ (h : Fin 4) (kind : Byte) (payload : List Byte) (s : State),
        let got := s.received (.head h) payload
        ((s.tracker.line = .starting ∨ (s.scan.heads.get h).status = .disabled) →
            exec (.segment h kind payload) s = .next got)
          ∧ (s.tracker.line ≠ .starting → (s.scan.heads.get h).status ≠ .disabled →
            (kind ≠ 0x22 ∨ readSegment payload = none →
              exec (.segment h kind payload) s =
                .next { got with scan := { s.scan with malformed := min (s.scan.malformed + 1) 65535 } })
            ∧ ∀ g : SegmentData, kind = 0x22 → readSegment payload = some g →
              (s.slot? g.tag = none →
                exec (.segment h kind payload) s =
                  .next { got with scan := { s.scan with stray := min (s.scan.stray + 1) 65535 } })
              ∧ ∀ x : Slot, s.slot? g.tag = some x →
                (x.scan.last.get h = true →
                  exec (.segment h kind payload) s =
                    .next { got with scan := { s.scan with late := min (s.scan.late + 1) 65535 } })
                ∧ (x.scan.last.get h = false → x.scan.status ≠ .open →
                  ∃ t, exec (.segment h kind payload) s = .next t ∧ t.isPending .scanLate = true
                    ∧ t.tracker.ring =
                        (s.tracker.ring.map fun y =>
                          if y.tag = g.tag ∧ g.last = true then
                            { y with scan := { y.scan with last := y.scan.last.set h true } }
                          else y)
                    ∧ t.scan =
                        { s.scan with
                          late := min (s.scan.late + 1) 65535
                          heads :=
                            if g.last = true ∧ x.scan.deadlinePassed = false then
                              s.scan.heads.set h { status := .up, misses := 0 }
                            else s.scan.heads }
                    ∧ { t with tracker := { t.tracker with ring := s.tracker.ring }, scan := s.scan, ctl := s.ctl,
                               field := s.field, links := s.links } = s))

/-- The 18 requests of the control link with their kinds (section 11.2), each with one frame tag and one payload. -/
def Sys2Proof.hostRequests (frameTag : Byte) (payload : List Byte) : List (Byte × Instr) :=
  [ (0x01, .identify frameTag payload), (0x02, .status frameTag payload), (0x03, .causes frameTag payload),
    (0x04, .clearCauses frameTag payload), (0x05, .alertMask frameTag payload), (0x06, .tableRead frameTag payload),
    (0x07, .tableWrite frameTag payload), (0x08, .imageLoad frameTag payload), (0x09, .imageSave frameTag payload),
    (0x0A, .openRun frameTag payload), (0x0B, .boardCutover frameTag payload), (0x0C, .tallyRead frameTag payload),
    (0x0D, .runRelease frameTag payload), (0x0E, .pieceQuery frameTag payload), (0x0F, .outputForce frameTag payload),
    (0x10, .outputRelease frameTag payload), (0x11, .lineClear frameTag payload), (0x12, .restart frameTag payload) ]

/-- A payload length agrees with a request kind (section 11.2; for TABLE WRITE 2 bytes or more, R171). -/
def Sys2Proof.lengthAgrees (kind : Byte) (n : Nat) : Prop :=
  if kind = 0x07 then 2 ≤ n
  else if kind ∈ [0x02, 0x0A, 0x10] then n = 1
  else if kind ∈ [0x04, 0x05, 0x06, 0x0D, 0x0E, 0x0F] then n = 2
  else if kind = 0x0C then n = 3
  else n = 0

/-- The nine requests of a console link (section 11.5), each with one frame tag and one payload. -/
def Sys2Proof.consoleRequests (c : Fin 4) (frameTag : Byte) (payload : List Byte) : List Instr :=
  [ .subscribe c frameTag payload, .unsubscribe c frameTag payload, .claim c frameTag payload,
    .release c frameTag payload, .mark c frameTag payload, .forceGrade c frameTag payload,
    .forceLength c frameTag payload, .forceScrap c frameTag payload, .clearOverrides c frameTag payload ]

/-- A frame refused or turned away changes nothing but its reply, or its count. Any request of the control link: while 8 replies
wait it is discarded and counted (R164); else while another is in process BUSY, STATUS and TABLE_READ during an IMAGE LOAD by
request too (DEDUCED, notes/assumptions/35.md); else BAD_KIND for a kind outside 0x01 to 0x12, and BAD_LENGTH for a length that
does not agree with its kind (R163); else in STARTING BUSY, but for IDENTIFY and STATUS (R165). Any frame of a console:
discarded and counted while 8 replies wait there (R80); else BAD_VALUE with no tag for a kind outside 0x41 to 0x49 and for a
length that does not agree with its kind (R79; the tag absent is sent as 0: notes/assumptions/40.md). A request on a piece is
refused by the first check of R85 that fails: BAD_VALUE for an operand out of range, NO_SUCH, EMPTY_LUG, NOT_YET, LATE; then a
CLAIM is refused HELD or CLAIM_LIMIT (R86), and any other NOT_CLAIMED or HELD (R87), a MARK MARK_LIMIT with 4 marks or NO_SPAN
with no cell below the extent (R89), a FORCE_LENGTH NO_SPAN with no gap-free span of that length (R91). -/
def Obligations.RefusedFramesChangeNothing : Prop :=
  (∀ (frameTag : Byte) (payload : List Byte) (s : State),
      let refused := fun kind code : Byte =>
        (.next (s.answered payload { kind := 0xFF, tag := frameTag, payload := [kind, code] }) :
          Host.Outcome State Fault Refusal)
      let discarded : Host.Outcome State Fault Refusal :=
        .next
          { s with
            links := s.links.set 0
              { held := hunt ((s.links.get 0).held.drop (payload.length + 6))
                discarded := min ((s.links.get 0).discarded + 1) 65535 } }
      (∀ kind : Byte, kind.toNat = 0 ∨ 0x12 < kind.toNat →
          (8 ≤ s.ctl.replies.length → exec (.requestBadKind kind frameTag payload) s = discarded)
            ∧ (s.ctl.replies.length < 8 → s.ctl.inProcess.isSome = true →
                exec (.requestBadKind kind frameTag payload) s = refused kind 5)
            ∧ (s.portReady → exec (.requestBadKind kind frameTag payload) s = refused kind 1))
        ∧ ∀ p ∈ hostRequests frameTag payload,
          (8 ≤ s.ctl.replies.length → exec p.2 s = discarded)
            ∧ (s.ctl.replies.length < 8 → s.ctl.inProcess.isSome = true → exec p.2 s = refused p.1 5)
            ∧ (s.portReady → ¬lengthAgrees p.1 payload.length → exec p.2 s = refused p.1 2)
            ∧ (s.portReady → lengthAgrees p.1 payload.length → s.tracker.line = .starting → p.1 ≠ 0x01 → p.1 ≠ 0x02 →
                exec p.2 s = refused p.1 5))
    ∧ (∀ (c : Fin 4) (frameTag : Byte) (payload : List Byte) (s : State),
        let discarded : Host.Outcome State Fault Refusal :=
          .next
            { s with
              links := s.links.set (linkIndex (.console c))
                { held := hunt ((s.links.get (linkIndex (.console c))).held.drop (payload.length + 6))
                  discarded := min ((s.links.get (linkIndex (.console c))).discarded + 1) 65535 } }
        let badValue : Host.Outcome State Fault Refusal :=
          .next
            { s.received (.console c) payload with
              consoles := s.consoles.set c
                { s.consoles.get c with
                  queue := (s.consoles.get c).queue
                    ++ [.reply { kind := 0x4F, tag := frameTag, payload := [0, 0, 0, 10] }] } }
        (8 ≤ (s.consoles.get c).repliesWaiting → ∀ i ∈ consoleRequests c frameTag payload, exec i s = discarded)
          ∧ (s.consoleReady c → ∀ p ∈ [0, 0, 2, 2, 5, 3, 3, 2, 2].zip (consoleRequests c frameTag payload),
              payload.length ≠ p.1 → exec p.2 s = badValue)
          ∧ ∀ kind : Byte, kind.toNat < 0x41 ∨ 0x49 < kind.toNat →
            (8 ≤ (s.consoles.get c).repliesWaiting → exec (.consoleFrameBadKind c kind frameTag payload) s = discarded)
              ∧ (s.consoleReady c → exec (.consoleFrameBadKind c kind frameTag payload) s = badValue))
    ∧ ∀ (c : Fin 4) (frameTag hi lo : Byte) (s : State), s.consoleReady c →
        let refused := fun (operands : List Byte) (code : Byte) =>
          (.next
            { s.received (.console c) (hi :: lo :: operands) with
              consoles := s.consoles.set c
                { s.consoles.get c with
                  queue := (s.consoles.get c).queue
                    ++ [.reply { kind := 0x4F, tag := frameTag, payload := [1, hi, lo, code] }] } } :
            Host.Outcome State Fault Refusal)
        (∀ f l g : Byte, (l.toNat < f.toNat ∨ 89 < l.toNat ∨ g.toNat = 0 ∨ 7 < g.toNat) →
            exec (.mark c frameTag [hi, lo, f, l, g]) s = refused [f, l, g] 10)
          ∧ (∀ g : Byte, (g.toNat = 0 ∨ 7 < g.toNat) → exec (.forceGrade c frameTag [hi, lo, g]) s = refused [g] 10)
          ∧ (∀ n : Byte, (n.toNat = 0 ∨ 15 < n.toNat) → exec (.forceLength c frameTag [hi, lo, n]) s = refused [n] 10)
          ∧ ∀ f l g k n : Byte, f.toNat ≤ l.toNat → l.toNat ≤ 89 → 1 ≤ g.toNat → g.toNat ≤ 7 → 1 ≤ k.toNat →
              k.toNat ≤ 7 → 1 ≤ n.toNat → n.toNat ≤ 15 →
              let claims : List (List Byte × Instr) := [([], .claim c frameTag [hi, lo])]
              let changes : List (List Byte × Instr) :=
                [ ([], .release c frameTag [hi, lo]), ([f, l, g], .mark c frameTag [hi, lo, f, l, g]),
                  ([k], .forceGrade c frameTag [hi, lo, k]), ([n], .forceLength c frameTag [hi, lo, n]),
                  ([], .forceScrap c frameTag [hi, lo]), ([], .clearOverrides c frameTag [hi, lo]) ]
              (s.slot? (word hi lo) = none → ∀ p ∈ claims ++ changes, exec p.2 s = refused p.1 1)
                ∧ ∀ x, s.slot? (word hi lo) = some x →
                  (x.kind = .empty → ∀ p ∈ claims ++ changes, exec p.2 s = refused p.1 2)
                    ∧ (x.kind ≠ .empty → x.console.window = .before → ∀ p ∈ claims ++ changes, exec p.2 s = refused p.1 3)
                    ∧ (x.kind ≠ .empty → x.console.window = .closed → ∀ p ∈ claims ++ changes, exec p.2 s = refused p.1 4)
                    ∧ (x.kind ≠ .empty → x.console.window = .open →
                        (∀ d : Fin 4, x.console.holder = some d → d ≠ c →
                            ∀ p ∈ claims ++ changes, exec p.2 s = refused p.1 5)
                          ∧ (x.console.holder = none → 2 ≤ (s.claims c).length →
                              ∀ p ∈ claims, exec p.2 s = refused p.1 6)
                          ∧ (x.console.holder = none → ∀ p ∈ changes, exec p.2 s = refused p.1 7)
                          ∧ (x.console.holder = some c →
                              (4 ≤ x.console.overrides.marks.length →
                                  exec (.mark c frameTag [hi, lo, f, l, g]) s = refused [f, l, g] 8)
                                ∧ (x.console.overrides.marks.length < 4 → (∀ e, x.scan.extent = some e → e ≤ f.toNat) →
                                    exec (.mark c frameTag [hi, lo, f, l, g]) s = refused [f, l, g] 9)
                                ∧ ((∀ e a, x.scan.extent = some e → a + n.toNat < s.geo.saws →
                                      (a + n.toNat) * s.geo.pitch ≤ e →
                                      ∃ j, a * s.geo.pitch ≤ j ∧ j < (a + n.toNat) * s.geo.pitch
                                        ∧ x.scan.cells[j]? = some .empty) →
                                    exec (.forceLength c frameTag [hi, lo, n]) s = refused [n] 9)))

/-! ## The chain and the line state -/

/-- A count of the board-chain encoder that makes no advance. CHAIN_FORWARD_COUNT in RUNNING adds 1 to pos and restarts the
stop timer (R1, R7); in STOPPED it adds 1 to pos and to the run-up count, and a run-up count that reaches K/16 makes the line
RUNNING with the stop timer started (R6), the run-up count staying in RUNNING at the value it reached (DESIGN CHOICE,
notes/assumptions/41.md). CHAIN_REVERSE_COUNT takes 1 from pos and, in STOPPED, from the run-up count, each held at 0. In
STARTING either count is discarded. The phase pins turn, phase A ahead for a forward count, in STARTING too (DEDUCED,
notes/assumptions/30.md). STOP_TIMER_EXPIRY of a running timer makes the line STOPPED with run-up count 0, the timer stopped
and the lug-rate record empty (R6 to R8). -/
def Obligations.CountsMoveTheChain : Prop :=
  (∀ s : State, s.tracker.line = .running → s.tracker.pos + 1 < s.geo.windowEnd →
      exec .chainForwardCount s =
        .next
          { s with
            tracker :=
              { s.tracker with
                phaseA := !s.tracker.phaseB
                phaseB := s.tracker.phaseA
                pos := s.tracker.pos + 1
                stopTimer := some (2 * s.geo.stopTime) } })
    ∧ (∀ s : State, s.tracker.line = .stopped → s.tracker.pos + 1 < s.geo.windowEnd →
        exec .chainForwardCount s =
          .next
            { s with
              tracker :=
                { s.tracker with
                  phaseA := !s.tracker.phaseB
                  phaseB := s.tracker.phaseA
                  pos := s.tracker.pos + 1
                  runUp := s.tracker.runUp + 1
                  line := if s.geo.lugPitch / 16 ≤ s.tracker.runUp + 1 then .running else .stopped
                  stopTimer :=
                    if s.geo.lugPitch / 16 ≤ s.tracker.runUp + 1 then some (2 * s.geo.stopTime)
                    else s.tracker.stopTimer } })
    ∧ (∀ s : State, s.tracker.line ≠ .starting →
        exec .chainReverseCount s =
          .next
            { s with
              tracker :=
                { s.tracker with
                  phaseA := s.tracker.phaseB
                  phaseB := !s.tracker.phaseA
                  pos := s.tracker.pos - 1
                  runUp := if s.tracker.line = .stopped then s.tracker.runUp - 1 else s.tracker.runUp } })
    ∧ (∀ s : State, s.tracker.line = .starting →
        exec .chainForwardCount s =
            .next { s with tracker := { s.tracker with phaseA := !s.tracker.phaseB, phaseB := s.tracker.phaseA } }
          ∧ exec .chainReverseCount s =
            .next { s with tracker := { s.tracker with phaseA := s.tracker.phaseB, phaseB := !s.tracker.phaseA } })
    ∧ ∀ (left : Nat) (s : State), s.tracker.stopTimer = some left →
        exec .stopTimerExpiry s =
          .next
            { s with
              tracker := { s.tracker with line := .stopped, runUp := 0, stopTimer := none, advanceTimes := [] } }

/-- A lug pulse (FILTER_TIMER_EXPIRY of the input bound to LUG, going active) at pos K-W or more outside STARTING makes a sensed
advance: the ring moves on with a new slot without LUG_SYNTH, pos becomes 0 and the last-advance record SENSED (R3, R9, R10,
R12). The new slot is as created: UNDECIDED, its cells UNSEEN, the heads that are UP expected, and its TRIGGER is sent to every
head not DISABLED (R23); the time of the advance is recorded (R8), by the model's clock (notes/assumptions/1.md). The tables,
the image controller, the Lane and the inputs but this one are as before. -/
def Obligations.LugPulseMakesSensedAdvance : Prop :=
  ∀ (i : Fin 8) (left : Nat) (s : State), s.Inv → s.tracker.line ≠ .starting →
    (s.tables.inputs.get i).function = .lug → (s.field.inputs.get i).timer = some left →
    rawLevel (s.tables.inputs.get i) (s.field.inputs.get i) = true →
    s.geo.lugPitch - s.geo.halfWidth ≤ s.tracker.pos →
    ∃ t, exec (.filterTimerExpiry i) s = .next t ∧ t.tracker.pos = 0 ∧ t.tracker.lastAdvance = .sensed
      ∧ s.advancedTo t false ∧ t.tracker.line = s.tracker.line
      ∧ t.tables = s.tables ∧ t.store = s.store ∧ t.lane = s.lane
      ∧ t.field.inputs = s.field.inputs.set i { s.field.inputs.get i with filtered := true, timer := none }

/-- The forward count that brings pos to K+W outside STARTING makes a synthesized advance: the ring moves on with a new slot
that carries LUG_SYNTH, pos becomes W, the last-advance record SYNTHESIZED and unmatched, and LUG_MISSED pending (R4). The new
slot is as created, its TRIGGER sent to every head not DISABLED (R10, R23), and the time of the advance recorded (R8), by the
model's clock (notes/assumptions/1.md). The count turns the phase pins and acts on the line state as any forward count (R1):
in RUNNING it restarts the stop timer (R7); in STOPPED it adds 1 to the run-up count, which at K/16 makes the line RUNNING and
starts the timer (R6). In RUNNING the run-up count stays at the value it reached (DESIGN CHOICE, notes/assumptions/41.md). -/
def Obligations.MissedLugMakesSynthesizedAdvance : Prop :=
  ∀ s : State, s.Inv → s.tracker.line ≠ .starting → s.tracker.pos + 1 = s.geo.windowEnd →
    ∃ t, exec .chainForwardCount s = .next t ∧ t.tracker.pos = s.geo.halfWidth
      ∧ t.tracker.lastAdvance = .synthesized false ∧ t.isPending .lugMissed = true
      ∧ (t.tracker.phaseA, t.tracker.phaseB) = (!s.tracker.phaseB, s.tracker.phaseA)
      ∧ (s.tracker.line = .running →
          (t.tracker.line, t.tracker.runUp, t.tracker.stopTimer) =
            (.running, s.tracker.runUp, some (2 * s.geo.stopTime)))
      ∧ (s.tracker.line = .stopped →
          (t.tracker.line, t.tracker.runUp, t.tracker.stopTimer) =
            if s.geo.lugPitch / 16 ≤ s.tracker.runUp + 1 then
              (.running, s.tracker.runUp + 1, some (2 * s.geo.stopTime))
            else (.stopped, s.tracker.runUp + 1, s.tracker.stopTimer))
      ∧ s.advancedTo t true ∧ t.tables = s.tables ∧ t.store = s.store ∧ t.lane = s.lane
      ∧ t.field.inputs = s.field.inputs

/-- A lug pulse in STARTING is discarded (R2, R5). One below pos K-W makes no advance: at pos W or less after an unmatched
synthesized advance it is a late pulse, which sets pos to 0 and the matched mark; otherwise it is extra and only raises
LUG_EXTRA (R3). A raise of a clear cause makes it pending and asks for one CAUSE report with its number and the pending set; one
of a pending cause changes nothing (R168). A report takes the next report number and joins the tail; while 64 wait it is dropped
and counted, its number used, and REPORT_OVERFLOW raised, whose own report is dropped too (R167). So it is of LUG_EXTRA, and of
every cause and report that a block raises or asks for. -/
def Obligations.LateAndExtraPulsesMoveNothing : Prop :=
  (∀ (i : Fin 8) (left : Nat) (s : State),
    (s.tables.inputs.get i).function = .lug → (s.field.inputs.get i).timer = some left →
    rawLevel (s.tables.inputs.get i) (s.field.inputs.get i) = true →
    let taken :=
      { s with
        field :=
          { s.field with
            inputs := s.field.inputs.set i { s.field.inputs.get i with filtered := true, timer := none } } }
    (s.tracker.line = .starting → exec (.filterTimerExpiry i) s = .next taken)
      ∧ (s.tracker.line ≠ .starting → s.tracker.pos < s.geo.lugPitch - s.geo.halfWidth →
          (s.tracker.pos ≤ s.geo.halfWidth → s.tracker.lastAdvance = .synthesized false →
            exec (.filterTimerExpiry i) s =
              .next { taken with tracker := { s.tracker with pos := 0, lastAdvance := .synthesized true } })
          ∧ (¬(s.tracker.pos ≤ s.geo.halfWidth ∧ s.tracker.lastAdvance = .synthesized false) →
            (s.isPending .lugExtra = true → exec (.filterTimerExpiry i) s = .next taken)
              ∧ ∃ t, exec (.filterTimerExpiry i) s = .next t ∧ t.isPending .lugExtra = true
                ∧ s.ctl.causeRaised t.ctl .lugExtra ∧ (s.isPending .lugExtra = false → t.outputsJudged)
                ∧ t.field.inputs = taken.field.inputs ∧ { t with ctl := s.ctl, field := s.field } = s)))
    ∧ ∀ s : State,
        (∀ x : Cause, s.ctl.causeRaised (s.raise x).ctl x
          ∧ (s.raise x).field.inputs = s.field.inputs ∧ { s.raise x with ctl := s.ctl, field := s.field } = s)
        ∧ ∀ (kind : Byte) (payload : List Byte), s.ctl.reportAsked (s.report kind payload).ctl kind payload
          ∧ (s.report kind payload).outputsJudged ∧ (s.report kind payload).field.inputs = s.field.inputs
          ∧ { s.report kind payload with ctl := s.ctl, field := s.field } = s

/-! ## Inputs -/

/-- INPUT_RAW_CHANGE to another level: a raw level back at the filtered state stops the filter timer; one that differs starts it
with the entry's filter time, and with a filter time of 0 the change is recognised at once: the command does what
FILTER_TIMER_EXPIRY does after it (R152, R153). A pin already at that level makes no change. -/
def Obligations.RawChangeRunsTheFilter : Prop :=
  (∀ (i : Fin 8) (high : Bool) (s : State), (s.field.inputs.get i).pin = high → exec (.inputRawChange i high) s = .next s)
    ∧ ∀ (i : Fin 8) (high : Bool) (s : State), (s.field.inputs.get i).pin ≠ high →
    (rawLevel (s.tables.inputs.get i) { s.field.inputs.get i with pin := high } = (s.field.inputs.get i).filtered →
      exec (.inputRawChange i high) s =
        .next
          { s with
            field :=
              { s.field with
                inputs := s.field.inputs.set i { s.field.inputs.get i with pin := high, timer := none } } })
    ∧ (rawLevel (s.tables.inputs.get i) { s.field.inputs.get i with pin := high } ≠ (s.field.inputs.get i).filtered →
      (s.tables.inputs.get i).filter = 0 →
      exec (.inputRawChange i high) s =
        exec (.filterTimerExpiry i)
          { s with
            field :=
              { s.field with
                inputs := s.field.inputs.set i { s.field.inputs.get i with pin := high, timer := some 0 } } })
    ∧ (rawLevel (s.tables.inputs.get i) { s.field.inputs.get i with pin := high } ≠ (s.field.inputs.get i).filtered →
      (s.tables.inputs.get i).filter ≠ 0 →
      exec (.inputRawChange i high) s =
        .next
          { s with
            field :=
              { s.field with
                inputs :=
                  s.field.inputs.set i
                    { s.field.inputs.get i with pin := high, timer := some (s.tables.inputs.get i).filter } } })

/-- FILTER_TIMER_EXPIRY: the filtered state takes the raw level and the timer stops. A change to INACTIVE, and any change of an
input bound to NONE or GENERAL, does nothing more; the board eye going ACTIVE sets the eye flag of the slot at offset 0 (R11);
TRIM_INHIBIT going ACTIVE makes INHIBIT_ACTIVE pending (R104, R153). -/
def Obligations.FilterExpiryIsAnnounced : Prop :=
  ∀ (i : Fin 8) (left : Nat) (s : State), (s.field.inputs.get i).timer = some left →
    ((rawLevel (s.tables.inputs.get i) (s.field.inputs.get i) = false
        ∨ (s.tables.inputs.get i).function = .none ∨ (s.tables.inputs.get i).function = .general) →
      exec (.filterTimerExpiry i) s =
        .next
          { s with
            field :=
              { s.field with
                inputs :=
                  s.field.inputs.set i
                    { s.field.inputs.get i with
                      filtered := rawLevel (s.tables.inputs.get i) (s.field.inputs.get i)
                      timer := none } } })
    ∧ (rawLevel (s.tables.inputs.get i) (s.field.inputs.get i) = true → (s.tables.inputs.get i).function = .boardEye →
      exec (.filterTimerExpiry i) s =
        .next
          { s with
            field :=
              { s.field with
                inputs := s.field.inputs.set i { s.field.inputs.get i with filtered := true, timer := none } }
            tracker :=
              { s.tracker with
                ring := s.tracker.ring.map fun x => if x.offset = 0 then { x with eye := true } else x } })
    ∧ (rawLevel (s.tables.inputs.get i) (s.field.inputs.get i) = true →
      (s.tables.inputs.get i).function = .trimInhibit →
      ∃ t, exec (.filterTimerExpiry i) s = .next t ∧ t.isPending .inhibitActive = true ∧ t.inhibitActive = true
        ∧ t.field.inputs = s.field.inputs.set i { s.field.inputs.get i with filtered := true, timer := none }
        ∧ { t with ctl := s.ctl, field := s.field } = s)

/-! ## Scans -/

/-- A SEGMENT that is not malformed and not marked LAST, from an enabled head outside STARTING, for a slot whose scan is OPEN
and that this head has not ended: entry k is merged into the line cell of local cell first + k, and no other cell, slot or block
changes (R21, R25 to R27). Which payloads are not malformed, and what they carry: 5 bytes and 1 to 16 entries of 9 bytes, each
status 0 or 1, every measure above its range taken as the greatest of its range (R25). -/
def Obligations.SegmentMergesItsCells : Prop :=
  (∀ (h : Fin 4) (payload : List Byte) (g : SegmentData) (x : Slot) (s : State), s.Inv →
    s.tracker.line ≠ .starting → (s.scan.heads.get h).status ≠ .disabled → readSegment payload = some g → g.last = false →
    s.slot? g.tag = some x → x.scan.last.get h = false → x.scan.status = .open →
    ∃ cells : List Cell,
      exec (.segment h 0x22 payload) s =
          .next ((s.received (.head h) payload).setRing
            (s.tracker.ring.map fun y => if y.tag = g.tag then y.withCells cells else y))
        ∧ (s.tables.heads.get h).merges g x.scan.cells cells)
    ∧ (∀ (payload : List Byte) (g : SegmentData), readSegment payload = some g →
        payload.length = 5 + 9 * g.entries.length ∧ 1 ≤ g.entries.length ∧ g.entries.length ≤ 16
          ∧ ∀ k : Nat, k < g.entries.length → payload[5 + 9 * k]? = some 0 ∨ payload[5 + 9 * k]? = some 1)
    ∧ ∀ (hi lo first count flags : Byte) (body : List Byte), 1 ≤ count.toNat → count.toNat ≤ 16 →
        body.length = 9 * count.toNat → (∀ k : Nat, k < count.toNat → body[9 * k]? = some 0 ∨ body[9 * k]? = some 1) →
        ∃ g, readSegment (hi :: lo :: first :: count :: flags :: body) = some g
          ∧ (g.tag, g.first, g.last) = (word hi lo, first.toNat, flags.getLsbD 0) ∧ g.entries.length = count.toNat
          ∧ ∀ (k : Nat) (st t1 t0 w1 w0 n1 n0 knot defects : Byte) (rest : List Byte), k < count.toNat →
              body.drop (9 * k) = [st, t1, t0, w1, w0, n1, n0, knot, defects] ++ rest →
              g.entries[k]? =
                some
                  (if st = 0 then .empty
                  else
                    .present
                      { thickness := min 2000 (word t1 t0), width := min 4500 (word w1 w0), wane := min 4500 (word n1 n0),
                        knot := knot.toNat, split := defects.getLsbD 0, decay := defects.getLsbD 1 })

/-- How a scan closes. A LAST segment of an OPEN scan, before the scan deadline, has its entries merged, puts its head into the
LAST set and makes it UP with miss count 0; where the expected set is not empty and now answered whole, the scan is COMPLETE
with its extent fixed, NO_PROFILE set at a BOARD slot without extent, and a BOARD slot handed over, QUEUED with generation 0 and
no solution (R26, R29, R32, R33, R50). No other slot or block changes. A slot that arrives at SD at a lug pulse, the slots ahead
of it having passed SD, has its deadline passed: an OPEN scan becomes CLOSED_PARTIAL with SCAN_PARTIAL and its extent fixed, and
a BOARD slot is handed over; a COMPLETE one stays (R30). Each head expected that has not sent LAST and is not DISABLED counts a
miss, so one disabled and enabled again since the slot was created too (DESIGN CHOICE, notes/assumptions/37.md), the third
bringing an UP head DOWN with HEAD_DOWN pending (R31). -/
def Obligations.LastSegmentClosesTheScan : Prop :=
  (∀ (h : Fin 4) (payload : List Byte) (g : SegmentData) (x : Slot) (s : State), s.Inv →
    s.tracker.line ≠ .starting → (s.scan.heads.get h).status ≠ .disabled → readSegment payload = some g → g.last = true →
    s.slot? g.tag = some x → x.scan.last.get h = false → x.scan.status = .open → x.scan.deadlinePassed = false →
    ∃ t y, exec (.segment h 0x22 payload) s = .next t
      ∧ t.tracker.ring = (s.tracker.ring.map fun z => if z.tag = g.tag then y else z)
      ∧ { y with scan := x.scan, solve := x.solve } = x
      ∧ t.scan = { s.scan with heads := s.scan.heads.set h { status := .up, misses := 0 } }
      ∧ { t with tracker := { t.tracker with ring := s.tracker.ring }, scan := s.scan, links := s.links } = s
      ∧ (s.tables.heads.get h).merges g x.scan.cells y.scan.cells
      ∧ y.scan.last = x.scan.last.set h true ∧ y.scan.expected = x.scan.expected
      ∧ (y.scan.scanPartial, y.scan.deadlinePassed) = (x.scan.scanPartial, x.scan.deadlinePassed)
      ∧ (y.scan.status = .complete ↔
          (∃ d : Fin 4, x.scan.expected.get d = true)
            ∧ ∀ d : Fin 4, x.scan.expected.get d = true → d = h ∨ x.scan.last.get d = true)
      ∧ (y.scan.status = .complete →
          extentIs y.scan.cells y.scan.extent
          ∧ (y.scan.noProfile = true ↔ x.scan.noProfile = true ∨ x.kind = .board ∧ y.scan.extent = none)
          ∧ (x.kind = .board →
              y.solve = some { status := .queued, solution := none, reSolve := false, generation := 0 }))
      ∧ (y.scan.status ≠ .complete →
          y.scan.status = .open ∧ y.solve = x.solve ∧ y.scan.noProfile = x.scan.noProfile
            ∧ y.scan.extent = x.scan.extent))
    ∧ ∀ (i : Fin 8) (left : Nat) (x : Slot) (s : State), s.Inv → s.lugDue i left → x ∈ s.tracker.ring →
        x.offset + 1 = s.geo.sd → Station.sd ∉ x.passed →
        (∀ z ∈ s.tracker.ring, x.offset < z.offset → Station.sd ∈ z.passed) →
        ∃ t y, exec (.filterTimerExpiry i) s = .next t ∧ y ∈ t.tracker.ring ∧ y.tag = x.tag
          ∧ y.scan.deadlinePassed = true ∧ y.scan.cells = x.scan.cells
          ∧ y.scan.expected = x.scan.expected ∧ y.scan.last = x.scan.last
          ∧ (x.scan.status = .open →
              y.scan.status = .closedPartial ∧ y.scan.scanPartial = true ∧ extentIs y.scan.cells y.scan.extent
                ∧ (y.kind = .board →
                    y.solve = some { status := .queued, solution := none, reSolve := false, generation := 0 }))
          ∧ (x.scan.status ≠ .open →
              (y.scan.status, y.scan.scanPartial, y.scan.extent) = (x.scan.status, x.scan.scanPartial, x.scan.extent))
          ∧ (∀ h : Fin 4, Head.afterDeadline x.scan h (s.scan.heads.get h) (t.scan.heads.get h))
          ∧ ((∃ h : Fin 4, (s.scan.heads.get h).status = .up ∧ (t.scan.heads.get h).status = .down) →
              t.isPending .headDown = true)

/-- R27: what a cell becomes when an entry is merged into it, and that the order in which the entries of a set arrive does not
matter. -/
def Obligations.MergeKeepsTheWorse : Prop :=
  mergeCell .unseen .empty = .empty ∧ (∀ d, mergeCell .unseen (.present d) = .present d)
    ∧ mergeCell .empty .empty = .empty ∧ (∀ d, mergeCell .empty (.present d) = .present d)
    ∧ (∀ c, mergeCell (.present c) .empty = .present c)
    ∧ (∀ c d, mergeCell (.present c) (.present d) =
        .present
          { thickness := min c.thickness d.thickness, width := min c.width d.width, wane := max c.wane d.wane,
            knot := max c.knot d.knot, split := c.split || d.split, decay := c.decay || d.decay })
    ∧ ∀ (c : Cell) (es fs : List Cell), es.Perm fs → es.foldl mergeCell c = fs.foldl mergeCell c

/-! ## Solving -/

/-- SOLVE_START with the engine IDLE and no write held takes the queued piece at the highest offset: its status becomes SOLVING
and the engine BUSY with the inputs as they stand, and nothing else changes (R39, R51). -/
def Obligations.SolveStartTakesTheNearest : Prop :=
  ∀ (x : Slot) (s : State), s.Inv → s.solver.engine = none → s.heldWrite = none → x ∈ s.tracker.ring →
    x.isQueued = true → (∀ y ∈ s.tracker.ring, y.isQueued = true → y.offset ≤ x.offset) →
    exec .solveStart s =
      .next
        { s with
          tracker :=
            { s.tracker with
              ring := s.tracker.ring.map fun y =>
                if y.tag = x.tag then { y with solve := y.solve.map fun r => { r with status := .solving } } else y }
          solver :=
            { s.solver with
              engine := some
                { tag := x.tag, cells := x.scan.cells, extent := x.scan.extent, product := s.productOf x.run,
                  overrides := x.console.overrides, generation := x.generation } } }

/-- SOLVE_COMPLETE stores the solution of the inputs taken at the start, makes the piece SOLVED, or QUEUED again where the
re-solve mark was set, clears the mark and leaves the engine IDLE (R52). Where the piece's window is OPEN, the PROPOSAL of that
new solution is made to every console subscribed: in place of one for the tag still waiting, else at the tail, or dropped and
counted (R80, R83). No other slot, console, table, run or module changes. What the PROPOSAL carries, byte for byte: tag, run,
decision, a, b, grade, length, value, source, the solution's generation, the piece's, the flags, the count and the cell grades
(section 11.5). The solve is computed at this command, from the inputs taken at its start and the tables that R53 holds for it
(notes/assumptions/25.md). -/
def Obligations.SolveCompleteStoresTheSolution : Prop :=
  (∀ (job : SolveJob) (x : Slot) (r : SolveRecord) (s : State), s.Inv → s.solver.engine = some job →
    s.slot? job.tag = some x → x.solve = some r →
    ∃ t, exec .solveComplete s = .next t
      ∧ t.solver = { s.solver with engine := none }
      ∧ t.tracker.ring = (s.tracker.ring.map fun y =>
          if y.tag = job.tag then
            y.withSolve
              { r with
                solution := some (solve s.tables job)
                status := if r.reSolve then .queued else .solved
                reSolve := false }
          else y)
      ∧ (∀ c : Fin 4,
          if (s.consoles.get c).subscribed = true ∧ x.console.window = .open then
            Console.offered job.tag (proposalFrame x (solve s.tables job)) (s.consoles.get c) (t.consoles.get c)
          else t.consoles.get c = s.consoles.get c)
      ∧ t.outputsJudged ∧ t.field.inputs = s.field.inputs
      ∧ { t with tracker := { t.tracker with ring := s.tracker.ring }, solver := s.solver, consoles := s.consoles,
                 field := s.field } = s)
    ∧ ∀ (x : Slot) (r : SolveRecord) (sol : Solution), x.solve = some r →
        (proposalFrame x sol).kind = 0x50 ∧ (proposalFrame x sol).tag = 0
          ∧ (proposalFrame x sol).payload =
              u16 x.tag ++ u16 x.run
                ++ (match sol.keep with
                    | some k =>
                      ([0, u8 k.a, u8 k.b, match k.grade with | .graded g => u8 g | .ungraded => 8, u8 (k.b - k.a)] :
                          List Byte) ++ u16 k.value
                    | none => [1, 0xFF, 0xFF, 0xFF, 0xFF, 0, 0])
                ++ ([match sol.source with | .solver => 0 | .override => 1 | .fallback => 2] : List Byte)
                ++ u16 sol.generation ++ u16 r.generation
                ++ [u8 ((if sol.noSpan then 1 else 0) + (if x.scan.scanPartial then 2 else 0)), u8 sol.cellGrades.length]
                ++ sol.cellGrades.map fun g => (match g with | .gap => 0 | .grade n => u8 n : Byte)

/-- A solve by R40 to R48. Of a piece with extent e: each cell below e has its cell grade: E where it is EMPTY, else that of the
last mark that covers it, else the unseen grade where UNSEEN, else the smallest of 1 to 6 whose limits it meets, or 7 (R40,
R41). A span of two saws is valid as R42 says; its grade is the forced grade, or the smallest of 1 to 6 that its cells qualify
for, or 7 (R43, R44); its value is the price of that grade and length in the product's price set (R45). With forced scrap clear
a valid span is kept, and no valid one is better: greater in value, or equal in value and longer, or equal in both and nearer
the fence (R46); SCRAP with NO_SPAN exactly where no span is valid; forced scrap and an absent extent give SCRAP without NO_SPAN
(R47). The solution carries the generation taken, and source OVERRIDE where a field was in force (R48). An index outside the
tables reads as the default grade set or price 0 (notes/assumptions/26.md); an entry that passed its checks gives none. -/
def Obligations.SolveKeepsTheBestSpan : Prop :=
  (∀ (t : Tables) (job : SolveJob) (e : Nat), job.extent = some e →
    let set := t.gradeSets.items.getD job.product.gradeSet GradeSet.default
    let o := job.overrides
    let pitch := t.geometry.pitch
    let grades := (solve t job).cellGrades
    let valid := fun a b : Nat =>
      b < t.geometry.saws ∧ spanAllowed pitch e job.cells job.product.minLength o.forcedLength a b
    grades.length = min e job.cells.length
      ∧ (∀ (j : Nat) (c : Cell), j < e → job.cells[j]? = some c →
          ∃ g, grades[j]? = some g
            ∧ (c = .empty → g = .gap)
            ∧ (c ≠ .empty →
                match (o.marks.filter fun m => decide (m.first ≤ j ∧ j ≤ m.last)).getLast? with
                | some m => g = .grade m.grade
                | none =>
                  (c = .unseen → g = .grade job.product.unseen)
                    ∧ ∀ d, c = .present d → ∃ n, g = .grade n ∧ firstOfSix (fun i => (set.get i).admitsCell d) n))
      ∧ (o.forcedScrap = true → (solve t job).keep = none ∧ (solve t job).noSpan = false)
      ∧ (o.forcedScrap = false → ∃ gradeOf : Nat → Nat → Nat,
          (∀ a b, valid a b →
            match o.forcedGrade with
            | some g => gradeOf a b = g
            | none =>
              firstOfSix (fun i => (set.get i).admitsSpan i ((grades.drop (a * pitch)).take ((b - a) * pitch)))
                (gradeOf a b))
          ∧ ((solve t job).keep = none ↔ ∀ a b, ¬valid a b)
          ∧ ((solve t job).noSpan = true ↔ (solve t job).keep = none)
          ∧ ∀ k, (solve t job).keep = some k →
              let valueOf := fun a b : Nat =>
                (t.priceRows.items.getD (job.product.priceSet * 7 + gradeOf a b - 1) (Bank.fill 15 0)).items.getD
                  (b - a - 1) 0
              valid k.a k.b ∧ k.grade = .graded (gradeOf k.a k.b) ∧ k.value = valueOf k.a k.b
                ∧ ∀ a b, valid a b →
                    valueOf a b < k.value
                      ∨ (valueOf a b = k.value ∧ (b - a < k.b - k.a ∨ (b - a = k.b - k.a ∧ k.a ≤ a)))))
    ∧ (∀ (t : Tables) (job : SolveJob), job.extent = none →
        ((solve t job).keep, (solve t job).noSpan, (solve t job).cellGrades) = (none, false, []))
    ∧ ∀ (t : Tables) (job : SolveJob),
        (solve t job).generation = job.generation
          ∧ (solve t job).source =
              (if job.overrides = { marks := [], forcedGrade := none, forcedLength := none, forcedScrap := false } then
                .solver else .override)

/-! ## Commit and the saw bus -/

/-- R102: the setting of every saw, DROPPED or RAISED, by the decision and the extent; and so a KEEP pattern never drops a saw
strictly between a and b. -/
def Obligations.PatternFollowsTheDecision : Prop :=
  (∀ (g : Geometry) (extent : Option Nat) (keep : Option Keep), (sawPattern g extent keep).length = g.saws)
    ∧ ∀ (g : Geometry) (keep : Option Keep) (s : Nat), s < g.saws →
        ((sawPattern g none keep)[s]? = some true)
        ∧ (∀ e, e ≤ s * g.pitch → (sawPattern g (some e) keep)[s]? = some false)
        ∧ (∀ e, s * g.pitch < e → keep = none → (sawPattern g (some e) keep)[s]? = some true)
        ∧ ∀ e k, s * g.pitch < e → keep = some k →
            ((s ≤ k.a ∨ k.b ≤ s) → (sawPattern g (some e) keep)[s]? = some true)
              ∧ (k.a < s → s < k.b → (sawPattern g (some e) keep)[s]? = some false)

/-- A BOARD piece whose scan is closed arrives at CM at a lug pulse. Its window closes, its claim ends and its solving is CLOSED
(R56, R88). Its decision is the stored solution, with OVERRIDE_MISSED where that honours another generation than the piece's, or
without a solution the fallback, with SOLVE_OVERRUN (R99, R100). The fallback is SCRAP without extent, under forced scrap or by
the product; else the longest valid span, among equals the nearest the fence, grade U and value 0, or SCRAP with NO_SPAN (R49).
The pattern is the decision's, or under trim inhibit all RAISED and the piece INHIBITED (R104). No PROPOSAL for it is left at a
subscribed console, and a WITHDRAW with reason COMMIT joins where there is room (R84). An exchange in flight ends, its module
ABANDONED (R112); that of this piece begins with module 1, its READ STATE sent, or due once a wait that runs is over (R105,
R106, R109), with the attempt number 1 for a probe too (DESIGN CHOICE, notes/assumptions/39.md). A wait starts at the command
that sends (DESIGN CHOICE, notes/assumptions/3.md). -/
def Obligations.ArrivalAtCommitFixesTheDecision : Prop :=
  ∀ (i : Fin 8) (left : Nat) (x : Slot) (s : State), s.Inv → s.lugDue i left →
    x ∈ s.tracker.ring → x.kind = .board → x.offset + 1 = s.geo.cm → Station.cm ∉ x.passed → x.scan.status ≠ .open →
    ∃ t y c, exec (.filterTimerExpiry i) s = .next t ∧ y ∈ t.tracker.ring ∧ y.tag = x.tag ∧ y.commit = some c
      ∧ y.console.window = .closed ∧ y.console.holder = none ∧ y.solution = x.solution
      ∧ (∃ r, y.solve = some r ∧ r.status = .closed)
      ∧ (∀ sol, x.solution = some sol →
          (c.keep, c.noSpan, c.source, c.generation) = (sol.keep, sol.noSpan, sol.source, some sol.generation)
            ∧ (c.overrideMissed = true ↔ sol.generation ≠ x.generation)
            ∧ (c.overrideMissed = true → t.isPending .overrideMissed = true))
      ∧ (x.solution = none →
          (c.source, c.generation, c.overrideMissed) = (.fallback, none, false) ∧ t.isPending .solveOverrun = true
            ∧ match x.scan.extent with
              | none => (c.keep, c.noSpan) = (none, false)
              | some e =>
                let p := s.productOf x.run
                let o := x.console.overrides
                let valid := fun a b : Nat =>
                  b < s.geo.saws ∧ spanAllowed s.geo.pitch e x.scan.cells p.minLength o.forcedLength a b
                if o.forcedScrap = true ∨ p.fallback = .scrap then (c.keep, c.noSpan) = (none, false)
                else
                  (c.keep = none ↔ ∀ a b, ¬valid a b) ∧ (c.noSpan = true ↔ c.keep = none)
                    ∧ ∀ k, c.keep = some k →
                        valid k.a k.b ∧ (k.grade, k.value) = (.ungraded, 0)
                          ∧ ∀ a b, valid a b → b - a < k.b - k.a ∨ (b - a = k.b - k.a ∧ k.a ≤ a))
      ∧ c.inhibited = s.inhibitActive
      ∧ c.pattern =
          (if s.inhibitActive then List.replicate s.geo.saws false else sawPattern s.geo x.scan.extent c.keep)
      ∧ (c.results, c.masks, c.manualConflict, c.trimMissed, c.trimmed) =
          (Bank.fill 2 .notStarted, Bank.fill 2 none, false, false, false)
      ∧ (∀ n : Fin 4, (s.consoles.get n).subscribed = true →
          (∀ f ∈ (t.consoles.get n).queue, f.isProposalFor x.tag = false)
            ∧ ((s.consoles.get n).offersWaiting + 2 * s.tracker.ring.length ≤ 32 →
                .withdraw x.tag { kind := 0x51, tag := 0, payload := u16 x.tag ++ [1] } ∈ (t.consoles.get n).queue))
      ∧ (∀ (ex : Exchange) (z : Slot) (d : CommitRecord), s.saw.exchange = some ex → z ∈ s.tracker.ring →
          z.tag = ex.tag → z.commit = some d →
          ∀ z' ∈ t.tracker.ring, z'.tag = z.tag →
            ∃ d', z'.commit = some d' ∧ d'.results = d.results.set ex.module .abandoned)
      ∧ (∀ w, s.saw.wait = some w →
          t.saw.exchange = some (s.saw.begun x.tag 0 s.tables.sawBus.timeout .readDue) ∧ t.saw.wait = some w)
      ∧ (s.saw.wait = none →
          (∀ z ∈ s.tracker.ring, x.offset < z.offset → z.kind = .board → Station.cm ∈ z.passed) →
          t.saw.exchange = some (s.saw.begun x.tag 0 s.tables.sawBus.timeout .readState)
            ∧ t.saw.wait = some (2 * s.tables.sawBus.timeout) ∧ t.saw.sent = some (busWire 0x61 [1]))

/-- The exchange with a module. STATE in answer to READ STATE replaces what was last read, makes a probed module ONLINE and
leaves WRITE PATTERN due (R105, R107, R109). WRITE_PATTERN, with every slot beyond CM past TR, sends the module its eight
settings, bit p set where saw 8m+p is fitted and DROPPED, and the sequence number just read (R103, R107). ACK makes the module
ACCEPTED, records its masks, and sets MANUAL_CONFLICT where a manual saw from a to b is not as the pattern has it (R107, R111);
then module 2 of two is begun with READ STATE, attempt number 1 for a probe too (DESIGN CHOICE, notes/assumptions/39.md), or as
the last module it ends the exchange (R106). A wait is started by the command that puts the frame on the bus (DESIGN CHOICE,
notes/assumptions/3.md), and the bus receiver takes the frame sent (R161, notes/assumptions/36.md). -/
def Obligations.ExchangeDeliversThePattern : Prop :=
  (∀ (ex : Exchange) (left : Nat) (mask seq down : Byte) (s : State),
      s.saw.exchange = some ex → ex.phase = .readState → s.saw.wait = some left →
      exec (.state [u8 (ex.module.val + 1), mask, seq, down]) s =
        .next
          { s.received .sawBus [u8 (ex.module.val + 1), mask, seq, down] with
            saw :=
              { s.saw with
                modules :=
                  s.saw.modules.set ex.module
                    { s.saw.modules.get ex.module with
                      lastRead := some { mask := mask, seq := seq, down := down }
                      online := (s.saw.modules.get ex.module).online || ex.probe }
                wait := none
                exchange :=
                  some { ex with phase := .writeDue { mask := mask, seq := seq, down := down }, probe := false } } })
    ∧ (∀ (ex : Exchange) (r : ModuleReading) (x : Slot) (c : CommitRecord) (s : State),
        s.saw.exchange = some ex → ex.phase = .writeDue r → s.slot? ex.tag = some x → x.commit = some c →
        (∀ y ∈ s.tracker.ring, s.geo.cm < y.offset → Station.tr ∈ y.passed) →
        ∃ settings : Byte,
          (∀ p, p < 8 → settings.getLsbD p = c.pattern.getD (8 * ex.module.val + p) false)
            ∧ exec .writePattern s =
              .next
                { s with
                  saw :=
                    { s.saw with
                      exchange := some { ex with phase := .writePattern r }
                      wait := some (2 * ex.timeout)
                      sent := some (busWire 0x63 [u8 (ex.module.val + 1), settings, r.seq]) }
                  links := s.links.modify 9 (·.takeSent (busWire 0x63 [u8 (ex.module.val + 1), settings, r.seq])) })
    ∧ ∀ (ex : Exchange) (r : ModuleReading) (left : Nat) (x : Slot) (c : CommitRecord) (s : State), s.Inv →
        s.saw.exchange = some ex → ex.phase = .writePattern r → s.saw.wait = some left →
        s.slot? ex.tag = some x → x.commit = some c →
        ∃ t d, exec (.ack [u8 (ex.module.val + 1)]) s = .next t
          ∧ { d with results := c.results, masks := c.masks, manualConflict := c.manualConflict } = c
          ∧ d.results = c.results.set ex.module .accepted ∧ d.masks = c.masks.set ex.module (some r)
          ∧ (d.manualConflict = true ↔ c.manualConflict = true ∨ ∃ k p, c.keep = some k ∧ p < 8
              ∧ r.mask.getLsbD p = true ∧ 8 * ex.module.val + p < s.geo.saws
              ∧ k.a ≤ 8 * ex.module.val + p ∧ 8 * ex.module.val + p ≤ k.b
              ∧ r.down.getLsbD p ≠ c.pattern.getD (8 * ex.module.val + p) false)
          ∧ s.moduleEnded t ex d
          ∧ t.saw.modules = s.saw.modules ∧ (∀ l : Fin 11, l ≠ 9 → t.links.get l = s.links.get l)
          ∧ { t with tracker := { t.tracker with ring := s.tracker.ring }, saw := s.saw, links := s.links } = s

/-- How an exchange fails. RETRY and a reply timeout count at the module, and below attempt 3 begin the next attempt with READ
STATE (R107, R108). A third attempt gives TIMED_OUT, the module OFFLINE and MODULE_OFFLINE pending where timeouts alone ended
all three; else, ended by RETRY or by timeout, UNSETTLED (R108). An unanswered probe gives SKIPPED (R109). FAULT records its
code, counts, gives FAULTED and leaves SAW_FAULT pending (R105, R107), with code 0 too, which section 11.4 does not list (DESIGN
CHOICE, notes/assumptions/17.md). After a result the next module is begun (R106), with attempt number 1 for a probe too (DESIGN
CHOICE, notes/assumptions/39.md); a wait starts at the command that sends (DESIGN CHOICE, notes/assumptions/3.md), and the bus
receiver takes the frame sent (R161; DEDUCED, notes/assumptions/36.md). A timeout that ends a wait left over from an abandoned
exchange is counted nowhere (DEDUCED, notes/assumptions/15.md); it only ends the wait, or lets the next exchange send its first
READ STATE (R112). An arrival at TR at a lug pulse, whatever the slot's kind, pulses every output bound to FIRE (R113); a BOARD
piece becomes TRIMMED, its own exchange in flight ends with the module ABANDONED while the wait runs on (R112), and TRIM_MISSED
is set, and pending, where a module is neither ACCEPTED nor SKIPPED (R113). -/
def Obligations.ExchangeFailuresHaveTheirResults : Prop :=
  (∀ (ex : Exchange) (left : Nat) (x : Slot) (c : CommitRecord) (s : State), s.Inv →
    s.saw.exchange = some ex → s.saw.wait = some left → s.slot? ex.tag = some x → x.commit = some c →
    let m := s.saw.modules.get ex.module
    let again := busWire 0x61 [u8 (ex.module.val + 1)]
    let answer := s.received .sawBus [u8 (ex.module.val + 1)]
    let failed := fun (module' : Module) (onlyTimeouts : Bool) =>
      { s.saw with
        modules := s.saw.modules.set ex.module module'
        exchange :=
          some
            { ex with attempt := ex.attempt + 1, phase := .readState, onlyTimeouts := onlyTimeouts, probe := false }
        wait := some (2 * ex.timeout)
        sent := some again }
    let ended := fun (t : State) (r : ModuleResult) =>
      s.moduleEnded t ex { c with results := c.results.set ex.module r }
        ∧ ∀ l : Fin 11, l ≠ 9 → t.links.get l = s.links.get l
    ((∃ r, ex.phase = .writePattern r) → ex.attempt < 3 →
      exec (.retry [u8 (ex.module.val + 1)]) s =
        .next
          { answer with
            links := answer.links.modify 9 (·.takeSent again)
            saw := failed { m with retries := min (m.retries + 1) 65535 } false })
    ∧ ((∃ r, ex.phase = .writePattern r) → ex.attempt = 3 →
      ∃ t, exec (.retry [u8 (ex.module.val + 1)]) s = .next t ∧ ended t .unsettled
        ∧ t.saw.modules = s.saw.modules.set ex.module { m with retries := min (m.retries + 1) 65535 }
        ∧ { t with tracker := { t.tracker with ring := s.tracker.ring }, saw := s.saw, links := s.links } = s)
    ∧ ((ex.phase = .readState ∨ ∃ r, ex.phase = .writePattern r) → ex.probe = false → ex.attempt < 3 →
      exec .replyTimeout s =
        .next
          { s with
            links := s.links.modify 9 (·.takeSent again)
            saw := failed { m with timeouts := min (m.timeouts + 1) 65535 } ex.onlyTimeouts })
    ∧ ((ex.phase = .readState ∨ ∃ r, ex.phase = .writePattern r) → ex.probe = false → ex.attempt = 3 →
      ex.onlyTimeouts = true →
      ∃ t, exec .replyTimeout s = .next t ∧ ended t .timedOut
        ∧ t.saw.modules =
            s.saw.modules.set ex.module { m with timeouts := min (m.timeouts + 1) 65535, online := false }
        ∧ t.isPending .moduleOffline = true
        ∧ { t with tracker := { t.tracker with ring := s.tracker.ring }, saw := s.saw, ctl := s.ctl, field := s.field,
                   links := s.links } = s)
    ∧ ((ex.phase = .readState ∨ ∃ r, ex.phase = .writePattern r) → ex.probe = false → ex.attempt = 3 →
      ex.onlyTimeouts = false →
      ∃ t, exec .replyTimeout s = .next t ∧ ended t .unsettled
        ∧ t.saw.modules = s.saw.modules.set ex.module { m with timeouts := min (m.timeouts + 1) 65535 }
        ∧ { t with tracker := { t.tracker with ring := s.tracker.ring }, saw := s.saw, links := s.links } = s)
    ∧ (ex.phase = .readState → ex.probe = true →
      ∃ t, exec .replyTimeout s = .next t ∧ ended t .skipped
        ∧ t.saw.modules = s.saw.modules.set ex.module { m with timeouts := min (m.timeouts + 1) 65535 }
        ∧ { t with tracker := { t.tracker with ring := s.tracker.ring }, saw := s.saw, links := s.links } = s)
    ∧ ∀ code : Byte, (ex.phase = .readState ∨ ∃ r, ex.phase = .writePattern r) →
      ∃ t, exec (.fault [u8 (ex.module.val + 1), code]) s = .next t ∧ ended t .faulted
        ∧ t.saw.modules =
            s.saw.modules.set ex.module
              { m with
                lastFault := some code
                faults := min (m.faults + 1) 65535
                online := m.online || ex.probe }
        ∧ t.isPending .sawFault = true
        ∧ { t with tracker := { t.tracker with ring := s.tracker.ring }, saw := s.saw, ctl := s.ctl, field := s.field,
                   links := s.links } = s)
    ∧ (∀ (left : Nat) (s : State), s.saw.wait = some left →
        (s.saw.exchange = none → exec .replyTimeout s = .next { s with saw := { s.saw with wait := none } })
          ∧ ∀ ex : Exchange, s.saw.exchange = some ex → ex.phase = .readDue →
              let first := busWire 0x61 [u8 (ex.module.val + 1)]
              exec .replyTimeout s =
                .next
                  { s with
                    links := s.links.modify 9 (·.takeSent first)
                    saw :=
                      { s.saw with
                        exchange := some { ex with phase := .readState }
                        wait := some (2 * ex.timeout)
                        sent := some first } })
    ∧ ∀ (i : Fin 8) (left : Nat) (x : Slot) (s : State), s.Inv → s.lugDue i left → x ∈ s.tracker.ring →
        x.offset + 1 = s.geo.tr → Station.tr ∉ x.passed →
        ∃ t, exec (.filterTimerExpiry i) s = .next t
          ∧ (∀ o : Fin 8,
              (t.field.outputs.get o).pulse =
                if (s.tables.outputs.get o).function = .fire then some (2 * (s.tables.outputs.get o).width)
                else (s.field.outputs.get o).pulse)
          ∧ ∀ c : CommitRecord, x.kind = .board → x.commit = some c →
              ∃ y d, y ∈ t.tracker.ring ∧ y.tag = x.tag ∧ y.commit = some d
                ∧ { d with results := c.results, trimMissed := c.trimMissed, trimmed := c.trimmed } = c
                ∧ d.trimmed = true
                ∧ (match s.saw.exchange with
                    | some ex =>
                      d.results = (if ex.tag = x.tag then c.results.set ex.module .abandoned else c.results)
                    | none => d.results = c.results)
                ∧ (∀ ex, t.saw.exchange = some ex → ex.tag ≠ x.tag)
                ∧ (∀ w, s.saw.wait = some w → t.saw.wait = some w)
                ∧ (d.trimMissed = true ↔ c.trimMissed = true
                    ∨ ∃ m : Fin 2, m.val < s.tables.sawBus.modules ∧ d.results.get m ≠ .accepted
                        ∧ d.results.get m ≠ .skipped)
                ∧ ((∃ m : Fin 2, m.val < s.tables.sawBus.modules ∧ d.results.get m ≠ .accepted
                        ∧ d.results.get m ≠ .skipped) → t.isPending .trimMissed = true)

/-! ## Consoles -/

/-- SUBSCRIBE makes its console subscribed and is answered DONE; with room for them every PROPOSAL of the window then joins,
highest offset first, each in place of one for its tag still waiting, the other frames waiting kept (R80, R81). UNSUBSCRIBE
removes every PROPOSAL and WITHDRAW waiting and is answered DONE (R81). No other console and no other block changes. A BOARD
piece that arrives at GW at a lug pulse has its window OPEN, and with a solution, its PROPOSAL waits at every console subscribed
that has room, and no other for its tag (R82, R83). -/
def Obligations.SubscriptionsOfferAndWithdraw : Prop :=
  (∀ (c : Fin 4) (frameTag : Byte) (s : State), s.consoleReady c →
    (∃ t, exec (.subscribe c frameTag []) s = .next t
      ∧ (t.consoles.get c).subscribed = true
      ∧ ConsoleFrame.reply { kind := 0x4E, tag := frameTag, payload := [] } ∈ (t.consoles.get c).queue
      ∧ { t with consoles := t.consoles.set c (s.consoles.get c), links := s.links } = s)
    ∧ (s.Inv → (s.consoles.get c).offersWaiting + s.tracker.ring.length ≤ 32 →
      exec (.subscribe c frameTag []) s =
        .next
          { s.received (.console c) [] with
            consoles :=
              s.consoles.set c
                { s.consoles.get c with
                  subscribed := true
                  queue :=
                    ((s.consoles.get c).queue.map fun g =>
                        match s.windowOffers.find? fun p => g.isProposalFor p.1 with
                        | some p => .proposal p.1 p.2
                        | none => g)
                      ++ [.reply { kind := 0x4E, tag := frameTag, payload := [] }]
                      ++ (s.windowOffers.filter fun p => !(s.consoles.get c).queue.any (·.isProposalFor p.1)).map fun p =>
                          .proposal p.1 p.2 } })
    ∧ exec (.unsubscribe c frameTag []) s =
        .next
          { s.received (.console c) [] with
            consoles :=
              s.consoles.set c
                { s.consoles.get c with
                  subscribed := false
                  queue :=
                    ((s.consoles.get c).queue.filter fun f => !f.isOffer)
                      ++ [.reply { kind := 0x4E, tag := frameTag, payload := [] }] } })
    ∧ ∀ (i : Fin 8) (left : Nat) (x : Slot) (s : State), s.Inv → s.lugDue i left → x ∈ s.tracker.ring → x.kind = .board →
        x.offset + 1 = s.geo.gw → Station.gw ∉ x.passed →
        ∃ t y, exec (.filterTimerExpiry i) s = .next t ∧ y ∈ t.tracker.ring ∧ y.tag = x.tag
          ∧ y.console = { x.console with window := .open }
          ∧ ∀ (n : Fin 4) (sol : Solution), x.solution = some sol → (s.consoles.get n).subscribed = true →
              (s.consoles.get n).offersWaiting + 2 * s.tracker.ring.length ≤ 32 →
              .proposal x.tag (proposalFrame x sol) ∈ (t.consoles.get n).queue
                ∧ ∀ f ∈ (t.consoles.get n).queue, f.isProposalFor x.tag = true →
                    f = .proposal x.tag (proposalFrame x sol)

/-- CLAIM of a piece in the window that has no holder, by a console with fewer than 2 claims, makes that console the holder
(R86); one by the piece's own holder is answered DONE and changes nothing (R86); RELEASE by the holder leaves the piece with
none (R87). Each is answered DONE with the piece's generation, has the call conditions judged afresh (R94), and changes no
override, no other slot and no other block. -/
def Obligations.ClaimAndReleaseMoveTheHolder : Prop :=
  ∀ (c : Fin 4) (frameTag hi lo : Byte) (x : Slot) (s : State), s.consoleReady c → s.slot? (word hi lo) = some x →
    x.kind ≠ .empty → x.console.window = .open →
    ((x.console.holder = none → (s.claims c).length < 2 →
      ∃ t, exec (.claim c frameTag [hi, lo]) s = .next t
        ∧ t.tracker.ring = (s.tracker.ring.map fun y =>
            if y.tag = word hi lo then { y with console := { y.console with holder := some c } } else y)
        ∧ (t.consoles.get c).queue =
            (s.consoles.get c).queue
              ++ [.reply { kind := 0x4E, tag := frameTag, payload := u16 (word hi lo) ++ u16 x.generation }]
        ∧ t.outputsJudged ∧ t.field.inputs = s.field.inputs
        ∧ { t with tracker := { t.tracker with ring := s.tracker.ring }, links := s.links, field := s.field,
                   consoles := t.consoles.set c (s.consoles.get c) } = s)
    ∧ (x.console.holder = some c →
      exec (.claim c frameTag [hi, lo]) s =
        .next
          { s.received (.console c) [hi, lo] with
            consoles := s.consoles.set c
              { s.consoles.get c with
                queue := (s.consoles.get c).queue
                  ++ [.reply { kind := 0x4E, tag := frameTag, payload := u16 (word hi lo) ++ u16 x.generation }] } })
    ∧ (x.console.holder = some c →
      ∃ t, exec (.release c frameTag [hi, lo]) s = .next t
        ∧ t.tracker.ring = (s.tracker.ring.map fun y =>
            if y.tag = word hi lo then { y with console := { y.console with holder := none } } else y)
        ∧ (t.consoles.get c).queue =
            (s.consoles.get c).queue
              ++ [.reply { kind := 0x4E, tag := frameTag, payload := u16 (word hi lo) ++ u16 x.generation }]
        ∧ t.outputsJudged ∧ t.field.inputs = s.field.inputs
        ∧ { t with tracker := { t.tracker with ring := s.tracker.ring }, links := s.links, field := s.field,
                   consoles := t.consoles.set c (s.consoles.get c) } = s))

/-- The override requests of the console that holds the piece, carried out: MARK clipped to the extent and added at the end of
the list (R89), FORCE_GRADE and FORCE_SCRAP (R90), FORCE_LENGTH where a gap-free span of that length exists (R91),
CLEAR_OVERRIDES (R92). Each is announced, with the piece's generation increased and its solving as R54 and R55 say, and answered
DONE with the new generation; nothing else changes. -/
def Obligations.OverridesChangeTheRecord : Prop :=
  ∀ (c : Fin 4) (frameTag hi lo : Byte) (x : Slot) (r : SolveRecord) (s : State), s.holds c (word hi lo) x r →
    (∀ (first last grade : Byte) (e : Nat), first.toNat ≤ last.toNat → last.toNat ≤ 89 → 1 ≤ grade.toNat →
        grade.toNat ≤ 7 → x.console.overrides.marks.length < 4 → x.scan.extent = some e → first.toNat < e →
        ∃ t, exec (.mark c frameTag [hi, lo, first, last, grade]) s = .next t
          ∧ s.overrideTaken t c frameTag (word hi lo) r.generation fun o =>
              { o with
                marks :=
                  o.marks
                    ++ [{ first := first.toNat, last := min last.toNat (e - 1), grade := grade.toNat }] })
    ∧ (∀ g : Byte, 1 ≤ g.toNat → g.toNat ≤ 7 →
        ∃ t, exec (.forceGrade c frameTag [hi, lo, g]) s = .next t
          ∧ s.overrideTaken t c frameTag (word hi lo) r.generation fun o => { o with forcedGrade := some g.toNat })
    ∧ (∀ (n : Byte) (e a : Nat), 1 ≤ n.toNat → n.toNat ≤ 15 → x.scan.extent = some e → a + n.toNat < s.geo.saws →
        (a + n.toNat) * s.geo.pitch ≤ e →
        (∀ j, a * s.geo.pitch ≤ j → j < (a + n.toNat) * s.geo.pitch → x.scan.cells[j]? ≠ some .empty) →
        ∃ t, exec (.forceLength c frameTag [hi, lo, n]) s = .next t
          ∧ s.overrideTaken t c frameTag (word hi lo) r.generation fun o => { o with forcedLength := some n.toNat })
    ∧ (∃ t, exec (.forceScrap c frameTag [hi, lo]) s = .next t
        ∧ s.overrideTaken t c frameTag (word hi lo) r.generation fun o => { o with forcedScrap := true })
    ∧ ∃ t, exec (.clearOverrides c frameTag [hi, lo]) s = .next t
        ∧ s.overrideTaken t c frameTag (word hi lo) r.generation fun _ =>
            { marks := [], forcedGrade := none, forcedLength := none, forcedScrap := false }

/-! ## Logs -/

/-- Logs. In STARTING every log frame is discarded (R5, R118). Outside it LOG_START opens a log (R120). SLICE with the next
index adds its volume and mean, a diameter above 2000 taken as 2000 (section 7.1, R119, R121). LOG_END with the right count of 5
slices or more fixes SED, volume and class, judges the log against the log-current run's product, counts it in that run, gives
it a place in the log queue or leaves it UNTRACKED with LOG_UNTRACKED pending, and reports it where the report queue has room
(R122 to R126, R128, R145). The six faults end a log, judged, counted, queued and reported as one: RESTARTED at a LOG_START
while one is open, which opens the next (R120); at a SLICE, NO_START in IDLE, TOO_LONG at 200 slices, INDEX_GAP at another
index, each leaving the Lane SKIPPING (R121); at LOG_END, COUNT_MISMATCH and TOO_SHORT (R122). A SLICE in SKIPPING and a LOG_END
in IDLE are discarded and counted; a LOG_END ends SKIPPING. -/
def Obligations.LogsMeasuredAndJudged : Prop :=
  (∀ (payload : List Byte) (s : State), s.tracker.line = .starting →
      ∀ i ∈ [Instr.logStart payload, .slice payload, .logEnd payload], exec i s = .next (s.received .log payload))
    ∧ (∀ (hi lo : Byte) (s : State), s.tracker.line ≠ .starting → (∀ r, s.lane.state ≠ .open r) →
      exec (.logStart [hi, lo]) s =
        .next
          { s.received .log [hi, lo] with
            lane :=
              { s.lane with
                state :=
                  .open { number := some (word hi lo), slices := 0, firstMean := none, lastMean := none, volume := 0 } } })
    ∧ (∀ (i1 i0 a1 a0 b1 b0 : Byte) (r : LogRecord) (s : State), s.tracker.line ≠ .starting → s.lane.state = .open r →
        r.slices < 200 → word i1 i0 = r.slices + 1 →
        let d1 := min 2000 (word a1 a0)
        let d2 := min 2000 (word b1 b0)
        exec (.slice [i1, i0, a1, a0, b1, b0]) s =
          .next
            { s.received .log [i1, i0, a1, a0, b1, b0] with
              lane :=
                { s.lane with
                  state :=
                    .open
                      { number := r.number
                        slices := r.slices + 1
                        firstMean := some (r.firstMean.getD ((d1 + d2) / 2))
                        lastMean := some ((d1 + d2) / 2)
                        volume := r.volume + (d1 * d2 * 7854 + 50000) / 100000 } } })
    ∧ (∀ (hi lo : Byte) (r : LogRecord) (first last : Nat) (q : Run) (cls : Nat) (s : State), s.Inv →
        s.tracker.line ≠ .starting → s.lane.state = .open r → word hi lo = r.slices → 5 ≤ r.slices → r.slices ≤ 200 →
        r.firstMean = some first → r.lastMean = some last → q ∈ s.runs.records → q.state.logCurrent = true →
        cls ≤ 7 → (∀ i b, i < cls → s.tables.logClasses.bounds.items[i]? = some b → b ≤ min first last) →
        (∀ b, s.tables.logClasses.bounds.items[cls]? = some b → min first last < b) →
        let p := s.tables.products.get q.product
        let reject : Option RejectReason :=
          if min first last < p.sedMin ∨ p.sedMax < min first last then some .sed
          else if r.slices < p.minSlices then some .length else none
        ∃ t, exec (.logEnd [hi, lo]) s = .next t ∧ t.lane.state = .idle
          ∧ { t.lane with state := s.lane.state, queue := s.lane.queue } = s.lane
          ∧ { t with lane := s.lane, runs := { t.runs with records := s.runs.records }, ctl := s.ctl, field := s.field,
                     links := s.links } = s
          ∧ (∀ r' ∈ s.runs.records, r'.seq ≠ q.seq → r' ∈ t.runs.records)
          ∧ (s.lane.queue.length < 8 →
              t.lane.queue =
                s.lane.queue
                  ++ [{ number := r.number, rejected := reject.isSome, entry := s.tables.logClasses.kicker,
                        countdown := s.tables.logClasses.kicker }])
          ∧ (8 ≤ s.lane.queue.length → t.lane.queue = s.lane.queue ∧ t.isPending .logUntracked = true)
          ∧ (∃ q' ∈ t.runs.records, q'.seq = q.seq
              ∧ q'.tally.logsMeasured = min (q.tally.logsMeasured + 1) Config.tallyMax
              ∧ (reject = none →
                  q'.tally.accepted = min (q.tally.accepted + 1) Config.tallyMax
                    ∧ q'.tally.acceptedVolume = min (q.tally.acceptedVolume + r.volume) Config.tallyMax)
              ∧ (∀ why, reject = some why →
                  q'.tally.get (.rejected why) = min (q.tally.get (.rejected why) + 1) Config.tallyMax
                    ∧ q'.tally.acceptedVolume = q.tally.acceptedVolume)
              ∧ q'.tally.faulted = q.tally.faulted
              ∧ (∀ k : Fin 8, q'.tally.classes.get k =
                  if k.val = cls then min (q.tally.classes.get k + 1) Config.tallyMax else q.tally.classes.get k))
          ∧ (s.ctl.reports.length ≤ 61 →
              ∃ f ∈ t.ctl.reports, f.kind = 0xE2
                ∧ f.payload =
                    [flagByte [r.number.isSome, true, decide (8 ≤ s.lane.queue.length)]] ++ u16 (r.number.getD 0)
                      ++ u16 q.seq
                      ++ [yesNo reject.isSome,
                          match reject with | none => 0 | some .fault => 1 | some .sed => 2 | some .length => 3,
                          0, u8 r.slices]
                      ++ u16 (r.slices * 100) ++ u32 r.volume ++ u16 (min first last) ++ [u8 cls]))
    ∧ (∀ (r : LogRecord) (q : Run) (s : State), s.Inv → s.tracker.line ≠ .starting → q ∈ s.runs.records →
        q.state.logCurrent = true →
        let fresh : LogRecord := { number := none, slices := 0, firstMean := none, lastMean := none, volume := 0 }
        let faults := fun (o : Host.Outcome State Fault Refusal) (r : LogRecord) (code : Byte) (after : LaneState) =>
          ∃ t, o = .next t ∧ t.lane.state = after ∧ s.logFaulted t r code q
        (∀ hi lo : Byte, s.lane.state = .open r →
            faults (exec (.logStart [hi, lo]) s) r 4 (.open { fresh with number := some (word hi lo) }))
          ∧ (∀ i1 i0 a1 a0 b1 b0 : Byte,
              let slice := exec (.slice [i1, i0, a1, a0, b1, b0]) s
              (s.lane.state = .idle → faults slice fresh 1 .skipping)
                ∧ (s.lane.state = .open r → r.slices < 200 → word i1 i0 ≠ r.slices + 1 → faults slice r 2 .skipping)
                ∧ (s.lane.state = .open r → 200 ≤ r.slices → faults slice r 3 .skipping))
          ∧ ∀ hi lo : Byte,
              (s.lane.state = .open r → word hi lo ≠ r.slices → faults (exec (.logEnd [hi, lo]) s) r 5 .idle)
                ∧ (s.lane.state = .open r → word hi lo = r.slices → r.slices < 5 →
                    faults (exec (.logEnd [hi, lo]) s) r 6 .idle))
    ∧ ∀ s : State, s.tracker.line ≠ .starting →
        (∀ i1 i0 a1 a0 b1 b0 : Byte, s.lane.state = .skipping →
            exec (.slice [i1, i0, a1, a0, b1, b0]) s =
              .next
                { s.received .log [i1, i0, a1, a0, b1, b0] with
                  lane := { s.lane with discards := min (s.lane.discards + 1) 65535 } })
          ∧ ∀ hi lo : Byte,
              (s.lane.state = .skipping →
                exec (.logEnd [hi, lo]) s =
                  .next { s.received .log [hi, lo] with lane := { s.lane with state := .idle } })
              ∧ (s.lane.state = .idle →
                exec (.logEnd [hi, lo]) s =
                  .next
                    { s.received .log [hi, lo] with
                      lane := { s.lane with discards := min (s.lane.discards + 1) 65535 } })

/-- Counts of the log encoder outside STARTING. LOG_FORWARD_COUNT takes 1 from every countdown above 0, and the logs at the head
whose countdown is 0 leave in order; only a rejected log among them makes a KICK: every output bound to KICK is then pulsed with
its width (R129, R130, R156). LOG_REVERSE_COUNT adds 1 to every countdown below its entry distance (R129). In STARTING either
count only turns the pins (DEDUCED, notes/assumptions/30.md). -/
def Obligations.LogCountsMoveTheQueue : Prop :=
  ∀ s : State,
    let moved := s.lane.queue.map fun q => { q with countdown := q.countdown - 1 }
    let forward : LogLane :=
      { s.lane with
        phaseA := !s.lane.phaseB
        phaseB := s.lane.phaseA
        queue := moved.dropWhile fun q => decide (q.countdown = 0) }
    (s.tracker.line ≠ .starting → (∀ q ∈ moved.takeWhile (fun q => decide (q.countdown = 0)), q.rejected = false) →
        exec .logForwardCount s = .next { s with lane := forward })
      ∧ (s.tracker.line ≠ .starting →
          (∃ q ∈ moved.takeWhile (fun q => decide (q.countdown = 0)), q.rejected = true) →
          ∃ t, exec .logForwardCount s = .next t ∧ t.lane = forward
            ∧ (∀ o : Fin 8, (t.field.outputs.get o).pulse =
                if (s.tables.outputs.get o).function = .kick then some (2 * (s.tables.outputs.get o).width)
                else (s.field.outputs.get o).pulse)
            ∧ t.outputsJudged ∧ t.field.inputs = s.field.inputs
            ∧ { t with lane := s.lane, field := s.field } = s)
      ∧ (s.tracker.line ≠ .starting → (∀ q ∈ s.lane.queue, q.countdown ≤ q.entry) →
          exec .logReverseCount s =
            .next
              { s with
                lane :=
                  { s.lane with
                    phaseA := s.lane.phaseB
                    phaseB := !s.lane.phaseA
                    queue :=
                      s.lane.queue.map fun q =>
                        if q.countdown < q.entry then { q with countdown := q.countdown + 1 } else q } })
      ∧ (s.tracker.line = .starting →
          exec .logForwardCount s =
              .next { s with lane := { s.lane with phaseA := !s.lane.phaseB, phaseB := s.lane.phaseA } }
            ∧ exec .logReverseCount s =
              .next { s with lane := { s.lane with phaseA := s.lane.phaseB, phaseB := !s.lane.phaseA } })

/-! ## Outputs -/

/-- PULSE_TIMER_EXPIRY of a running pulse ends it: a FIRE or KICK output that is not forced goes OFF (R156). BEACON_PHASE_CHANGE
of a running wave turns it for another half period: an output that is not forced follows the wave (R157). Every other output and
block is as before. -/
def Obligations.PulsesAndWavesRun : Prop :=
  ∀ (o : Fin 8) (s : State), s.outputsJudged →
    (∀ left, (s.field.outputs.get o).pulse = some left →
      exec (.pulseTimerExpiry o) s =
        .next
          { s with
            field :=
              { s.field with
                outputs :=
                  s.field.outputs.set o
                    { s.field.outputs.get o with
                      pulse := none
                      level :=
                        if (s.field.outputs.get o).force = .none
                            ∧ ((s.tables.outputs.get o).function = .fire ∨ (s.tables.outputs.get o).function = .kick)
                        then false else (s.field.outputs.get o).level } } })
    ∧ ∀ w, (s.field.outputs.get o).wave = some w →
      exec (.beaconPhaseChange o) s =
        .next
          { s with
            field :=
              { s.field with
                outputs :=
                  s.field.outputs.set o
                    { s.field.outputs.get o with
                      wave :=
                        some
                          { on := !w.on
                            left :=
                              match (s.tables.outputs.get o).rate with
                              | .half => 2000
                              | .one => 1000
                              | .two => 500
                              | .four => 250 }
                      level :=
                        if (s.field.outputs.get o).force = .none then !w.on else (s.field.outputs.get o).level } } }

/-- OUTPUT_FORCE drives its output ON or OFF whatever its function, and OUTPUT_RELEASE gives it back to its function: a running
pulse, the alert condition, the wave or the call condition (R155, R158). Timers and waves run on, every other output is as
before, and the reply is OK. An output beyond 7 or an unknown level is refused BAD_VALUE (R158). -/
def Obligations.ForcesDriveTheOutput : Prop :=
  (∀ (o : Fin 8) (frameTag : Byte) (s : State), s.serving → s.outputsJudged →
    (∀ on : Bool,
      exec (.outputForce frameTag [u8 o.val, if on then 1 else 0]) s =
        .next
          { s.answered [u8 o.val, if on then 1 else 0] { kind := 0x8F, tag := frameTag, payload := [] } with
            field :=
              { s.field with
                outputs :=
                  s.field.outputs.set o
                    { s.field.outputs.get o with force := if on then .on else .off, level := on } } })
    ∧ exec (.outputRelease frameTag [u8 o.val]) s =
        .next
          { s.answered [u8 o.val] { kind := 0x90, tag := frameTag, payload := [] } with
            field :=
              { s.field with
                outputs :=
                  s.field.outputs.set o
                    { s.field.outputs.get o with
                      force := .none
                      level :=
                        match (s.tables.outputs.get o).function with
                        | .fire => (s.field.outputs.get o).pulse.isSome
                        | .kick => (s.field.outputs.get o).pulse.isSome
                        | .alert => s.alert
                        | .beacon => ((s.field.outputs.get o).wave.map (·.on)).getD false
                        | .graderCall => s.callCondition (s.tables.outputs.get o)
                        | .none => false
                        | .general => false } } })
    ∧ ∀ (frameTag o level : Byte) (s : State), s.serving →
        (7 < o.toNat ∨ 1 < level.toNat →
            exec (.outputForce frameTag [o, level]) s =
              .next (s.answered [o, level] { kind := 0xFF, tag := frameTag, payload := [0x0F, 3] }))
          ∧ (7 < o.toNat →
            exec (.outputRelease frameTag [o]) s =
              .next (s.answered [o] { kind := 0xFF, tag := frameTag, payload := [0x10, 3] }))

/-! ## Exits -/

/-- A BOARD piece arrives at EX at a lug pulse, its scan closed and its decision fixed: it leaves the ring, its run's tally
takes the decision and the volume of R142, and each of the overridden, fallback and six flag counters goes up by 1 where the
piece is so and stays otherwise, as every other counter but scanned does (R9, R141; TRIM_MISSED once past TR); and where there
is room an EXIT report is queued with its tag and run, the decision, a, b, grade, length and value, the volume, the source and
generation, and the flags; once past TR also with TRIM_MISSED and the manual masks of the two modules (R143, section 11.3). -/
def Obligations.ExitEntersTheTally : Prop :=
  ∀ (i : Fin 8) (left : Nat) (x : Slot) (c : CommitRecord) (q : Run) (s : State), s.Inv → s.tracker.line ≠ .starting →
    (s.tables.inputs.get i).function = .lug → (s.field.inputs.get i).timer = some left →
    rawLevel (s.tables.inputs.get i) (s.field.inputs.get i) = true →
    s.geo.lugPitch - s.geo.halfWidth ≤ s.tracker.pos →
    s.tracker.ring.head? = some x → x.kind = .board → x.offset + 1 = s.geo.ex → x.commit = some c →
    s.run? x.run = some q →
    ∃ t q', exec (.filterTimerExpiry i) s = .next t ∧ (∀ y ∈ t.tracker.ring, y.tag ≠ x.tag)
      ∧ q' ∈ t.runs.records ∧ q'.seq = q.seq
      ∧ (c.keep = none → q'.tally.scrapped = min (q.tally.scrapped + 1) Config.tallyMax
          ∧ q'.tally.value = q.tally.value ∧ q'.tally.volume = q.tally.volume ∧ q'.tally.kept = q.tally.kept)
      ∧ (∀ k, ∀ j : Fin 8, c.keep = some k →
          k.grade = (if j.val = 7 then .ungraded else .graded (j.val + 1)) →
          q'.tally.scrapped = q.tally.scrapped
            ∧ q'.tally.value = min (q.tally.value + k.value) Config.tallyMax
            ∧ q'.tally.volume.get j =
                min (q.tally.volume.get j
                  + ((s.productOf x.run).thickness * (s.productOf x.run).width * ((k.b - k.a) * s.geo.pitch * 100)
                      + 500) / 1000) Config.tallyMax
            ∧ (∀ i : Fin 8, i ≠ j → q'.tally.volume.get i = q.tally.volume.get i)
            ∧ ∀ l : Fin 15, l.val + 1 = k.b - k.a →
                (q'.tally.kept.get j).get l = min ((q.tally.kept.get j).get l + 1) Config.tallyMax
                  ∧ ∀ (g : Fin 8) (n : Fin 15), (g ≠ j ∨ n ≠ l) →
                      (q'.tally.kept.get g).get n = (q.tally.kept.get g).get n)
      ∧ (let counted := fun (p : Prop) [Decidable p] (new old : Nat) => new = if p then min (old + 1) Config.tallyMax else old
         counted (x.console.overrides.inForce = true) q'.tally.overridden q.tally.overridden
          ∧ counted (c.source = .fallback) q'.tally.fallback q.tally.fallback
          ∧ counted (c.overrideMissed = true) q'.tally.overrideMissed q.tally.overrideMissed
          ∧ (Station.tr ∈ x.passed → counted (c.trimMissed = true) q'.tally.trimMissed q.tally.trimMissed)
          ∧ counted (c.inhibited = true) q'.tally.inhibited q.tally.inhibited
          ∧ counted (c.manualConflict = true) q'.tally.manualConflict q.tally.manualConflict
          ∧ counted (x.scan.scanPartial = true) q'.tally.scanPartial q.tally.scanPartial
          ∧ counted (x.scan.noProfile = true) q'.tally.noProfile q.tally.noProfile)
      ∧ (∀ k ∈ [Counter.lost, .logsMeasured, .accepted, .rejected .fault, .rejected .sed, .rejected .length, .faulted,
            .acceptedVolume], q'.tally.get k = q.tally.get k)
      ∧ q'.tally.classes = q.tally.classes
      ∧ (s.ctl.reports.length ≤ 48 →
          ∃ f ∈ t.ctl.reports, f.kind = 0xE1 ∧ f.payload.length = 26
            ∧ f.payload.take 19 =
                u16 x.tag ++ u16 x.run
                  ++ (match c.keep with
                      | some k =>
                        ([0, u8 k.a, u8 k.b, match k.grade with | .graded g => u8 g | .ungraded => 8, u8 (k.b - k.a)] :
                            List Byte)
                          ++ u16 k.value
                          ++ u32 (((s.productOf x.run).thickness * (s.productOf x.run).width
                              * ((k.b - k.a) * s.geo.pitch * 100) + 500) / 1000)
                      | none => [1, 0xFF, 0xFF, 0xFF, 0xFF, 0, 0, 0, 0, 0, 0])
                  ++ ([match c.source with | .solver => 0 | .override => 1 | .fallback => 2] : List Byte)
                  ++ u16 (c.generation.getD 0)
                  ++ [flagByte
                      [x.console.overrides.inForce, x.lugSynth, x.scan.scanPartial, x.scan.noProfile, c.noSpan,
                        c.overrideMissed, c.inhibited, c.manualConflict]]
            ∧ (Station.tr ∈ x.passed →
                f.payload.drop 19 =
                  ([if c.trimMissed then 1 else 0] : List Byte)
                    ++ ((List.finRange 2).flatMap fun m =>
                      match c.masks.get m with
                      | some r => ([1, r.mask, r.down] : List Byte)
                      | none => [0, 0, 0])))

/-! ## Invariants that every step keeps -/

/-- Right after reset every invariant holds, the balances too, every level cause whose condition holds is pending, and every
output is OFF and unforced. -/
def Obligations.InvariantsHoldAtReset : Prop :=
  State.reset.Inv ∧ State.reset.levelsPending ∧ (∀ r ∈ State.reset.runs.records, State.reset.balanced r ∧ r.logBalanced)
    ∧ ∀ o : Fin 8, (State.reset.field.outputs.get o).level = false ∧ (State.reset.field.outputs.get o).force = .none

/-- The image memory keeps its canonical form, one of the model (notes/assumptions/7.md), through every step. -/
def Obligations.StepKeepsTheMemoryForm : Prop :=
  ∀ s t : State, s.memoryKept → step s = .next t → t.memoryKept

/-- Every step keeps a GEOMETRY entry that passes its checks, the module count that goes with S, pos within 0 to K+W-1 (after an
image load by request too: DESIGN CHOICE, notes/assumptions/38.md), and the request in process as R70 and R75 have it. -/
def Obligations.StepKeepsGeometryPosAndRequest : Prop :=
  ∀ s t : State, s.Inv → step s = .next t → t.geometryKept ∧ t.posKept ∧ t.requestKept

/-- Every step keeps the lug ring: offsets distinct and falling, tags consecutive, no slot past EX, at most 31 slots. -/
def Obligations.StepKeepsTheRing : Prop :=
  ∀ s t : State, s.Inv → step s = .next t → t.ringKept ∧ t.tracker.ring.length ≤ 31

/-- Every step keeps each slot's stations in their order and its records where the rules create them, a claim in the window
only, at most one holder a piece and 2 claims a console, the engine on exactly the piece whose status is SOLVING, and the
exchange in flight with a piece in the ring that has arrived at CM and not yet at TR (R13, R82, R88, R99, R106, R112). -/
def Obligations.StepKeepsSlotsAndClaims : Prop :=
  ∀ s t : State, s.Inv → step s = .next t → t.slotsKept ∧ t.claimsKept ∧ t.exchangeKept

/-- Every step keeps the bounds of the report queue, the waiting replies, the consoles' queues and the log queue. At most 8
replies wait and one more: that of a request that was in process is made whatever number waits (DESIGN CHOICE,
notes/assumptions/12.md), where R164 says at most 8. -/
def Obligations.StepKeepsTheQueueBounds : Prop :=
  ∀ s t : State, s.Inv → step s = .next t → t.queuesKept

/-- Every step keeps the run table as R134, R135 and R138 have it, and each run's counters as R146 does, a counter that reaches
its maximum exactly being one that has stopped there (DEDUCED, notes/assumptions/27.md). -/
def Obligations.StepKeepsTheRunTable : Prop :=
  ∀ s t : State, s.Inv → step s = .next t → t.runsKept

/-- Every step keeps the balances: for a run whose saturated mark is clear, pieces scanned equals kept, scrapped and lost pieces
and its BOARD slots in the ring, and logs measured equals accepted and rejected logs, and classed and faulted ones. -/
def Obligations.StepKeepsTheBalances : Prop :=
  ∀ s t : State, s.Inv → (∀ r ∈ s.runs.records, s.balanced r ∧ r.logBalanced) → step s = .next t →
    ∀ r ∈ t.runs.records, t.balanced r ∧ r.logBalanced

/-- Every command but the two that turn the outputs off, POWER_ON and RESTART_ANNOUNCED (notes/assumptions/19.md), leaves each
output driven by its force or its function as they then stand: no change of the alert condition, of a call condition, of a
pulse, a wave, a force or an entry goes unjudged. -/
def Obligations.OutputsAlwaysJudged : Prop :=
  ∀ (c : Instr) (s t : State), s.Inv → s.outputsJudged → (∀ a b p, c ≠ .powerOn a b p) → c ≠ .restartAnnounced →
    exec c s = .next t → t.outputsJudged

/-- Every step keeps every level cause pending whose condition holds: HEAD_DOWN, MODULE_OFFLINE and INHIBIT_ACTIVE. -/
def Obligations.LevelCausesStayPending : Prop :=
  ∀ s t : State, s.levelsPending → step s = .next t → t.levelsPending

/-- No tally counter of an existing run ever decreases, its saturated mark stays set, and its product and number stay, at every
command but POWER_ON (R146). -/
def Obligations.TalliesNeverDecrease : Prop :=
  ∀ (c : Instr) (s t : State), s.Inv → (∀ a b p, c ≠ .powerOn a b p) → exec c s = .next t →
    ∀ r ∈ s.runs.records, ∀ r' ∈ t.runs.records, r'.seq = r.seq →
      (∀ k : Counter, r.tally.get k ≤ r'.tally.get k) ∧ (r.saturated = true → r'.saturated = true)
        ∧ r'.product = r.product

/-- Once a piece has arrived at the commit station its decision does not change: at every command, a slot that is in the ring
before and after keeps the decision of its commit record, its flags of the decision and its pattern (R100, R102, R104). -/
def Obligations.DecisionNeverChanges : Prop :=
  ∀ (i : Instr) (s t : State), s.Inv → exec i s = .next t →
    ∀ x ∈ s.tracker.ring, ∀ y ∈ t.tracker.ring, y.tag = x.tag → ∀ c, x.commit = some c →
      ∃ d, y.commit = some d ∧ d.keep = c.keep ∧ d.noSpan = c.noSpan ∧ d.source = c.source ∧ d.generation = c.generation
        ∧ d.overrideMissed = c.overrideMissed ∧ d.inhibited = c.inhibited ∧ d.pattern = c.pattern

/-- Once a scan is closed, its cell map, extent, status and SCAN_PARTIAL flag hold for the rest of the slot's life, and so does
NO_PROFILE once the slot's kind is fixed (R28). -/
def Obligations.ClosedScanNeverChanges : Prop :=
  ∀ (i : Instr) (s t : State), s.Inv → exec i s = .next t →
    ∀ x ∈ s.tracker.ring, ∀ y ∈ t.tracker.ring, y.tag = x.tag → x.scan.status ≠ .open →
      y.scan.cells = x.scan.cells ∧ y.scan.extent = x.scan.extent ∧ y.scan.status = x.scan.status
        ∧ y.scan.scanPartial = x.scan.scanPartial
        ∧ (x.kind ≠ .undecided → y.scan.noProfile = x.scan.noProfile)
end

