-- ==== Sys2Proof/Laws/Banks.lean ====
section
/-! SUPPORT. Reading a bank after each way of making one, and a tally after a counter is replaced. -/

namespace Sys2Proof

@[simp] theorem Bank.get_set {n : Nat} {α : Type} (b : Bank n α) (i j : Fin n) (a : α) :
    (b.set i a).get j = if j = i then a else b.get j := by
  simp only [Bank.get, Bank.set, List.getElem_set]
  by_cases h : j = i
  · subst h; simp
  · rw [if_neg (fun e => h (Fin.ext e.symm)), if_neg h]

@[simp] theorem Bank.get_modify {n : Nat} {α : Type} (b : Bank n α) (i j : Fin n) (f : α → α) :
    (b.modify i f).get j = if j = i then f (b.get i) else b.get j := Bank.get_set b i j _

@[simp] theorem Bank.get_map {n : Nat} {α β : Type} (b : Bank n α) (f : α → β) (i : Fin n) :
    (b.map f).get i = f (b.get i) := by
  simp [Bank.get, Bank.map]

@[simp] theorem Bank.get_ofFn {n : Nat} {α : Type} (f : Fin n → α) (i : Fin n) : (Bank.ofFn f).get i = f i := by
  simp [Bank.get, Bank.ofFn]

@[simp] theorem Bank.get_fill {n : Nat} {α : Type} (a : α) (i : Fin n) : (Bank.fill n a).get i = a := by
  simp [Bank.get, Bank.fill]

/-- Two banks that agree at every place are equal. -/
theorem Bank.eq_of_get {n : Nat} {α : Type} {b c : Bank n α} (h : ∀ i, b.get i = c.get i) : b = c := by
  obtain ⟨l, hl⟩ := b
  obtain ⟨m, hm⟩ := c
  have : l = m := by
    apply List.ext_getElem (by rw [hl, hm])
    intro i h1 h2
    exact h ⟨i, by omega⟩
  subst this
  rfl

/-- A bank's items are its things in number order. -/
theorem Bank.items_eq {n : Nat} {α : Type} (b : Bank n α) : b.items = List.ofFn b.get := by
  apply List.ext_getElem
  · simp [b.size]
  · intro i h1 h2
    simp [Bank.get]

namespace Machine

/-- A counter read after a counter is replaced. -/
theorem Tally.get_set (t : Tally) (c d : Counter) (n : Nat) : (t.set c n).get d = if d = c then n else t.get d := by
  cases c with
  | kept g l =>
    cases d with
    | kept g' l' =>
      simp only [Tally.set, Tally.get, Bank.get_set, Counter.kept.injEq]
      by_cases hg : g' = g
      · subst hg
        by_cases hl : l' = l
        · simp [hl]
        · simp [hl]
      · simp [hg]
    | flag f => cases f <;> simp [Tally.set, Tally.get]
    | rejected f => cases f <;> simp [Tally.set, Tally.get]
    | _ => simp [Tally.set, Tally.get]
  | volume g =>
    cases d with
    | flag f => cases f <;> simp [Tally.set, Tally.get]
    | rejected f => cases f <;> simp [Tally.set, Tally.get]
    | _ => simp [Tally.set, Tally.get]
  | logClass g =>
    cases d with
    | flag f => cases f <;> simp [Tally.set, Tally.get]
    | rejected f => cases f <;> simp [Tally.set, Tally.get]
    | _ => simp [Tally.set, Tally.get]
  | flag f =>
    cases d with
    | flag f' => cases f <;> cases f' <;> simp [Tally.set, Tally.get]
    | rejected f' => cases f <;> cases f' <;> simp [Tally.set, Tally.get]
    | _ => cases f <;> simp [Tally.set, Tally.get]
  | rejected f =>
    cases d with
    | flag f' => cases f <;> cases f' <;> simp [Tally.set, Tally.get]
    | rejected f' => cases f <;> cases f' <;> simp [Tally.set, Tally.get]
    | _ => cases f <;> simp [Tally.set, Tally.get]
  | _ =>
    cases d with
    | flag f' => cases f' <;> simp [Tally.set, Tally.get]
    | rejected f' => cases f' <;> simp [Tally.set, Tally.get]
    | _ => simp [Tally.set, Tally.get]

/-- A counter of a run after one of its counters is increased (R146). -/
theorem Run.get_count (r : Run) (c d : Counter) (n : Nat) :
    (r.count c n).tally.get d = if d = c then min (r.tally.get c + n) Config.tallyMax else r.tally.get d :=
  Tally.get_set r.tally c d _

@[simp] theorem Run.count_seq (r : Run) (c : Counter) (n : Nat) : (r.count c n).seq = r.seq := rfl
@[simp] theorem Run.count_product (r : Run) (c : Counter) (n : Nat) : (r.count c n).product = r.product := rfl
@[simp] theorem Run.count_state (r : Run) (c : Counter) (n : Nat) : (r.count c n).state = r.state := rfl

/-- Increasing counters in turn leaves a run's number, product and state, and never clears its saturated mark. -/
theorem Run.countAll_keeps (l : List (Counter × Nat)) (r : Run) :
    (r.countAll l).seq = r.seq ∧ (r.countAll l).product = r.product ∧ (r.countAll l).state = r.state
      ∧ (r.saturated = true → (r.countAll l).saturated = true) := by
  induction l generalizing r with
  | nil => exact ⟨rfl, rfl, rfl, id⟩
  | cons p l ih =>
    obtain ⟨h1, h2, h3, h4⟩ := ih (r.count p.1 p.2)
    exact ⟨h1, h2, h3, fun h => h4 (by simp [Run.count, h])⟩

/-- A counter that no entry of a list names is left as it was. -/
theorem Run.get_countAll_of_not_mem {l : List (Counter × Nat)} {c : Counter} (h : ∀ p ∈ l, p.1 ≠ c) (r : Run) :
    (r.countAll l).tally.get c = r.tally.get c := by
  induction l generalizing r with
  | nil => rfl
  | cons p l ih =>
    have hp : c ≠ p.1 := fun e => h p (List.mem_cons_self ..) e.symm
    have := ih (fun q hq => h q (List.mem_cons_of_mem _ hq)) (r.count p.1 p.2)
    rw [Run.get_count, if_neg hp] at this
    exact this

end Machine

end Sys2Proof
end

