-- ==== Sys2Proof/Laws/State.lean ====
section
/-! SUPPORT. What each update of the state leaves in each field: one lemma per field per update, true by definition. -/

namespace Sys2Proof.Machine

variable (s : State)


/-! ## setRing -/

@[simp] theorem State.setRing_clock (ring : List Slot) : (s.setRing ring).clock = s.clock := rfl
@[simp] theorem State.setRing_freeCount (ring : List Slot) : (s.setRing ring).freeCount = s.freeCount := rfl
@[simp] theorem State.setRing_tracker (ring : List Slot) :
    (s.setRing ring).tracker = { s.tracker with ring := ring } := rfl
@[simp] theorem State.setRing_scan (ring : List Slot) : (s.setRing ring).scan = s.scan := rfl
@[simp] theorem State.setRing_solver (ring : List Slot) : (s.setRing ring).solver = s.solver := rfl
@[simp] theorem State.setRing_tables (ring : List Slot) : (s.setRing ring).tables = s.tables := rfl
@[simp] theorem State.setRing_store (ring : List Slot) : (s.setRing ring).store = s.store := rfl
@[simp] theorem State.setRing_consoles (ring : List Slot) : (s.setRing ring).consoles = s.consoles := rfl
@[simp] theorem State.setRing_saw (ring : List Slot) : (s.setRing ring).saw = s.saw := rfl
@[simp] theorem State.setRing_lane (ring : List Slot) : (s.setRing ring).lane = s.lane := rfl
@[simp] theorem State.setRing_runs (ring : List Slot) : (s.setRing ring).runs = s.runs := rfl
@[simp] theorem State.setRing_field (ring : List Slot) : (s.setRing ring).field = s.field := rfl
@[simp] theorem State.setRing_ctl (ring : List Slot) : (s.setRing ring).ctl = s.ctl := rfl
@[simp] theorem State.setRing_links (ring : List Slot) : (s.setRing ring).links = s.links := rfl
@[simp] theorem State.setRing_pending (ring : List Slot) : (s.setRing ring).pending = s.pending := rfl

/-! ## setTracker -/

@[simp] theorem State.setTracker_clock (f : Tracker → Tracker) : (s.setTracker f).clock = s.clock := rfl
@[simp] theorem State.setTracker_freeCount (f : Tracker → Tracker) : (s.setTracker f).freeCount = s.freeCount := rfl
@[simp] theorem State.setTracker_tracker (f : Tracker → Tracker) : (s.setTracker f).tracker = f s.tracker := rfl
@[simp] theorem State.setTracker_scan (f : Tracker → Tracker) : (s.setTracker f).scan = s.scan := rfl
@[simp] theorem State.setTracker_solver (f : Tracker → Tracker) : (s.setTracker f).solver = s.solver := rfl
@[simp] theorem State.setTracker_tables (f : Tracker → Tracker) : (s.setTracker f).tables = s.tables := rfl
@[simp] theorem State.setTracker_store (f : Tracker → Tracker) : (s.setTracker f).store = s.store := rfl
@[simp] theorem State.setTracker_consoles (f : Tracker → Tracker) : (s.setTracker f).consoles = s.consoles := rfl
@[simp] theorem State.setTracker_saw (f : Tracker → Tracker) : (s.setTracker f).saw = s.saw := rfl
@[simp] theorem State.setTracker_lane (f : Tracker → Tracker) : (s.setTracker f).lane = s.lane := rfl
@[simp] theorem State.setTracker_runs (f : Tracker → Tracker) : (s.setTracker f).runs = s.runs := rfl
@[simp] theorem State.setTracker_field (f : Tracker → Tracker) : (s.setTracker f).field = s.field := rfl
@[simp] theorem State.setTracker_ctl (f : Tracker → Tracker) : (s.setTracker f).ctl = s.ctl := rfl
@[simp] theorem State.setTracker_links (f : Tracker → Tracker) : (s.setTracker f).links = s.links := rfl
@[simp] theorem State.setTracker_pending (f : Tracker → Tracker) : (s.setTracker f).pending = s.pending := rfl

/-! ## setScan -/

@[simp] theorem State.setScan_clock (f : ScanIntake → ScanIntake) : (s.setScan f).clock = s.clock := rfl
@[simp] theorem State.setScan_freeCount (f : ScanIntake → ScanIntake) : (s.setScan f).freeCount = s.freeCount := rfl
@[simp] theorem State.setScan_tracker (f : ScanIntake → ScanIntake) : (s.setScan f).tracker = s.tracker := rfl
@[simp] theorem State.setScan_scan (f : ScanIntake → ScanIntake) : (s.setScan f).scan = f s.scan := rfl
@[simp] theorem State.setScan_solver (f : ScanIntake → ScanIntake) : (s.setScan f).solver = s.solver := rfl
@[simp] theorem State.setScan_tables (f : ScanIntake → ScanIntake) : (s.setScan f).tables = s.tables := rfl
@[simp] theorem State.setScan_store (f : ScanIntake → ScanIntake) : (s.setScan f).store = s.store := rfl
@[simp] theorem State.setScan_consoles (f : ScanIntake → ScanIntake) : (s.setScan f).consoles = s.consoles := rfl
@[simp] theorem State.setScan_saw (f : ScanIntake → ScanIntake) : (s.setScan f).saw = s.saw := rfl
@[simp] theorem State.setScan_lane (f : ScanIntake → ScanIntake) : (s.setScan f).lane = s.lane := rfl
@[simp] theorem State.setScan_runs (f : ScanIntake → ScanIntake) : (s.setScan f).runs = s.runs := rfl
@[simp] theorem State.setScan_field (f : ScanIntake → ScanIntake) : (s.setScan f).field = s.field := rfl
@[simp] theorem State.setScan_ctl (f : ScanIntake → ScanIntake) : (s.setScan f).ctl = s.ctl := rfl
@[simp] theorem State.setScan_links (f : ScanIntake → ScanIntake) : (s.setScan f).links = s.links := rfl
@[simp] theorem State.setScan_pending (f : ScanIntake → ScanIntake) : (s.setScan f).pending = s.pending := rfl

/-! ## setSolver -/

@[simp] theorem State.setSolver_clock (f : Solver → Solver) : (s.setSolver f).clock = s.clock := rfl
@[simp] theorem State.setSolver_freeCount (f : Solver → Solver) : (s.setSolver f).freeCount = s.freeCount := rfl
@[simp] theorem State.setSolver_tracker (f : Solver → Solver) : (s.setSolver f).tracker = s.tracker := rfl
@[simp] theorem State.setSolver_scan (f : Solver → Solver) : (s.setSolver f).scan = s.scan := rfl
@[simp] theorem State.setSolver_solver (f : Solver → Solver) : (s.setSolver f).solver = f s.solver := rfl
@[simp] theorem State.setSolver_tables (f : Solver → Solver) : (s.setSolver f).tables = s.tables := rfl
@[simp] theorem State.setSolver_store (f : Solver → Solver) : (s.setSolver f).store = s.store := rfl
@[simp] theorem State.setSolver_consoles (f : Solver → Solver) : (s.setSolver f).consoles = s.consoles := rfl
@[simp] theorem State.setSolver_saw (f : Solver → Solver) : (s.setSolver f).saw = s.saw := rfl
@[simp] theorem State.setSolver_lane (f : Solver → Solver) : (s.setSolver f).lane = s.lane := rfl
@[simp] theorem State.setSolver_runs (f : Solver → Solver) : (s.setSolver f).runs = s.runs := rfl
@[simp] theorem State.setSolver_field (f : Solver → Solver) : (s.setSolver f).field = s.field := rfl
@[simp] theorem State.setSolver_ctl (f : Solver → Solver) : (s.setSolver f).ctl = s.ctl := rfl
@[simp] theorem State.setSolver_links (f : Solver → Solver) : (s.setSolver f).links = s.links := rfl
@[simp] theorem State.setSolver_pending (f : Solver → Solver) : (s.setSolver f).pending = s.pending := rfl

/-! ## setStore -/

@[simp] theorem State.setStore_clock (f : Store → Store) : (s.setStore f).clock = s.clock := rfl
@[simp] theorem State.setStore_freeCount (f : Store → Store) : (s.setStore f).freeCount = s.freeCount := rfl
@[simp] theorem State.setStore_tracker (f : Store → Store) : (s.setStore f).tracker = s.tracker := rfl
@[simp] theorem State.setStore_scan (f : Store → Store) : (s.setStore f).scan = s.scan := rfl
@[simp] theorem State.setStore_solver (f : Store → Store) : (s.setStore f).solver = s.solver := rfl
@[simp] theorem State.setStore_tables (f : Store → Store) : (s.setStore f).tables = s.tables := rfl
@[simp] theorem State.setStore_store (f : Store → Store) : (s.setStore f).store = f s.store := rfl
@[simp] theorem State.setStore_consoles (f : Store → Store) : (s.setStore f).consoles = s.consoles := rfl
@[simp] theorem State.setStore_saw (f : Store → Store) : (s.setStore f).saw = s.saw := rfl
@[simp] theorem State.setStore_lane (f : Store → Store) : (s.setStore f).lane = s.lane := rfl
@[simp] theorem State.setStore_runs (f : Store → Store) : (s.setStore f).runs = s.runs := rfl
@[simp] theorem State.setStore_field (f : Store → Store) : (s.setStore f).field = s.field := rfl
@[simp] theorem State.setStore_ctl (f : Store → Store) : (s.setStore f).ctl = s.ctl := rfl
@[simp] theorem State.setStore_links (f : Store → Store) : (s.setStore f).links = s.links := rfl
@[simp] theorem State.setStore_pending (f : Store → Store) : (s.setStore f).pending = s.pending := rfl

/-! ## setSaw -/

@[simp] theorem State.setSaw_clock (f : SawBus → SawBus) : (s.setSaw f).clock = s.clock := rfl
@[simp] theorem State.setSaw_freeCount (f : SawBus → SawBus) : (s.setSaw f).freeCount = s.freeCount := rfl
@[simp] theorem State.setSaw_tracker (f : SawBus → SawBus) : (s.setSaw f).tracker = s.tracker := rfl
@[simp] theorem State.setSaw_scan (f : SawBus → SawBus) : (s.setSaw f).scan = s.scan := rfl
@[simp] theorem State.setSaw_solver (f : SawBus → SawBus) : (s.setSaw f).solver = s.solver := rfl
@[simp] theorem State.setSaw_tables (f : SawBus → SawBus) : (s.setSaw f).tables = s.tables := rfl
@[simp] theorem State.setSaw_store (f : SawBus → SawBus) : (s.setSaw f).store = s.store := rfl
@[simp] theorem State.setSaw_consoles (f : SawBus → SawBus) : (s.setSaw f).consoles = s.consoles := rfl
@[simp] theorem State.setSaw_saw (f : SawBus → SawBus) : (s.setSaw f).saw = f s.saw := rfl
@[simp] theorem State.setSaw_lane (f : SawBus → SawBus) : (s.setSaw f).lane = s.lane := rfl
@[simp] theorem State.setSaw_runs (f : SawBus → SawBus) : (s.setSaw f).runs = s.runs := rfl
@[simp] theorem State.setSaw_field (f : SawBus → SawBus) : (s.setSaw f).field = s.field := rfl
@[simp] theorem State.setSaw_ctl (f : SawBus → SawBus) : (s.setSaw f).ctl = s.ctl := rfl
@[simp] theorem State.setSaw_links (f : SawBus → SawBus) : (s.setSaw f).links = s.links := rfl
@[simp] theorem State.setSaw_pending (f : SawBus → SawBus) : (s.setSaw f).pending = s.pending := rfl

/-! ## setLane -/

@[simp] theorem State.setLane_clock (f : LogLane → LogLane) : (s.setLane f).clock = s.clock := rfl
@[simp] theorem State.setLane_freeCount (f : LogLane → LogLane) : (s.setLane f).freeCount = s.freeCount := rfl
@[simp] theorem State.setLane_tracker (f : LogLane → LogLane) : (s.setLane f).tracker = s.tracker := rfl
@[simp] theorem State.setLane_scan (f : LogLane → LogLane) : (s.setLane f).scan = s.scan := rfl
@[simp] theorem State.setLane_solver (f : LogLane → LogLane) : (s.setLane f).solver = s.solver := rfl
@[simp] theorem State.setLane_tables (f : LogLane → LogLane) : (s.setLane f).tables = s.tables := rfl
@[simp] theorem State.setLane_store (f : LogLane → LogLane) : (s.setLane f).store = s.store := rfl
@[simp] theorem State.setLane_consoles (f : LogLane → LogLane) : (s.setLane f).consoles = s.consoles := rfl
@[simp] theorem State.setLane_saw (f : LogLane → LogLane) : (s.setLane f).saw = s.saw := rfl
@[simp] theorem State.setLane_lane (f : LogLane → LogLane) : (s.setLane f).lane = f s.lane := rfl
@[simp] theorem State.setLane_runs (f : LogLane → LogLane) : (s.setLane f).runs = s.runs := rfl
@[simp] theorem State.setLane_field (f : LogLane → LogLane) : (s.setLane f).field = s.field := rfl
@[simp] theorem State.setLane_ctl (f : LogLane → LogLane) : (s.setLane f).ctl = s.ctl := rfl
@[simp] theorem State.setLane_links (f : LogLane → LogLane) : (s.setLane f).links = s.links := rfl
@[simp] theorem State.setLane_pending (f : LogLane → LogLane) : (s.setLane f).pending = s.pending := rfl

/-! ## setRuns -/

@[simp] theorem State.setRuns_clock (f : List Run → List Run) : (s.setRuns f).clock = s.clock := rfl
@[simp] theorem State.setRuns_freeCount (f : List Run → List Run) : (s.setRuns f).freeCount = s.freeCount := rfl
@[simp] theorem State.setRuns_tracker (f : List Run → List Run) : (s.setRuns f).tracker = s.tracker := rfl
@[simp] theorem State.setRuns_scan (f : List Run → List Run) : (s.setRuns f).scan = s.scan := rfl
@[simp] theorem State.setRuns_solver (f : List Run → List Run) : (s.setRuns f).solver = s.solver := rfl
@[simp] theorem State.setRuns_tables (f : List Run → List Run) : (s.setRuns f).tables = s.tables := rfl
@[simp] theorem State.setRuns_store (f : List Run → List Run) : (s.setRuns f).store = s.store := rfl
@[simp] theorem State.setRuns_consoles (f : List Run → List Run) : (s.setRuns f).consoles = s.consoles := rfl
@[simp] theorem State.setRuns_saw (f : List Run → List Run) : (s.setRuns f).saw = s.saw := rfl
@[simp] theorem State.setRuns_lane (f : List Run → List Run) : (s.setRuns f).lane = s.lane := rfl
@[simp] theorem State.setRuns_runs (f : List Run → List Run) :
    (s.setRuns f).runs = { s.runs with records := f s.runs.records } := rfl
@[simp] theorem State.setRuns_field (f : List Run → List Run) : (s.setRuns f).field = s.field := rfl
@[simp] theorem State.setRuns_ctl (f : List Run → List Run) : (s.setRuns f).ctl = s.ctl := rfl
@[simp] theorem State.setRuns_links (f : List Run → List Run) : (s.setRuns f).links = s.links := rfl
@[simp] theorem State.setRuns_pending (f : List Run → List Run) : (s.setRuns f).pending = s.pending := rfl

/-! ## setCtl -/

@[simp] theorem State.setCtl_clock (f : ControlPort → ControlPort) : (s.setCtl f).clock = s.clock := rfl
@[simp] theorem State.setCtl_freeCount (f : ControlPort → ControlPort) : (s.setCtl f).freeCount = s.freeCount := rfl
@[simp] theorem State.setCtl_tracker (f : ControlPort → ControlPort) : (s.setCtl f).tracker = s.tracker := rfl
@[simp] theorem State.setCtl_scan (f : ControlPort → ControlPort) : (s.setCtl f).scan = s.scan := rfl
@[simp] theorem State.setCtl_solver (f : ControlPort → ControlPort) : (s.setCtl f).solver = s.solver := rfl
@[simp] theorem State.setCtl_tables (f : ControlPort → ControlPort) : (s.setCtl f).tables = s.tables := rfl
@[simp] theorem State.setCtl_store (f : ControlPort → ControlPort) : (s.setCtl f).store = s.store := rfl
@[simp] theorem State.setCtl_consoles (f : ControlPort → ControlPort) : (s.setCtl f).consoles = s.consoles := rfl
@[simp] theorem State.setCtl_saw (f : ControlPort → ControlPort) : (s.setCtl f).saw = s.saw := rfl
@[simp] theorem State.setCtl_lane (f : ControlPort → ControlPort) : (s.setCtl f).lane = s.lane := rfl
@[simp] theorem State.setCtl_runs (f : ControlPort → ControlPort) : (s.setCtl f).runs = s.runs := rfl
@[simp] theorem State.setCtl_field (f : ControlPort → ControlPort) : (s.setCtl f).field = s.field := rfl
@[simp] theorem State.setCtl_ctl (f : ControlPort → ControlPort) : (s.setCtl f).ctl = f s.ctl := rfl
@[simp] theorem State.setCtl_links (f : ControlPort → ControlPort) : (s.setCtl f).links = s.links := rfl
@[simp] theorem State.setCtl_pending (f : ControlPort → ControlPort) : (s.setCtl f).pending = s.pending := rfl

/-! ## setOutputs -/

@[simp] theorem State.setOutputs_clock (outs : Bank 8 Output) : (s.setOutputs outs).clock = s.clock := rfl
@[simp] theorem State.setOutputs_freeCount (outs : Bank 8 Output) : (s.setOutputs outs).freeCount = s.freeCount := rfl
@[simp] theorem State.setOutputs_tracker (outs : Bank 8 Output) : (s.setOutputs outs).tracker = s.tracker := rfl
@[simp] theorem State.setOutputs_scan (outs : Bank 8 Output) : (s.setOutputs outs).scan = s.scan := rfl
@[simp] theorem State.setOutputs_solver (outs : Bank 8 Output) : (s.setOutputs outs).solver = s.solver := rfl
@[simp] theorem State.setOutputs_tables (outs : Bank 8 Output) : (s.setOutputs outs).tables = s.tables := rfl
@[simp] theorem State.setOutputs_store (outs : Bank 8 Output) : (s.setOutputs outs).store = s.store := rfl
@[simp] theorem State.setOutputs_consoles (outs : Bank 8 Output) : (s.setOutputs outs).consoles = s.consoles := rfl
@[simp] theorem State.setOutputs_saw (outs : Bank 8 Output) : (s.setOutputs outs).saw = s.saw := rfl
@[simp] theorem State.setOutputs_lane (outs : Bank 8 Output) : (s.setOutputs outs).lane = s.lane := rfl
@[simp] theorem State.setOutputs_runs (outs : Bank 8 Output) : (s.setOutputs outs).runs = s.runs := rfl
@[simp] theorem State.setOutputs_field (outs : Bank 8 Output) :
    (s.setOutputs outs).field = { s.field with outputs := outs } := rfl
@[simp] theorem State.setOutputs_ctl (outs : Bank 8 Output) : (s.setOutputs outs).ctl = s.ctl := rfl
@[simp] theorem State.setOutputs_links (outs : Bank 8 Output) : (s.setOutputs outs).links = s.links := rfl
@[simp] theorem State.setOutputs_pending (outs : Bank 8 Output) : (s.setOutputs outs).pending = s.pending := rfl

/-! ## setOutput -/

@[simp] theorem State.setOutput_clock (o : Fin 8) (f : Output → Output) : (s.setOutput o f).clock = s.clock := rfl
@[simp] theorem State.setOutput_freeCount (o : Fin 8) (f : Output → Output) :
    (s.setOutput o f).freeCount = s.freeCount := rfl
@[simp] theorem State.setOutput_tracker (o : Fin 8) (f : Output → Output) : (s.setOutput o f).tracker = s.tracker := rfl
@[simp] theorem State.setOutput_scan (o : Fin 8) (f : Output → Output) : (s.setOutput o f).scan = s.scan := rfl
@[simp] theorem State.setOutput_solver (o : Fin 8) (f : Output → Output) : (s.setOutput o f).solver = s.solver := rfl
@[simp] theorem State.setOutput_tables (o : Fin 8) (f : Output → Output) : (s.setOutput o f).tables = s.tables := rfl
@[simp] theorem State.setOutput_store (o : Fin 8) (f : Output → Output) : (s.setOutput o f).store = s.store := rfl
@[simp] theorem State.setOutput_consoles (o : Fin 8) (f : Output → Output) :
    (s.setOutput o f).consoles = s.consoles := rfl
@[simp] theorem State.setOutput_saw (o : Fin 8) (f : Output → Output) : (s.setOutput o f).saw = s.saw := rfl
@[simp] theorem State.setOutput_lane (o : Fin 8) (f : Output → Output) : (s.setOutput o f).lane = s.lane := rfl
@[simp] theorem State.setOutput_runs (o : Fin 8) (f : Output → Output) : (s.setOutput o f).runs = s.runs := rfl
@[simp] theorem State.setOutput_field (o : Fin 8) (f : Output → Output) :
    (s.setOutput o f).field = { s.field with outputs := s.field.outputs.modify o f } := rfl
@[simp] theorem State.setOutput_ctl (o : Fin 8) (f : Output → Output) : (s.setOutput o f).ctl = s.ctl := rfl
@[simp] theorem State.setOutput_links (o : Fin 8) (f : Output → Output) : (s.setOutput o f).links = s.links := rfl
@[simp] theorem State.setOutput_pending (o : Fin 8) (f : Output → Output) : (s.setOutput o f).pending = s.pending := rfl

/-! ## setInput -/

@[simp] theorem State.setInput_clock (i : Fin 8) (f : Input → Input) : (s.setInput i f).clock = s.clock := rfl
@[simp] theorem State.setInput_freeCount (i : Fin 8) (f : Input → Input) :
    (s.setInput i f).freeCount = s.freeCount := rfl
@[simp] theorem State.setInput_tracker (i : Fin 8) (f : Input → Input) : (s.setInput i f).tracker = s.tracker := rfl
@[simp] theorem State.setInput_scan (i : Fin 8) (f : Input → Input) : (s.setInput i f).scan = s.scan := rfl
@[simp] theorem State.setInput_solver (i : Fin 8) (f : Input → Input) : (s.setInput i f).solver = s.solver := rfl
@[simp] theorem State.setInput_tables (i : Fin 8) (f : Input → Input) : (s.setInput i f).tables = s.tables := rfl
@[simp] theorem State.setInput_store (i : Fin 8) (f : Input → Input) : (s.setInput i f).store = s.store := rfl
@[simp] theorem State.setInput_consoles (i : Fin 8) (f : Input → Input) : (s.setInput i f).consoles = s.consoles := rfl
@[simp] theorem State.setInput_saw (i : Fin 8) (f : Input → Input) : (s.setInput i f).saw = s.saw := rfl
@[simp] theorem State.setInput_lane (i : Fin 8) (f : Input → Input) : (s.setInput i f).lane = s.lane := rfl
@[simp] theorem State.setInput_runs (i : Fin 8) (f : Input → Input) : (s.setInput i f).runs = s.runs := rfl
@[simp] theorem State.setInput_field (i : Fin 8) (f : Input → Input) :
    (s.setInput i f).field = { s.field with inputs := s.field.inputs.modify i f } := rfl
@[simp] theorem State.setInput_ctl (i : Fin 8) (f : Input → Input) : (s.setInput i f).ctl = s.ctl := rfl
@[simp] theorem State.setInput_links (i : Fin 8) (f : Input → Input) : (s.setInput i f).links = s.links := rfl
@[simp] theorem State.setInput_pending (i : Fin 8) (f : Input → Input) : (s.setInput i f).pending = s.pending := rfl

/-! ## setConsole -/

@[simp] theorem State.setConsole_clock (c : Fin 4) (f : Console → Console) : (s.setConsole c f).clock = s.clock := rfl
@[simp] theorem State.setConsole_freeCount (c : Fin 4) (f : Console → Console) :
    (s.setConsole c f).freeCount = s.freeCount := rfl
@[simp] theorem State.setConsole_tracker (c : Fin 4) (f : Console → Console) :
    (s.setConsole c f).tracker = s.tracker := rfl
@[simp] theorem State.setConsole_scan (c : Fin 4) (f : Console → Console) : (s.setConsole c f).scan = s.scan := rfl
@[simp] theorem State.setConsole_solver (c : Fin 4) (f : Console → Console) :
    (s.setConsole c f).solver = s.solver := rfl
@[simp] theorem State.setConsole_tables (c : Fin 4) (f : Console → Console) :
    (s.setConsole c f).tables = s.tables := rfl
@[simp] theorem State.setConsole_store (c : Fin 4) (f : Console → Console) : (s.setConsole c f).store = s.store := rfl
@[simp] theorem State.setConsole_consoles (c : Fin 4) (f : Console → Console) :
    (s.setConsole c f).consoles = s.consoles.modify c f := rfl
@[simp] theorem State.setConsole_saw (c : Fin 4) (f : Console → Console) : (s.setConsole c f).saw = s.saw := rfl
@[simp] theorem State.setConsole_lane (c : Fin 4) (f : Console → Console) : (s.setConsole c f).lane = s.lane := rfl
@[simp] theorem State.setConsole_runs (c : Fin 4) (f : Console → Console) : (s.setConsole c f).runs = s.runs := rfl
@[simp] theorem State.setConsole_field (c : Fin 4) (f : Console → Console) : (s.setConsole c f).field = s.field := rfl
@[simp] theorem State.setConsole_ctl (c : Fin 4) (f : Console → Console) : (s.setConsole c f).ctl = s.ctl := rfl
@[simp] theorem State.setConsole_links (c : Fin 4) (f : Console → Console) : (s.setConsole c f).links = s.links := rfl
@[simp] theorem State.setConsole_pending (c : Fin 4) (f : Console → Console) :
    (s.setConsole c f).pending = s.pending := rfl

/-! ## tellSubscribers -/

@[simp] theorem State.tellSubscribers_clock (f : Console → Console) : (s.tellSubscribers f).clock = s.clock := rfl
@[simp] theorem State.tellSubscribers_freeCount (f : Console → Console) :
    (s.tellSubscribers f).freeCount = s.freeCount := rfl
@[simp] theorem State.tellSubscribers_tracker (f : Console → Console) : (s.tellSubscribers f).tracker = s.tracker := rfl
@[simp] theorem State.tellSubscribers_scan (f : Console → Console) : (s.tellSubscribers f).scan = s.scan := rfl
@[simp] theorem State.tellSubscribers_solver (f : Console → Console) : (s.tellSubscribers f).solver = s.solver := rfl
@[simp] theorem State.tellSubscribers_tables (f : Console → Console) : (s.tellSubscribers f).tables = s.tables := rfl
@[simp] theorem State.tellSubscribers_store (f : Console → Console) : (s.tellSubscribers f).store = s.store := rfl
@[simp] theorem State.tellSubscribers_consoles (f : Console → Console) :
    (s.tellSubscribers f).consoles = s.consoles.map fun c => if c.subscribed then f c else c := rfl
@[simp] theorem State.tellSubscribers_saw (f : Console → Console) : (s.tellSubscribers f).saw = s.saw := rfl
@[simp] theorem State.tellSubscribers_lane (f : Console → Console) : (s.tellSubscribers f).lane = s.lane := rfl
@[simp] theorem State.tellSubscribers_runs (f : Console → Console) : (s.tellSubscribers f).runs = s.runs := rfl
@[simp] theorem State.tellSubscribers_field (f : Console → Console) : (s.tellSubscribers f).field = s.field := rfl
@[simp] theorem State.tellSubscribers_ctl (f : Console → Console) : (s.tellSubscribers f).ctl = s.ctl := rfl
@[simp] theorem State.tellSubscribers_links (f : Console → Console) : (s.tellSubscribers f).links = s.links := rfl
@[simp] theorem State.tellSubscribers_pending (f : Console → Console) : (s.tellSubscribers f).pending = s.pending := rfl

/-! ## setLink -/

@[simp] theorem State.setLink_clock (l : Link) (f : LinkReceiver → LinkReceiver) :
    (s.setLink l f).clock = s.clock := rfl
@[simp] theorem State.setLink_freeCount (l : Link) (f : LinkReceiver → LinkReceiver) :
    (s.setLink l f).freeCount = s.freeCount := rfl
@[simp] theorem State.setLink_tracker (l : Link) (f : LinkReceiver → LinkReceiver) :
    (s.setLink l f).tracker = s.tracker := rfl
@[simp] theorem State.setLink_scan (l : Link) (f : LinkReceiver → LinkReceiver) : (s.setLink l f).scan = s.scan := rfl
@[simp] theorem State.setLink_solver (l : Link) (f : LinkReceiver → LinkReceiver) :
    (s.setLink l f).solver = s.solver := rfl
@[simp] theorem State.setLink_tables (l : Link) (f : LinkReceiver → LinkReceiver) :
    (s.setLink l f).tables = s.tables := rfl
@[simp] theorem State.setLink_store (l : Link) (f : LinkReceiver → LinkReceiver) :
    (s.setLink l f).store = s.store := rfl
@[simp] theorem State.setLink_consoles (l : Link) (f : LinkReceiver → LinkReceiver) :
    (s.setLink l f).consoles = s.consoles := rfl
@[simp] theorem State.setLink_saw (l : Link) (f : LinkReceiver → LinkReceiver) : (s.setLink l f).saw = s.saw := rfl
@[simp] theorem State.setLink_lane (l : Link) (f : LinkReceiver → LinkReceiver) : (s.setLink l f).lane = s.lane := rfl
@[simp] theorem State.setLink_runs (l : Link) (f : LinkReceiver → LinkReceiver) : (s.setLink l f).runs = s.runs := rfl
@[simp] theorem State.setLink_field (l : Link) (f : LinkReceiver → LinkReceiver) :
    (s.setLink l f).field = s.field := rfl
@[simp] theorem State.setLink_ctl (l : Link) (f : LinkReceiver → LinkReceiver) : (s.setLink l f).ctl = s.ctl := rfl
@[simp] theorem State.setLink_links (l : Link) (f : LinkReceiver → LinkReceiver) :
    (s.setLink l f).links = s.links.modify (linkIndex l) f := rfl
@[simp] theorem State.setLink_pending (l : Link) (f : LinkReceiver → LinkReceiver) :
    (s.setLink l f).pending = s.pending := rfl

/-! ## sendOnBus -/

@[simp] theorem State.sendOnBus_clock (f : Frame) : (s.sendOnBus f).clock = s.clock := rfl
@[simp] theorem State.sendOnBus_freeCount (f : Frame) : (s.sendOnBus f).freeCount = s.freeCount := rfl
@[simp] theorem State.sendOnBus_tracker (f : Frame) : (s.sendOnBus f).tracker = s.tracker := rfl
@[simp] theorem State.sendOnBus_scan (f : Frame) : (s.sendOnBus f).scan = s.scan := rfl
@[simp] theorem State.sendOnBus_solver (f : Frame) : (s.sendOnBus f).solver = s.solver := rfl
@[simp] theorem State.sendOnBus_tables (f : Frame) : (s.sendOnBus f).tables = s.tables := rfl
@[simp] theorem State.sendOnBus_store (f : Frame) : (s.sendOnBus f).store = s.store := rfl
@[simp] theorem State.sendOnBus_consoles (f : Frame) : (s.sendOnBus f).consoles = s.consoles := rfl
@[simp] theorem State.sendOnBus_saw (f : Frame) : (s.sendOnBus f).saw = { s.saw with sent := some f.wire } := rfl
@[simp] theorem State.sendOnBus_lane (f : Frame) : (s.sendOnBus f).lane = s.lane := rfl
@[simp] theorem State.sendOnBus_runs (f : Frame) : (s.sendOnBus f).runs = s.runs := rfl
@[simp] theorem State.sendOnBus_field (f : Frame) : (s.sendOnBus f).field = s.field := rfl
@[simp] theorem State.sendOnBus_ctl (f : Frame) : (s.sendOnBus f).ctl = s.ctl := rfl
@[simp] theorem State.sendOnBus_links (f : Frame) : (s.sendOnBus f).links = s.links.modify 9 (·.takeSent f.wire) := rfl
@[simp] theorem State.sendOnBus_pending (f : Frame) : (s.sendOnBus f).pending = s.pending := rfl

/-! ## updateSlot -/

@[simp] theorem State.updateSlot_clock (tag : Nat) (f : Slot → Slot) : (s.updateSlot tag f).clock = s.clock := rfl
@[simp] theorem State.updateSlot_freeCount (tag : Nat) (f : Slot → Slot) :
    (s.updateSlot tag f).freeCount = s.freeCount := rfl
@[simp] theorem State.updateSlot_tracker (tag : Nat) (f : Slot → Slot) :
    (s.updateSlot tag f).tracker = { s.tracker with ring := changeSlot tag f s.tracker.ring } := rfl
@[simp] theorem State.updateSlot_scan (tag : Nat) (f : Slot → Slot) : (s.updateSlot tag f).scan = s.scan := rfl
@[simp] theorem State.updateSlot_solver (tag : Nat) (f : Slot → Slot) : (s.updateSlot tag f).solver = s.solver := rfl
@[simp] theorem State.updateSlot_tables (tag : Nat) (f : Slot → Slot) : (s.updateSlot tag f).tables = s.tables := rfl
@[simp] theorem State.updateSlot_store (tag : Nat) (f : Slot → Slot) : (s.updateSlot tag f).store = s.store := rfl
@[simp] theorem State.updateSlot_consoles (tag : Nat) (f : Slot → Slot) :
    (s.updateSlot tag f).consoles = s.consoles := rfl
@[simp] theorem State.updateSlot_saw (tag : Nat) (f : Slot → Slot) : (s.updateSlot tag f).saw = s.saw := rfl
@[simp] theorem State.updateSlot_lane (tag : Nat) (f : Slot → Slot) : (s.updateSlot tag f).lane = s.lane := rfl
@[simp] theorem State.updateSlot_runs (tag : Nat) (f : Slot → Slot) : (s.updateSlot tag f).runs = s.runs := rfl
@[simp] theorem State.updateSlot_field (tag : Nat) (f : Slot → Slot) : (s.updateSlot tag f).field = s.field := rfl
@[simp] theorem State.updateSlot_ctl (tag : Nat) (f : Slot → Slot) : (s.updateSlot tag f).ctl = s.ctl := rfl
@[simp] theorem State.updateSlot_links (tag : Nat) (f : Slot → Slot) : (s.updateSlot tag f).links = s.links := rfl
@[simp] theorem State.updateSlot_pending (tag : Nat) (f : Slot → Slot) : (s.updateSlot tag f).pending = s.pending := rfl

/-! ## setModule -/

@[simp] theorem State.setModule_clock (m : Fin 2) (f : Module → Module) : (s.setModule m f).clock = s.clock := rfl
@[simp] theorem State.setModule_freeCount (m : Fin 2) (f : Module → Module) :
    (s.setModule m f).freeCount = s.freeCount := rfl
@[simp] theorem State.setModule_tracker (m : Fin 2) (f : Module → Module) : (s.setModule m f).tracker = s.tracker := rfl
@[simp] theorem State.setModule_scan (m : Fin 2) (f : Module → Module) : (s.setModule m f).scan = s.scan := rfl
@[simp] theorem State.setModule_solver (m : Fin 2) (f : Module → Module) : (s.setModule m f).solver = s.solver := rfl
@[simp] theorem State.setModule_tables (m : Fin 2) (f : Module → Module) : (s.setModule m f).tables = s.tables := rfl
@[simp] theorem State.setModule_store (m : Fin 2) (f : Module → Module) : (s.setModule m f).store = s.store := rfl
@[simp] theorem State.setModule_consoles (m : Fin 2) (f : Module → Module) :
    (s.setModule m f).consoles = s.consoles := rfl
@[simp] theorem State.setModule_saw (m : Fin 2) (f : Module → Module) :
    (s.setModule m f).saw = { s.saw with modules := s.saw.modules.modify m f } := rfl
@[simp] theorem State.setModule_lane (m : Fin 2) (f : Module → Module) : (s.setModule m f).lane = s.lane := rfl
@[simp] theorem State.setModule_runs (m : Fin 2) (f : Module → Module) : (s.setModule m f).runs = s.runs := rfl
@[simp] theorem State.setModule_field (m : Fin 2) (f : Module → Module) : (s.setModule m f).field = s.field := rfl
@[simp] theorem State.setModule_ctl (m : Fin 2) (f : Module → Module) : (s.setModule m f).ctl = s.ctl := rfl
@[simp] theorem State.setModule_links (m : Fin 2) (f : Module → Module) : (s.setModule m f).links = s.links := rfl
@[simp] theorem State.setModule_pending (m : Fin 2) (f : Module → Module) : (s.setModule m f).pending = s.pending := rfl

/-! ## reply -/

@[simp] theorem State.reply_clock (f : Frame) : (s.reply f).clock = s.clock := rfl
@[simp] theorem State.reply_freeCount (f : Frame) : (s.reply f).freeCount = s.freeCount := rfl
@[simp] theorem State.reply_tracker (f : Frame) : (s.reply f).tracker = s.tracker := rfl
@[simp] theorem State.reply_scan (f : Frame) : (s.reply f).scan = s.scan := rfl
@[simp] theorem State.reply_solver (f : Frame) : (s.reply f).solver = s.solver := rfl
@[simp] theorem State.reply_tables (f : Frame) : (s.reply f).tables = s.tables := rfl
@[simp] theorem State.reply_store (f : Frame) : (s.reply f).store = s.store := rfl
@[simp] theorem State.reply_consoles (f : Frame) : (s.reply f).consoles = s.consoles := rfl
@[simp] theorem State.reply_saw (f : Frame) : (s.reply f).saw = s.saw := rfl
@[simp] theorem State.reply_lane (f : Frame) : (s.reply f).lane = s.lane := rfl
@[simp] theorem State.reply_runs (f : Frame) : (s.reply f).runs = s.runs := rfl
@[simp] theorem State.reply_field (f : Frame) : (s.reply f).field = s.field := rfl
@[simp] theorem State.reply_ctl (f : Frame) : (s.reply f).ctl = { s.ctl with replies := s.ctl.replies ++ [f] } := rfl
@[simp] theorem State.reply_links (f : Frame) : (s.reply f).links = s.links := rfl
@[simp] theorem State.reply_pending (f : Frame) : (s.reply f).pending = s.pending := rfl

/-! ## Operations that change one part -/

@[simp] theorem State.judge_clock : s.judge.clock = s.clock := rfl
@[simp] theorem State.judge_freeCount : s.judge.freeCount = s.freeCount := rfl
@[simp] theorem State.judge_tracker : s.judge.tracker = s.tracker := rfl
@[simp] theorem State.judge_scan : s.judge.scan = s.scan := rfl
@[simp] theorem State.judge_solver : s.judge.solver = s.solver := rfl
@[simp] theorem State.judge_tables : s.judge.tables = s.tables := rfl
@[simp] theorem State.judge_store : s.judge.store = s.store := rfl
@[simp] theorem State.judge_consoles : s.judge.consoles = s.consoles := rfl
@[simp] theorem State.judge_saw : s.judge.saw = s.saw := rfl
@[simp] theorem State.judge_lane : s.judge.lane = s.lane := rfl
@[simp] theorem State.judge_runs : s.judge.runs = s.runs := rfl
@[simp] theorem State.judge_ctl : s.judge.ctl = s.ctl := rfl
@[simp] theorem State.judge_links : s.judge.links = s.links := rfl
@[simp] theorem State.judge_pending : s.judge.pending = s.pending := rfl
@[simp] theorem State.judge_inputs : s.judge.field.inputs = s.field.inputs := rfl

@[simp] theorem State.pulse_clock (fn : OutputFunction) : (s.pulse fn).clock = s.clock := rfl
@[simp] theorem State.pulse_freeCount (fn : OutputFunction) : (s.pulse fn).freeCount = s.freeCount := rfl
@[simp] theorem State.pulse_tracker (fn : OutputFunction) : (s.pulse fn).tracker = s.tracker := rfl
@[simp] theorem State.pulse_scan (fn : OutputFunction) : (s.pulse fn).scan = s.scan := rfl
@[simp] theorem State.pulse_solver (fn : OutputFunction) : (s.pulse fn).solver = s.solver := rfl
@[simp] theorem State.pulse_tables (fn : OutputFunction) : (s.pulse fn).tables = s.tables := rfl
@[simp] theorem State.pulse_store (fn : OutputFunction) : (s.pulse fn).store = s.store := rfl
@[simp] theorem State.pulse_consoles (fn : OutputFunction) : (s.pulse fn).consoles = s.consoles := rfl
@[simp] theorem State.pulse_saw (fn : OutputFunction) : (s.pulse fn).saw = s.saw := rfl
@[simp] theorem State.pulse_lane (fn : OutputFunction) : (s.pulse fn).lane = s.lane := rfl
@[simp] theorem State.pulse_runs (fn : OutputFunction) : (s.pulse fn).runs = s.runs := rfl
@[simp] theorem State.pulse_ctl (fn : OutputFunction) : (s.pulse fn).ctl = s.ctl := rfl
@[simp] theorem State.pulse_links (fn : OutputFunction) : (s.pulse fn).links = s.links := rfl
@[simp] theorem State.pulse_pending (fn : OutputFunction) : (s.pulse fn).pending = s.pending := rfl
@[simp] theorem State.pulse_inputs (fn : OutputFunction) : (s.pulse fn).field.inputs = s.field.inputs := rfl

@[simp] theorem State.received_clock (l : Link) (p : List Byte) : (s.received l p).clock = s.clock := rfl
@[simp] theorem State.received_freeCount (l : Link) (p : List Byte) : (s.received l p).freeCount = s.freeCount := rfl
@[simp] theorem State.received_tracker (l : Link) (p : List Byte) : (s.received l p).tracker = s.tracker := rfl
@[simp] theorem State.received_scan (l : Link) (p : List Byte) : (s.received l p).scan = s.scan := rfl
@[simp] theorem State.received_solver (l : Link) (p : List Byte) : (s.received l p).solver = s.solver := rfl
@[simp] theorem State.received_tables (l : Link) (p : List Byte) : (s.received l p).tables = s.tables := rfl
@[simp] theorem State.received_store (l : Link) (p : List Byte) : (s.received l p).store = s.store := rfl
@[simp] theorem State.received_consoles (l : Link) (p : List Byte) : (s.received l p).consoles = s.consoles := rfl
@[simp] theorem State.received_saw (l : Link) (p : List Byte) : (s.received l p).saw = s.saw := rfl
@[simp] theorem State.received_lane (l : Link) (p : List Byte) : (s.received l p).lane = s.lane := rfl
@[simp] theorem State.received_runs (l : Link) (p : List Byte) : (s.received l p).runs = s.runs := rfl
@[simp] theorem State.received_field (l : Link) (p : List Byte) : (s.received l p).field = s.field := rfl
@[simp] theorem State.received_ctl (l : Link) (p : List Byte) : (s.received l p).ctl = s.ctl := rfl
@[simp] theorem State.received_pending (l : Link) (p : List Byte) : (s.received l p).pending = s.pending := rfl

@[simp] theorem State.countDiscard_clock (l : Link) : (s.countDiscard l).clock = s.clock := rfl
@[simp] theorem State.countDiscard_freeCount (l : Link) : (s.countDiscard l).freeCount = s.freeCount := rfl
@[simp] theorem State.countDiscard_tracker (l : Link) : (s.countDiscard l).tracker = s.tracker := rfl
@[simp] theorem State.countDiscard_scan (l : Link) : (s.countDiscard l).scan = s.scan := rfl
@[simp] theorem State.countDiscard_solver (l : Link) : (s.countDiscard l).solver = s.solver := rfl
@[simp] theorem State.countDiscard_tables (l : Link) : (s.countDiscard l).tables = s.tables := rfl
@[simp] theorem State.countDiscard_store (l : Link) : (s.countDiscard l).store = s.store := rfl
@[simp] theorem State.countDiscard_consoles (l : Link) : (s.countDiscard l).consoles = s.consoles := rfl
@[simp] theorem State.countDiscard_saw (l : Link) : (s.countDiscard l).saw = s.saw := rfl
@[simp] theorem State.countDiscard_lane (l : Link) : (s.countDiscard l).lane = s.lane := rfl
@[simp] theorem State.countDiscard_runs (l : Link) : (s.countDiscard l).runs = s.runs := rfl
@[simp] theorem State.countDiscard_field (l : Link) : (s.countDiscard l).field = s.field := rfl
@[simp] theorem State.countDiscard_ctl (l : Link) : (s.countDiscard l).ctl = s.ctl := rfl
@[simp] theorem State.countDiscard_pending (l : Link) : (s.countDiscard l).pending = s.pending := rfl

@[simp] theorem State.consoleReply_clock (c : Fin 4) (f : Frame) : (s.consoleReply c f).clock = s.clock := rfl
@[simp] theorem State.consoleReply_freeCount (c : Fin 4) (f : Frame) : (s.consoleReply c f).freeCount = s.freeCount := rfl
@[simp] theorem State.consoleReply_tracker (c : Fin 4) (f : Frame) : (s.consoleReply c f).tracker = s.tracker := rfl
@[simp] theorem State.consoleReply_scan (c : Fin 4) (f : Frame) : (s.consoleReply c f).scan = s.scan := rfl
@[simp] theorem State.consoleReply_solver (c : Fin 4) (f : Frame) : (s.consoleReply c f).solver = s.solver := rfl
@[simp] theorem State.consoleReply_tables (c : Fin 4) (f : Frame) : (s.consoleReply c f).tables = s.tables := rfl
@[simp] theorem State.consoleReply_store (c : Fin 4) (f : Frame) : (s.consoleReply c f).store = s.store := rfl
@[simp] theorem State.consoleReply_saw (c : Fin 4) (f : Frame) : (s.consoleReply c f).saw = s.saw := rfl
@[simp] theorem State.consoleReply_lane (c : Fin 4) (f : Frame) : (s.consoleReply c f).lane = s.lane := rfl
@[simp] theorem State.consoleReply_runs (c : Fin 4) (f : Frame) : (s.consoleReply c f).runs = s.runs := rfl
@[simp] theorem State.consoleReply_field (c : Fin 4) (f : Frame) : (s.consoleReply c f).field = s.field := rfl
@[simp] theorem State.consoleReply_ctl (c : Fin 4) (f : Frame) : (s.consoleReply c f).ctl = s.ctl := rfl
@[simp] theorem State.consoleReply_links (c : Fin 4) (f : Frame) : (s.consoleReply c f).links = s.links := rfl
@[simp] theorem State.consoleReply_pending (c : Fin 4) (f : Frame) : (s.consoleReply c f).pending = s.pending := rfl

@[simp] theorem State.propose_clock (x : Slot) : (s.propose x).clock = s.clock := rfl
@[simp] theorem State.propose_freeCount (x : Slot) : (s.propose x).freeCount = s.freeCount := rfl
@[simp] theorem State.propose_tracker (x : Slot) : (s.propose x).tracker = s.tracker := rfl
@[simp] theorem State.propose_scan (x : Slot) : (s.propose x).scan = s.scan := rfl
@[simp] theorem State.propose_solver (x : Slot) : (s.propose x).solver = s.solver := rfl
@[simp] theorem State.propose_tables (x : Slot) : (s.propose x).tables = s.tables := rfl
@[simp] theorem State.propose_store (x : Slot) : (s.propose x).store = s.store := rfl
@[simp] theorem State.propose_saw (x : Slot) : (s.propose x).saw = s.saw := rfl
@[simp] theorem State.propose_lane (x : Slot) : (s.propose x).lane = s.lane := rfl
@[simp] theorem State.propose_runs (x : Slot) : (s.propose x).runs = s.runs := rfl
@[simp] theorem State.propose_field (x : Slot) : (s.propose x).field = s.field := rfl
@[simp] theorem State.propose_ctl (x : Slot) : (s.propose x).ctl = s.ctl := rfl
@[simp] theorem State.propose_links (x : Slot) : (s.propose x).links = s.links := rfl
@[simp] theorem State.propose_pending (x : Slot) : (s.propose x).pending = s.pending := rfl

@[simp] theorem State.withdraw_clock (tag : Nat) (r : WithdrawReason) : (s.withdraw tag r).clock = s.clock := rfl
@[simp] theorem State.withdraw_freeCount (tag : Nat) (r : WithdrawReason) : (s.withdraw tag r).freeCount = s.freeCount := rfl
@[simp] theorem State.withdraw_tracker (tag : Nat) (r : WithdrawReason) : (s.withdraw tag r).tracker = s.tracker := rfl
@[simp] theorem State.withdraw_scan (tag : Nat) (r : WithdrawReason) : (s.withdraw tag r).scan = s.scan := rfl
@[simp] theorem State.withdraw_solver (tag : Nat) (r : WithdrawReason) : (s.withdraw tag r).solver = s.solver := rfl
@[simp] theorem State.withdraw_tables (tag : Nat) (r : WithdrawReason) : (s.withdraw tag r).tables = s.tables := rfl
@[simp] theorem State.withdraw_store (tag : Nat) (r : WithdrawReason) : (s.withdraw tag r).store = s.store := rfl
@[simp] theorem State.withdraw_saw (tag : Nat) (r : WithdrawReason) : (s.withdraw tag r).saw = s.saw := rfl
@[simp] theorem State.withdraw_lane (tag : Nat) (r : WithdrawReason) : (s.withdraw tag r).lane = s.lane := rfl
@[simp] theorem State.withdraw_runs (tag : Nat) (r : WithdrawReason) : (s.withdraw tag r).runs = s.runs := rfl
@[simp] theorem State.withdraw_field (tag : Nat) (r : WithdrawReason) : (s.withdraw tag r).field = s.field := rfl
@[simp] theorem State.withdraw_ctl (tag : Nat) (r : WithdrawReason) : (s.withdraw tag r).ctl = s.ctl := rfl
@[simp] theorem State.withdraw_links (tag : Nat) (r : WithdrawReason) : (s.withdraw tag r).links = s.links := rfl
@[simp] theorem State.withdraw_pending (tag : Nat) (r : WithdrawReason) : (s.withdraw tag r).pending = s.pending := rfl

end Sys2Proof.Machine
end

