-- ==== Sys2Proof/Laws/Ops.lean ====
section
/-! SUPPORT. What the shared operations can do: one lemma for each, which proofs cite instead of unfolding it. -/

namespace Sys2Proof.Machine

/-! ## Counts that stop -/

theorem bump_eq (n : Nat) : bump n = min (n + 1) 65535 := rfl

/-! ## Slots -/

/-- Changing a slot's record keeps every tag. -/
theorem map_tag_changeSlot (tag : Nat) (f : Slot → Slot) (hf : ∀ x, (f x).tag = x.tag) (ring : List Slot) :
    (changeSlot tag f ring).map (·.tag) = ring.map (·.tag) := by
  unfold changeSlot
  rw [List.map_map]
  apply List.map_congr_left
  intro x _
  simp only [Function.comp]
  split
  · exact hf x
  · rfl

/-- A slot found by its tag is in the ring and has that tag. -/
theorem State.slot?_some {s : State} {tag : Nat} {x : Slot} (h : s.slot? tag = some x) :
    x ∈ s.tracker.ring ∧ x.tag = tag :=
  ⟨List.mem_of_find?_eq_some h, by simpa using List.find?_some h⟩

/-- The slot with the tag just changed, where the change keeps the tag. -/
theorem State.slot?_updateSlot {s : State} {tag : Nat} {f : Slot → Slot} (hf : ∀ x, (f x).tag = x.tag) (t : Nat) :
    (s.updateSlot tag f).slot? t = (s.slot? t).map fun x => if x.tag == tag then f x else x := by
  simp only [State.slot?, State.updateSlot_tracker, changeSlot]
  induction s.tracker.ring with
  | nil => rfl
  | cons y l ih =>
    simp only [List.map_cons, List.find?_cons]
    have hy : (if y.tag == tag then f y else y).tag = y.tag := by
      split
      · exact hf y
      · rfl
    rw [hy]
    by_cases h : (y.tag == t) = true
    · simp [h]
    · simp only [h]
      exact ih

/-! ## Outputs -/

/-- After the outputs are judged, each is driven as its force or its function calls for. -/
theorem State.judge_outputsJudged (s : State) : s.judge.outputsJudged := by
  intro o
  simp only [State.judge, State.setOutputs, Bank.get_ofFn]
  refine ⟨rfl, ?_⟩
  simp only [judgeOutput, judgeWave]
  by_cases h : (s.tables.outputs.get o).function == .beacon && s.alert
  · rw [if_pos h]
    simp only [Bool.and_eq_true, beq_iff_eq] at h
    exact ⟨fun _ => h, fun _ => rfl⟩
  · rw [if_neg h]
    simp only [Bool.and_eq_true, beq_iff_eq] at h
    exact ⟨fun hn => by simp at hn, fun hn => absurd hn h⟩

/-- Judging keeps each output's force and pulse timer. -/
theorem State.judge_output (s : State) (o : Fin 8) :
    (s.judge.field.outputs.get o).force = (s.field.outputs.get o).force
      ∧ (s.judge.field.outputs.get o).pulse = (s.field.outputs.get o).pulse := by
  simp only [State.judge, State.setOutputs, Bank.get_ofFn]
  exact ⟨rfl, rfl⟩

/-- Where nothing is out of date, judging changes nothing. -/
theorem judgeOutput_of_judged {alert call : Bool} {e : OutputEntry} {o : Output}
    (hl : o.level = outputLevel alert call e o) (hw : o.wave.isSome ↔ e.function = .beacon ∧ alert = true) :
    judgeOutput alert call e o = o := by
  have h : judgeWave alert e o.wave = o.wave := by
    unfold judgeWave
    by_cases hc : e.function == .beacon && alert
    · rw [if_pos hc]
      simp only [Bool.and_eq_true, beq_iff_eq] at hc
      obtain ⟨w, hw'⟩ := Option.isSome_iff_exists.mp (hw.mpr hc)
      rw [hw']
      rfl
    · rw [if_neg hc]
      simp only [Bool.and_eq_true, beq_iff_eq] at hc
      cases ho : o.wave with
      | none => rfl
      | some w => exact absurd (hw.mp (by rw [ho]; rfl)) hc
  unfold judgeOutput
  rw [h]
  show { o with level := outputLevel alert call e o } = o
  rw [← hl]

/-- A pulse starts the timer of every output with the function asked for, with its entry's width, and no other. -/
theorem State.pulse_output (s : State) (fn : OutputFunction) (o : Fin 8) :
    ((s.pulse fn).field.outputs.get o).force = (s.field.outputs.get o).force
      ∧ ((s.pulse fn).field.outputs.get o).pulse =
          if (s.tables.outputs.get o).function = fn then some (2 * (s.tables.outputs.get o).width)
          else (s.field.outputs.get o).pulse := by
  unfold State.pulse
  obtain ⟨h1, h2⟩ := State.judge_output (s.setOutputs <| Bank.ofFn fun i =>
    if (s.tables.outputs.get i).function == fn then
      { s.field.outputs.get i with pulse := some (2 * (s.tables.outputs.get i).width) }
    else s.field.outputs.get i) o
  rw [h1, h2]
  simp only [State.setOutputs, Bank.get_ofFn, beq_iff_eq]
  split <;> exact ⟨rfl, rfl⟩

/-! ## Reports and causes -/

/-- Numbers name causes. -/
theorem Cause.number_injective {a b : Cause} (h : a.number = b.number) : a = b := by
  cases a <;> cases b <;> first | rfl | (exact absurd h (by decide))

/-- A cause's bit stands for that cause alone. -/
theorem Cause.getLsbD_bit (a b : Cause) : a.bit.getLsbD b.number.val = decide (b = a) := by
  cases a <;> cases b <;> rfl

/-- Asking for a report changes only the queue, the report number and the dropped-report count. -/
theorem ControlPort.offer_keeps (c : ControlPort) (k : Byte) (p : List Byte) :
    (c.offer k p).replies = c.replies ∧ (c.offer k p).pendingCauses = c.pendingCauses
      ∧ (c.offer k p).alertMask = c.alertMask ∧ (c.offer k p).rate = c.rate
      ∧ (c.offer k p).inProcess = c.inProcess ∧ (c.offer k p).sending = c.sending
      ∧ (c.offer k p).reports.length ≤ max c.reports.length 64 := by
  have hp : Config.reportPlaces = 64 := rfl
  unfold ControlPort.offer
  by_cases h : c.reports.length < Config.reportPlaces
  · rw [if_pos h]
    refine ⟨rfl, rfl, rfl, rfl, rfl, rfl, ?_⟩
    simp only [List.length_append, List.length_singleton]
    omega
  · rw [if_neg h]
    exact ⟨rfl, rfl, rfl, rfl, rfl, rfl, by dsimp only; omega⟩

/-- A report, with the REPORT_OVERFLOW it may raise, clears no cause and keeps the replies, the mask and the rest. -/
theorem ControlPort.report_keeps (c : ControlPort) (k : Byte) (p : List Byte) :
    (c.report k p).replies = c.replies
      ∧ (∀ n, c.pendingCauses.getLsbD n = true → (c.report k p).pendingCauses.getLsbD n = true)
      ∧ (c.report k p).alertMask = c.alertMask ∧ (c.report k p).rate = c.rate
      ∧ (c.report k p).inProcess = c.inProcess ∧ (c.report k p).sending = c.sending
      ∧ (c.report k p).reports.length ≤ max c.reports.length 64 := by
  obtain ⟨h1, h2, h3, h4, h5, h6, h7⟩ := c.offer_keeps k p
  unfold ControlPort.report
  dsimp only
  split
  · exact ⟨h1, fun n hn => by rw [h2]; exact hn, h3, h4, h5, h6, h7⟩
  · unfold ControlPort.pend
    dsimp only
    obtain ⟨g1, g2, g3, g4, g5, g6, g7⟩ := ControlPort.offer_keeps
      { c.offer k p with pendingCauses := (c.offer k p).pendingCauses ||| Cause.reportOverflow.bit } causeKind
      (causePayload .reportOverflow ((c.offer k p).pendingCauses ||| Cause.reportOverflow.bit))
    refine ⟨g1.trans h1, ?_, g3.trans h3, g4.trans h4, g5.trans h5, g6.trans h6, ?_⟩
    · intro n hn
      rw [g2]
      simp [h2, hn]
    · refine Nat.le_trans g7 ?_
      dsimp only
      omega

/-- A report leaves every block but the control port and the outputs. -/
theorem State.report_keeps (s : State) (k : Byte) (p : List Byte) :
    { s.report k p with ctl := s.ctl, field := s.field } = s ∧ (s.report k p).field.inputs = s.field.inputs :=
  ⟨rfl, rfl⟩

/-- Raising a cause leaves every block but the control port and the outputs. -/
theorem State.raise_keeps (s : State) (x : Cause) :
    { s.raise x with ctl := s.ctl, field := s.field } = s ∧ (s.raise x).field.inputs = s.field.inputs := by
  unfold State.raise
  split <;> exact ⟨rfl, rfl⟩

/-- A cause already pending is raised with no effect. -/
theorem State.raise_of_isPending {s : State} {x : Cause} (h : s.isPending x = true) : s.raise x = s := by
  unfold State.raise
  rw [if_pos h]

/-- A cause raised is pending, and every cause that was pending stays so. -/
theorem State.raise_isPending (s : State) (x : Cause) :
    (s.raise x).isPending x = true ∧ ∀ c, s.isPending c = true → (s.raise x).isPending c = true := by
  unfold State.raise
  split
  · rename_i h
    exact ⟨h, fun c hc => hc⟩
  · have hk := ControlPort.report_keeps { s.ctl with pendingCauses := s.ctl.pendingCauses ||| x.bit } causeKind
      (causePayload x (s.ctl.pendingCauses ||| x.bit))
    refine ⟨hk.2.1 _ ?_, fun c hc => hk.2.1 _ ?_⟩
    · simp [Cause.getLsbD_bit]
    · have hc' : s.ctl.pendingCauses.getLsbD c.number.val = true := hc
      simp [hc']

/-- Where every output is judged, they are judged after a raise too. -/
theorem State.raise_outputsJudged {s : State} (x : Cause) (h : s.outputsJudged) : (s.raise x).outputsJudged := by
  unfold State.raise
  split
  · exact h
  · exact State.judge_outputsJudged _

/-! ## Requests and console frames -/

/-- What the port does with a request, by the first check that decides it (R163 to R165). -/
theorem State.request_eq (s : State) (k frameTag : Byte) (p : List Byte) (lengthOk inStarting : Bool)
    (body : State → State) :
    s.request k frameTag p lengthOk inStarting body =
      if 8 ≤ s.ctl.replies.length then (s.received .control p).countDiscard .control
      else if s.ctl.inProcess.isSome then (s.received .control p).refuse k frameTag .busy
      else if !lengthOk then (s.received .control p).refuse k frameTag .badLength
      else if s.tracker.line == .starting && !inStarting then (s.received .control p).refuse k frameTag .busy
      else body (s.received .control p) := rfl

/-- A request that the port takes goes to its owner's body. -/
theorem State.request_taken {s : State} (h : s.portReady) (k frameTag : Byte) (p : List Byte) (b : Bool)
    (body : State → State) (hl : s.tracker.line ≠ .starting ∨ b = true) :
    s.request k frameTag p true b body = body (s.received .control p) := by
  rw [State.request_eq, if_neg (Nat.not_le.mpr h.1), h.2]
  rcases hl with hl | hl <;> simp [hl]

/-- A request that finds 8 replies waiting is discarded and counted (R164). -/
theorem State.request_discarded {s : State} (h : 8 ≤ s.ctl.replies.length) (k frameTag : Byte) (p : List Byte)
    (lengthOk inStarting : Bool) (body : State → State) :
    s.request k frameTag p lengthOk inStarting body = (s.received .control p).countDiscard .control := by
  rw [State.request_eq, if_pos h]

/-- A request that finds another in process is refused BUSY before any other check (R163). -/
theorem State.request_busy {s : State} (h : s.ctl.replies.length < 8) (hp : s.ctl.inProcess.isSome = true)
    (k frameTag : Byte) (p : List Byte) (lengthOk inStarting : Bool) (body : State → State) :
    s.request k frameTag p lengthOk inStarting body = (s.received .control p).refuse k frameTag .busy := by
  rw [State.request_eq, if_neg (Nat.not_le.mpr h), if_pos hp]

/-- A request of a wrong length is refused BAD_LENGTH before the line state is looked at (R163). -/
theorem State.request_badLength {s : State} (h : s.portReady) (k frameTag : Byte) (p : List Byte) (inStarting : Bool)
    (body : State → State) :
    s.request k frameTag p false inStarting body = (s.received .control p).refuse k frameTag .badLength := by
  rw [State.request_eq, if_neg (Nat.not_le.mpr h.1), h.2]
  rfl

/-- In STARTING every request but IDENTIFY and STATUS is refused BUSY (R165). -/
theorem State.request_starting {s : State} (h : s.portReady) (hl : s.tracker.line = .starting) (k frameTag : Byte)
    (p : List Byte) (body : State → State) :
    s.request k frameTag p true false body = (s.received .control p).refuse k frameTag .busy := by
  rw [State.request_eq, if_neg (Nat.not_le.mpr h.1), h.2, hl]
  rfl

/-- A console's frame that is read goes to its rule. -/
theorem State.consoleFrame_taken {α : Type} {s : State} {c : Fin 4} (h : s.consoleReady c) (frameTag : Byte)
    (p : List Byte) (a : α) (take : State → α → State) :
    s.consoleFrame c frameTag p (some a) take = take (s.received (.console c) p) a := by
  have h' : ¬ 8 ≤ (s.consoles.get c).repliesWaiting := Nat.not_le.mpr h
  unfold State.consoleFrame
  exact if_neg h'

/-- A console's request on a piece that passes every check is carried out and answered DONE. -/
theorem State.onPiece_done {s : State} {c : Fin 4} {tag : Nat} {x : Slot} {checks : Slot → Option ConsoleReason}
    (hs : s.slot? tag = some x) (hk : x.kind ≠ .empty) (hw : x.console.window = .open) (hc : checks x = none)
    (frameTag : Byte) (act : State → State) :
    s.onPiece c frameTag tag true checks act =
      (act s).consoleReply c (doneFrame frameTag tag ((((act s).slot? tag).map Slot.generation).getD 0)) := by
  have hk' : (x.kind == SlotKind.empty) = false := by simpa using hk
  simp only [State.onPiece, State.pieceFor, hs, hk', hw, Bool.not_true, Bool.false_eq_true, if_false, hc]

/-! ## Tallies -/

/-- A tally entry leaves every block but the runs, the control port and the outputs. -/
theorem State.enter_keeps (s : State) (seq : Nat) (l : List (Counter × Nat)) :
    { s.enter seq l with runs := s.runs, ctl := s.ctl, field := s.field } = s
      ∧ (s.enter seq l).field.inputs = s.field.inputs
      ∧ (s.enter seq l).runs =
          { s.runs with records := s.runs.records.map fun r => if r.seq == seq then r.countAll l else r } := by
  unfold State.enter
  dsimp only
  split
  · unfold State.raise
    split <;> exact ⟨rfl, rfl, rfl⟩
  · exact ⟨rfl, rfl, rfl⟩

/-- The closing of drained runs changes run states alone. -/
theorem State.closeDrained_keeps (s : State) :
    { s.closeDrained with runs := s.runs } = s ∧ s.closeDrained.runs.lastIssued = s.runs.lastIssued
      ∧ (s.closeDrained.runs.records.map fun r => (r.seq, r.product, r.saturated, r.tally)) =
          s.runs.records.map fun r => (r.seq, r.product, r.saturated, r.tally) := by
  refine ⟨rfl, rfl, ?_⟩
  simp only [State.closeDrained, State.setRuns, List.map_map]
  apply List.map_congr_left
  intro r _
  simp only [Function.comp, Run.closeIfDrained]
  split <;> rfl

/-! ## Frames -/

/-- A frame's wire is six bytes longer than its payload. -/
theorem Frame.length_wire (f : Frame) : f.wire.length = f.payload.length + 6 := by
  simp [Frame.wire, Frame.covered, u16]

/-! ## The CRC -/

theorem crcBit_lt {c : Nat} (h : c < 65536) : crcBit c < 65536 := by
  unfold crcBit
  split
  · exact Nat.mod_lt _ (by decide)
  · next hb =>
    have : ¬c / 2 ^ 15 % 2 = 1 := by simpa [Nat.testBit_eq_decide_div_mod_eq] using hb
    rw [Nat.shiftLeft_eq]
    omega

theorem crcByte_lt {c : Nat} (b : Byte) (h : c < 65536) : crcByte c b < 65536 := by
  have hb : b.toNat <<< 8 < 2 ^ 16 := by
    have := b.isLt
    rw [Nat.shiftLeft_eq]
    omega
  unfold crcByte
  iterate 8 refine crcBit_lt ?_
  exact Nat.xor_lt_two_pow (n := 16) h hb

/-- A CRC takes two bytes. -/
theorem crc16_lt (bytes : List Byte) : crc16 bytes < 65536 := by
  suffices h : ∀ c, c < 65536 → bytes.foldl crcByte c < 65536 from h _ (by decide)
  induction bytes with
  | nil => exact fun _ h => h
  | cons b bs ih => exact fun c h => ih _ (crcByte_lt b h)

/-- A two-byte number is read back from its bytes. -/
theorem word_u8 {n : Nat} (h : n < 65536) : word (u8 (n / 256)) (u8 n) = n := by
  simp only [word, u8, BitVec.toNat_ofNat]
  omega

end Sys2Proof.Machine
end

