-- ==== Sys2Proof/Laws/Links.lean ====
section
/-! SUPPORT. The send queues of the consoles, the bus's receiver and the exchange with the saw modules: what each shared
operation can do. -/

namespace Sys2Proof.Machine

/-! ## The consoles' send queues (R80) -/

/-- A reply that joins: one reply more, the offers as they were. -/
theorem Console.join_counts (c : Console) (f : Frame) :
    (c.join f).repliesWaiting = c.repliesWaiting + 1 ∧ (c.join f).offersWaiting = c.offersWaiting := by
  simp [Console.join, Console.repliesWaiting, Console.offersWaiting, ConsoleFrame.isOffer]

/-- An offer that would join the tail keeps the replies, and at most 32 offers wait if they did before. -/
theorem Console.joinOffer_counts {c : Console} {f : ConsoleFrame} (hf : f.isOffer = true) (h : c.offersWaiting ≤ 32) :
    (c.joinOffer f).repliesWaiting = c.repliesWaiting ∧ (c.joinOffer f).offersWaiting ≤ 32
      ∧ (c.joinOffer f).subscribed = c.subscribed ∧ (c.joinOffer f).sending = c.sending := by
  have hp : Config.offerPlaces = 32 := rfl
  unfold Console.joinOffer
  by_cases hc : c.offersWaiting < Config.offerPlaces
  · rw [if_pos hc]
    refine ⟨by simp [Console.repliesWaiting, hf], ?_, rfl, rfl⟩
    have : ({ c with queue := c.queue ++ [f] } : Console).offersWaiting = c.offersWaiting + 1 := by
      simp [Console.offersWaiting, hf]
    omega
  · rw [if_neg hc]
    exact ⟨rfl, h, rfl, rfl⟩

/-- Frames changed one by one, replies staying replies and offers offers, keep both counts. -/
theorem Console.counts_map (c : Console) (g : ConsoleFrame → ConsoleFrame) (hg : ∀ f, (g f).isOffer = f.isOffer) :
    ({ c with queue := c.queue.map g } : Console).repliesWaiting = c.repliesWaiting
      ∧ ({ c with queue := c.queue.map g } : Console).offersWaiting = c.offersWaiting := by
  constructor
  · simp only [Console.repliesWaiting, List.countP_map]
    congr 1
    funext f
    simp [Function.comp, hg]
  · simp only [Console.offersWaiting, List.countP_map]
    congr 1
    funext f
    simp [Function.comp, hg]

/-- A PROPOSAL made keeps the replies and the bound on offers. -/
theorem Console.propose_counts {c : Console} (tag : Nat) (f : Frame) (h : c.offersWaiting ≤ 32) :
    (c.propose tag f).repliesWaiting = c.repliesWaiting ∧ (c.propose tag f).offersWaiting ≤ 32 := by
  unfold Console.propose
  split
  · obtain ⟨h1, h2⟩ := c.counts_map (fun g => if g.isProposalFor tag then .proposal tag f else g) (by
      intro g
      cases hg : g.isProposalFor tag with
      | false => rfl
      | true => cases g <;> first | rfl | exact absurd hg (by simp [ConsoleFrame.isProposalFor]))
    exact ⟨h1, h2 ▸ h⟩
  · obtain ⟨h1, h2, -⟩ := Console.joinOffer_counts (f := .proposal tag f) rfl h
    exact ⟨h1, h2⟩

/-- A WITHDRAW made keeps the replies and the bound on offers, and leaves no PROPOSAL for its tag. -/
theorem Console.withdraw_counts {c : Console} (tag : Nat) (f : Frame) (h : c.offersWaiting ≤ 32) :
    (c.withdraw tag f).repliesWaiting = c.repliesWaiting ∧ (c.withdraw tag f).offersWaiting ≤ 32
      ∧ ∀ g ∈ (c.withdraw tag f).queue, g.isProposalFor tag = false := by
  have hr : ({ c with queue := c.queue.filter fun g => !g.isProposalFor tag } : Console).repliesWaiting =
      c.repliesWaiting := by
    simp only [Console.repliesWaiting, List.countP_filter]
    congr 1
    funext g
    cases g <;> simp [ConsoleFrame.isOffer, ConsoleFrame.isProposalFor]
  have ho : ({ c with queue := c.queue.filter fun g => !g.isProposalFor tag } : Console).offersWaiting ≤ 32 :=
    Nat.le_trans (List.Sublist.countP_le List.filter_sublist) h
  obtain ⟨h1, h2, -⟩ := Console.joinOffer_counts (f := .withdraw tag f) rfl ho
  refine ⟨h1.trans hr, h2, ?_⟩
  intro g hg
  unfold Console.withdraw Console.joinOffer at hg
  split at hg
  · rcases List.mem_append.mp hg with hg | hg
    · simpa using (List.mem_filter.mp hg).2
    · rw [List.mem_singleton.mp hg]
      rfl
  · simpa using (List.mem_filter.mp hg).2

/-! ## Frames sent on the saw bus (R161) -/

/-- Hunting lengthens nothing. -/
theorem hunt_length_le (l : List Byte) : (hunt l).length ≤ l.length := by
  induction l with
  | nil => simp [hunt]
  | cons b bs ih =>
    unfold hunt
    split
    · simp
    · exact Nat.le_succ_of_le ih

/-- Each judgement takes a byte at least, so with as many of them as bytes are held a receiver is left with an unfinished frame
or nothing. -/
theorem LinkReceiver.settle_incomplete (n : Nat) (r : LinkReceiver) (h : r.held.length ≤ n) :
    judgeBytes (LinkReceiver.settle n r).held = .incomplete := by
  induction n generalizing r with
  | zero => rw [LinkReceiver.settle, List.length_eq_zero_iff.mp (Nat.le_zero.mp h)]; rfl
  | succ n ih =>
    unfold LinkReceiver.settle
    split
    · assumption
    · rename_i hj
      refine ih _ (Nat.le_trans (hunt_length_le _) ?_)
      rw [List.length_tail]
      omega
    · refine ih _ (Nat.le_trans (hunt_length_le _) ?_)
      rw [List.length_drop, frameLength]
      omega

/-- After a frame sent the receiver holds an unfinished frame or nothing (R161). -/
theorem LinkReceiver.takeSent_incomplete (wire : List Byte) (r : LinkReceiver) :
    judgeBytes (r.takeSent wire).held = .incomplete :=
  LinkReceiver.settle_incomplete _ _ (Nat.le_trans (hunt_length_le _) (List.length_append ▸ Nat.le_refl _))
/-! ## The exchange (R106 to R112) -/

/-- A frame sent on the bus: the frame sent and the receiver of the bus, and nothing else (R161). -/
theorem State.sendOnBus_keeps (s : State) (f : Frame) :
    { s.sendOnBus f with saw := s.saw, links := s.links } = s ∧ (s.sendOnBus f).saw = { s.saw with sent := some f.wire }
      ∧ (s.sendOnBus f).links = s.links.modify 9 (·.takeSent f.wire) :=
  ⟨rfl, rfl, rfl⟩

/-- READ STATE sent, or due, changes the exchange, the wait, the frame sent and the bus's receiver alone. -/
theorem State.sendRead_keeps (s : State) (ex : Exchange) :
    { s.sendRead ex with saw := s.saw, links := s.links } = s
      ∧ { (s.sendRead ex).saw with exchange := s.saw.exchange, wait := s.saw.wait, sent := s.saw.sent } = s.saw
      ∧ ∃ p, (s.sendRead ex).saw.exchange = some { ex with phase := p } ∧ (p = .readDue ∨ p = .readState) := by
  unfold State.sendRead
  split
  · exact ⟨rfl, rfl, _, rfl, .inl rfl⟩
  · exact ⟨rfl, rfl, _, rfl, .inr rfl⟩

/-- A module begun, or the exchange ended: the modules and every other block are as before. -/
theorem State.beginModule_keeps (s : State) (tag timeout i : Nat) :
    { s.beginModule tag timeout i with saw := s.saw, links := s.links } = s
      ∧ (s.beginModule tag timeout i).saw.modules = s.saw.modules
      ∧ (s.beginModule tag timeout i).saw.discarded = s.saw.discarded := by
  unfold State.beginModule
  split
  · split
    · unfold State.sendRead
      split <;> exact ⟨rfl, rfl, rfl⟩
    · exact ⟨rfl, rfl, rfl⟩
  · exact ⟨rfl, rfl, rfl⟩

/-- A frame that answers nothing changes the discard count alone (R105). -/
theorem State.discardBus_eq (s : State) :
    s.discardBus = { s with saw := { s.saw with discarded := min (s.saw.discarded + 1) 65535 } } := rfl

end Sys2Proof.Machine
end

