-- ==== Sys2Proof/Laws/Memory.lean ====
section
/-! SUPPORT. The image memory: reading after a write, and every operation keeps the canonical form. -/

namespace Sys2Proof.Machine

/-! ## Reading -/

/-- An address below every listed one reads as blank. -/
theorem memRead_of_below {m : List Host.Cell} {lo a : Nat} (h : memWfAbove (some lo) m = true) (ha : a ≤ lo) :
    memRead m a = blankByte := by
  cases m with
  | nil => rfl
  | cons c r =>
    obtain ⟨b, v⟩ := c
    simp only [memWfAbove, Bool.and_eq_true, decide_eq_true_eq] at h
    simp only [memRead]
    rw [if_neg (by omega), if_pos (by omega)]

/-- A byte read at the address just put in front. -/
theorem memRead_memCons (a : Nat) (v : Byte) {m : List Host.Cell} (h : memWfAbove (some a) m = true) (x : Nat) :
    memRead (memCons a v m) x = if x = a then v else memRead m x := by
  unfold memCons
  by_cases hv : v = blankByte
  · rw [if_pos hv]
    by_cases hx : x = a
    · rw [if_pos hx, hx, memRead_of_below h (Nat.le_refl a), hv]
    · rw [if_neg hx]
  · rw [if_neg hv]
    simp only [memRead]
    by_cases hx : x = a
    · rw [if_pos hx, if_pos hx]
    · rw [if_neg hx, if_neg hx]
      by_cases hl : x < a
      · rw [if_pos hl, memRead_of_below h (Nat.le_of_lt hl)]
      · rw [if_neg hl]

/-- A raised lower bound weakens the form. -/
theorem memWfAbove_mono {m : List Host.Cell} {lo lo' : Nat} (h : memWfAbove (some lo') m = true) (hl : lo ≤ lo') :
    memWfAbove (some lo) m = true := by
  cases m with
  | nil => rfl
  | cons c r =>
    obtain ⟨b, v⟩ := c
    simp only [memWfAbove, Bool.and_eq_true, decide_eq_true_eq] at h ⊢
    exact ⟨⟨by omega, h.1.2⟩, h.2⟩

/-- A bound below every listed address may be put in or left out. -/
theorem memWfAbove_none {m : List Host.Cell} {lo : Nat} (h : memWfAbove (some lo) m = true) :
    memWfAbove none m = true := by
  cases m with
  | nil => rfl
  | cons c r =>
    simp only [memWfAbove, Bool.and_eq_true] at h ⊢
    exact ⟨⟨trivial, h.1.2⟩, h.2⟩

/-- A byte in front of higher addresses keeps the form. -/
theorem memWfAbove_memCons {lo : Option Nat} (a : Nat) (v : Byte) {m : List Host.Cell}
    (h : memWfAbove (some a) m = true) (hl : ∀ b, lo = some b → b < a) : memWfAbove lo (memCons a v m) = true := by
  unfold memCons
  by_cases hv : v = blankByte
  · rw [if_pos hv]
    cases lo with
    | none => exact memWfAbove_none h
    | some b => exact memWfAbove_mono h (Nat.le_of_lt (hl b rfl))
  · rw [if_neg hv]
    cases lo with
    | none => simp [memWfAbove, hv, h]
    | some b => simp [memWfAbove, hv, h, hl b rfl]

/-! ## One byte written -/

/-- A write keeps the canonical form, above any bound below the address written. -/
theorem memWfAbove_memWrite {m : List Host.Cell} (a : Nat) (v : Byte) {lo : Option Nat}
    (h : memWfAbove lo m = true) (hl : ∀ b, lo = some b → b < a) : memWfAbove lo (memWrite m a v) = true := by
  induction m generalizing lo with
  | nil => exact memWfAbove_memCons a v rfl hl
  | cons c r ih =>
    obtain ⟨b, w⟩ := c
    simp only [memWfAbove, Bool.and_eq_true] at h
    simp only [memWrite]
    by_cases h1 : a < b
    · rw [if_pos h1]
      refine memWfAbove_memCons a v ?_ hl
      simp only [memWfAbove, Bool.and_eq_true, decide_eq_true_eq]
      exact ⟨⟨h1, h.1.2⟩, h.2⟩
    · rw [if_neg h1]
      by_cases h2 : a = b
      · rw [if_pos h2]
        exact memWfAbove_memCons a v (h2 ▸ h.2) hl
      · rw [if_neg h2]
        simp only [memWfAbove, Bool.and_eq_true]
        refine ⟨h.1, ih h.2 ?_⟩
        intro x hx
        cases hx
        omega

/-- A write keeps the canonical form. -/
theorem memWf_memWrite {m : List Host.Cell} (a : Nat) (v : Byte) (h : memWf m = true) : memWf (memWrite m a v) = true :=
  memWfAbove_memWrite a v h (by intro b hb; cases hb)

/-- A byte read after a write: the byte written at its address, and every other address as before. -/
theorem memRead_memWrite {m : List Host.Cell} (a : Nat) (v : Byte) {lo : Option Nat} (h : memWfAbove lo m = true)
    (x : Nat) : memRead (memWrite m a v) x = if x = a then v else memRead m x := by
  induction m generalizing lo with
  | nil => exact memRead_memCons a v rfl x
  | cons c r ih =>
    obtain ⟨b, w⟩ := c
    simp only [memWfAbove, Bool.and_eq_true] at h
    simp only [memWrite]
    by_cases h1 : a < b
    · rw [if_pos h1]
      refine memRead_memCons a v ?_ x
      simp only [memWfAbove, Bool.and_eq_true, decide_eq_true_eq]
      exact ⟨⟨h1, h.1.2⟩, h.2⟩
    · rw [if_neg h1]
      by_cases h2 : a = b
      · rw [if_pos h2, memRead_memCons a v (h2 ▸ h.2) x]
        simp only [memRead]
        by_cases hx : x = a
        · rw [if_pos hx, if_pos hx]
        · rw [if_neg hx, if_neg hx, if_neg (h2 ▸ hx)]
          by_cases hb : x < b
          · rw [if_pos hb, memRead_of_below h.2 (Nat.le_of_lt hb)]
          · rw [if_neg hb]
      · rw [if_neg h2]
        simp only [memRead]
        by_cases hb : x = b
        · rw [if_pos hb, if_pos hb, if_neg (by omega)]
        · rw [if_neg hb, if_neg hb]
          by_cases hlt : x < b
          · rw [if_pos hlt, if_pos hlt, if_neg (by omega)]
          · rw [if_neg hlt, if_neg hlt, ih h.2]

/-! ## Several bytes written -/

/-- Bytes written keep the canonical form. -/
theorem memWf_memWriteBytes {m : List Host.Cell} (a : Nat) (vs : List Byte) (h : memWf m = true) :
    memWf (memWriteBytes m a vs) = true := by
  induction vs generalizing m a with
  | nil => exact h
  | cons v vs ih => exact ih (a + 1) (memWf_memWrite a v h)

/-- A byte read after bytes are written from `a` on: the byte written at its place, and every other address as before. -/
theorem memRead_memWriteBytes {m : List Host.Cell} (a : Nat) (vs : List Byte) (h : memWf m = true) (x : Nat) :
    memRead (memWriteBytes m a vs) x = if a ≤ x then (vs[x - a]?).getD (memRead m x) else memRead m x := by
  induction vs generalizing m a with
  | nil => simp [memWriteBytes]
  | cons v vs ih =>
    simp only [memWriteBytes]
    rw [ih (a + 1) (memWf_memWrite a v h), memRead_memWrite a v h x]
    by_cases h1 : x = a
    · subst h1
      rw [if_neg (by omega), if_pos rfl, if_pos (Nat.le_refl x)]
      simp
    · by_cases h2 : a ≤ x
      · rw [if_pos (by omega), if_neg h1, if_pos h2, show x - a = (x - (a + 1)) + 1 by omega]
        rfl
      · rw [if_neg (by omega), if_neg h1, if_neg h2]

/-- The bytes read from where bytes were just written are those bytes. -/
theorem memReadBytes_memWriteBytes {m : List Host.Cell} (a : Nat) (vs : List Byte) (h : memWf m = true) :
    memReadBytes (memWriteBytes m a vs) a vs.length = vs := by
  induction vs generalizing m a with
  | nil => rfl
  | cons v vs ih =>
    simp only [List.length_cons, memReadBytes]
    rw [memRead_memWriteBytes a (v :: vs) h a, if_pos (Nat.le_refl a)]
    simp only [Nat.sub_self, List.getElem?_cons_zero, Option.getD_some, memWriteBytes]
    rw [ih (a + 1) (memWf_memWrite a v h)]

/-! ## The pages of a save -/

/-- Bytes read from within a stretch of the memory are those of that stretch. -/
theorem memReadBytes_within (m : List Host.Cell) (a : Nat) {k n total : Nat} (h : k + n ≤ total) :
    memReadBytes m (a + k) n = ((memReadBytes m a total).drop k).take n := by
  induction k generalizing a total with
  | zero =>
    rw [List.drop_zero, Nat.add_zero]
    induction n generalizing a total with
    | zero => rfl
    | succ n ih =>
      obtain ⟨t, rfl⟩ : ∃ t, total = t + 1 := ⟨total - 1, by omega⟩
      show memRead m a :: memReadBytes m (a + 1) n = memRead m a :: (memReadBytes m (a + 1) t).take n
      rw [ih (a + 1) (by omega : 0 + n ≤ t)]
  | succ k ih =>
    obtain ⟨t, rfl⟩ : ∃ t, total = t + 1 := ⟨total - 1, by omega⟩
    rw [show a + (k + 1) = (a + 1) + k by omega, ih (a + 1) (by omega : k + n ≤ t)]
    rfl

/-- A page write keeps the canonical form. -/
theorem memWf_pageWritten {m : List Host.Cell} (image : List Byte) (w : Nat) (h : memWf m = true) :
    memWf (pageWritten m image w) = true :=
  memWf_memWriteBytes _ _ h

/-- A page left open keeps the canonical form, whatever it holds. -/
theorem memWf_pageLeftOpen {m : List Host.Cell} (n : Nat) (image : List Byte) (w : Nat) (h : memWf m = true) :
    memWf (pageLeftOpen n m image w) = true :=
  memWf_memWriteBytes _ _ h

/-- A page write that timed out keeps the canonical form, whatever it left. -/
theorem memWf_pageTorn {m : List Host.Cell} (n : Nat) (image : List Byte) (w : Nat) (h : memWf m = true) :
    memWf (pageTorn n m image w) = true := by
  unfold pageTorn
  split
  · exact memWf_pageLeftOpen n image w h
  · exact h

/-- The bytes of one page are at most 64. -/
theorem pageBytes_length_le (image : List Byte) (w : Nat) : (pageBytes image w).length ≤ 64 := by
  unfold pageBytes
  exact List.length_take_le _ _

/-- At most 64 bytes written from the start of a page change no byte outside it. -/
theorem memRead_memWriteBytes_of_outside {m : List Host.Cell} (p : Nat) {vs : List Byte} (hlen : vs.length ≤ 64)
    (h : memWf m = true) {a : Nat} (ha : ¬(64 * p ≤ a ∧ a < 64 * p + 64)) :
    memRead (memWriteBytes m (pageSize * p) vs) a = memRead m a := by
  rw [memRead_memWriteBytes _ _ h]
  split
  · rename_i hle
    simp only [pageSize] at hle ⊢
    rw [List.getElem?_eq_none (by omega)]
    rfl
  · rfl

/-- A page write changes no byte outside its page. -/
theorem memRead_pageWritten_of_outside {m : List Host.Cell} (image : List Byte) (w : Nat) (h : memWf m = true) {a : Nat}
    (ha : ¬(64 * pageOf w ≤ a ∧ a < 64 * pageOf w + 64)) : memRead (pageWritten m image w) a = memRead m a :=
  memRead_memWriteBytes_of_outside (pageOf w) (pageBytes_length_le image w) h ha

/-- A page left open changes no byte outside it. -/
theorem memRead_pageLeftOpen_of_outside {m : List Host.Cell} (n : Nat) (image : List Byte) (w : Nat) (h : memWf m = true)
    {a : Nat} (ha : ¬(64 * pageOf w ≤ a ∧ a < 64 * pageOf w + 64)) :
    memRead (pageLeftOpen n m image w) a = memRead m a :=
  memRead_memWriteBytes_of_outside (pageOf w) (by simpa using pageBytes_length_le image w) h ha

/-- The memory at reset has the canonical form. -/
theorem memWf_reset : memWf State.reset.store.memory = true := rfl

/-- Every part of the Table Store that writes the memory keeps its form. -/
theorem memWf_pageDone {t : Store} (h : memWf t.memory = true) : memWf t.pageDone.memory = true := by
  unfold Store.pageDone
  split
  · rename_i job _
    have := memWf_pageWritten job.image job.write h
    dsimp only
    split <;> exact this
  · exact h

/-- A save stopped by a restart keeps the form of the memory. -/
theorem memWf_stopSave {t : Store} (h : memWf t.memory = true) : memWf t.stopSave.memory = true := by
  unfold Store.stopSave
  split
  · exact memWf_pageWritten _ _ h
  · exact h

/-- A loss of power keeps the form of the memory, whatever it leaves of a page write in progress. -/
theorem memWf_memoryAtPowerLoss {s : State} (h : memWf s.store.memory = true) : memWf s.memoryAtPowerLoss = true := by
  unfold State.memoryAtPowerLoss
  split
  · exact memWf_pageLeftOpen _ _ _ h
  · exact h

end Sys2Proof.Machine
end

