-- ==== Sys2Proof/Tests/Slice0.lean ====
section
/-! SUPPORT. Tests of one step each with expected values from the manual's text, the refusals of ill-formed commands, and for
every statement with hypotheses a state that meets them. -/

namespace Sys2Proof.Tests

open Sys2Proof.Machine

set_option Elab.async false

/-! ## The states of the tests -/

/-- The state after a step, or the state itself where the step gives none. -/
def after (o : Host.Outcome State Fault Refusal) (s : State) : State :=
  match o with
  | .next t => t
  | .fault _ => s
  | .refused _ => s

/-- The state after one command. -/
def run (c : Instr) (s : State) : State := after (exec c s) s

/-- A small line: 2 saws of pitch 4, so 4 cells and one span; K 64, W 16; SD 2, GW 3, CM 4, TR 5, EX 6. -/
def geo : Geometry :=
  { saws := 2, pitch := 4, lugPitch := 64, halfWidth := 16, stopTime := 100, sd := 2, gw := 3, cm := 4, ex := 6 }

/-- Inputs 0 to 2 are the lug sensor, the board eye and the trim inhibit; outputs 0 to 4 drive each function in turn. -/
def tables : Tables :=
  { Tables.default with
    geometry := geo
    heads := Bank.ofFn fun i => { base := i.val, span := 1, reversed := i.val == 1, enabled := true }
    inputs := Bank.ofFn fun i =>
      { function := (match i.val with | 0 => .lug | 1 => .boardEye | 2 => .trimInhibit | _ => .none),
        polarity := .activeHigh, filter := 2 }
    outputs := Bank.ofFn fun i =>
      { function := (match i.val with
          | 0 => .fire | 1 => .kick | 2 => .alert | 3 => .beacon | 4 => .graderCall | _ => .none),
        width := 50, rate := .one, callGrade := 5 }
    sawBus := { modules := 1, timeout := 3 } }

/-- A sound cell. -/
def sound : Cell := .present { thickness := 380, width := 900, wane := 10, knot := 0, split := false, decay := false }

/-- A scan with four sound cells, expecting every head. -/
def scanOf (status : ScanStatus) (last : Bool) (handedOver : Bool) : ScanRecord :=
  { cells := List.replicate 4 sound, expected := Bank.fill 4 true, last := Bank.fill 4 last, status := status,
    deadlinePassed := false, extent := if status = .open then none else some 4, scanPartial := false, noProfile := false,
    handedOver := handedOver }

/-- The solution KEEP 0 to 1 at grade 6 and value 10. -/
def solution : Solution :=
  { keep := some { a := 0, b := 1, grade := .graded 6, value := 10 }, noSpan := false, generation := 0, source := .solver,
    cellGrades := List.replicate 4 (.grade 1) }

/-- The commit record of that solution. -/
def committed (result : ModuleResult) : CommitRecord :=
  { keep := solution.keep, noSpan := false, source := .solver, generation := some 0, overrideMissed := false,
    inhibited := false, pattern := [false, false], results := Bank.fill 2 result, masks := Bank.fill 2 none,
    manualConflict := false, trimMissed := false, trimmed := false }

/-- A solve record. -/
def solveOf (status : SolveStatus) (sol : Option Solution) : SolveRecord :=
  { status := status, solution := sol, reSolve := false, generation := 0 }

/-- A console record. -/
def consoleOf (w : Window) (holder : Option (Fin 4)) : ConsoleRecord :=
  { window := w, holder := holder, overrides := Overrides.empty }

/-- A BOARD slot. -/
def board (tag offset : Nat) (passed : List Station) (scan : ScanRecord) (solve : Option SolveRecord) (c : ConsoleRecord)
    (commit : Option CommitRecord) : Slot :=
  { tag := tag, offset := offset, kind := .board, eye := true, run := 1, lugSynth := false, passed := passed, scan := scan,
    solve := solve, console := c, commit := commit }

/-- Tag 2, in the window, with a holder and a solve record of one's choice. -/
def piece2 (holder : Option (Fin 4)) (solve : SolveRecord) : Slot :=
  board 2 3 [.sd, .gw] (scanOf .complete true true) (some solve) (consoleOf .open holder) none

/-- Six slots: tag 0 about to exit, tag 1 past CM, tag 2 in the window, tag 3 queued, tag 4 with an open scan, tag 5 at
offset 0. -/
def ringWith (two : Slot) : List Slot :=
  [ board 0 5 [.sd, .gw, .cm, .tr] (scanOf .complete true true) (some (solveOf .closed (some solution)))
      (consoleOf .closed none) (some (committed .accepted)),
    board 1 4 [.sd, .gw, .cm] (scanOf .complete true true) (some (solveOf .closed (some solution)))
      (consoleOf .closed none) (some (committed .notStarted)),
    two,
    board 3 2 [.sd] (scanOf .complete true true) (some (solveOf .queued none)) (consoleOf .before none) none,
    { board 4 1 [] (scanOf .open false false) none (consoleOf .before none) none with
      scan := { scanOf .open false false with last := ⟨[true, true, true, false], rfl⟩ } },
    { board 5 0 [] (scanOf .open false false) none (consoleOf .before none) none with kind := .undecided, eye := false } ]

/-- A run with `n` pieces scanned and nothing else counted. -/
def runOf (seq n : Nat) (state : RunState) : Run :=
  { seq := seq, product := 0, state := state, saturated := false, tally := { Tally.zero with scanned := n } }

/-- A line that runs, its next count or lug pulse an advance, with every input's filter timer running towards ACTIVE. -/
def lineWith (two : Slot) : State :=
  ({ State.reset with
    tracker :=
      { State.reset.tracker with
        pos := 60, lastAdvance := .sensed, nextTag := 6, line := .running, stopTimer := some 200, ring := ringWith two }
    scan := { State.reset.scan with heads := Bank.fill 4 { status := .up, misses := 2 } }
    tables := tables
    store := { State.reset.store with activity := .idle }
    consoles := Bank.ofFn fun c => { subscribed := c.val == 0, queue := [], sending := none, dropped := 0 }
    saw :=
      { State.reset.saw with
        modules := Bank.fill 2
          { online := true, lastRead := none, lastFault := none, retries := 0, timeouts := 0, faults := 0 } }
    runs := { records := [runOf 1 5 .both], lastIssued := 1 }
    field :=
      { State.reset.field with
        inputs := Bank.ofFn fun i => { pin := i.val < 3, filtered := false, timer := some 4 } }
    ctl := { State.reset.ctl with pendingCauses := 0, reports := [] } } : State).judge

/-- The line with its piece in the window solved and free. -/
def line : State := lineWith (piece2 none (solveOf .solved (some solution)))

/-- Part right after its image load has ended, line STOPPED and ring empty. -/
def ready : State := run .imageLoadEnd State.reset

/-! ## Soundness of the sample states -/

/-- A run of the samples: only the scanned counter is not 0. -/
abbrev plainRun (r : Run) : Prop :=
  r.tally = { Tally.zero with scanned := r.tally.scanned } ∧ r.tally.scanned < Config.tallyMax

theorem plainRun_countersKept {r : Run} (h : plainRun r) : r.countersKept := by
  intro c
  obtain ⟨h1, h2⟩ := h
  have hz : ∀ c : Counter, c ≠ .scanned → r.tally.get c = 0 := by
    intro c hc
    rw [h1]
    cases c with
    | scanned => exact absurd rfl hc
    | kept g l => simp [Tally.get, Tally.zero]
    | volume g => simp [Tally.get, Tally.zero]
    | logClass k => simp [Tally.get, Tally.zero]
    | flag f => cases f <;> rfl
    | rejected f => cases f <;> rfl
    | _ => rfl
  by_cases hc : c = .scanned
  · subst hc; exact ⟨Nat.le_of_lt h2, fun _ => h2⟩
  · rw [hz c hc]; exact ⟨Nat.zero_le _, fun _ => by decide⟩

/-- The request in process is as R70 and R75 have it, as a test that evaluates. -/
def requestOk (s : State) : Bool :=
  (match s.heldWrite with | some w => w.entry.kind == .gradeSet || w.entry.kind == .priceRow | none => true)
    && (match s.store.activity with | .loading (.request _) => s.ctl.inProcess == some .imageLoad | _ => true)

theorem requestKept_of_ok {s : State} (h : requestOk s = true) : s.requestKept := by
  unfold requestOk at h
  simp only [Bool.and_eq_true] at h
  obtain ⟨h1, h2⟩ := h
  refine ⟨?_, ?_⟩
  · intro w hw
    rw [hw] at h1
    simpa using h1
  · intro tag ht
    rw [ht] at h2
    simpa using h2

/-- The ring's invariant, as a proposition that evaluates. -/
abbrev ringOk (s : State) : Prop :=
  (s.tracker.ring.map (·.offset)).Pairwise (· > ·)
    ∧ (∀ x ∈ s.tracker.ring, x.offset ≤ 30 ∧ Station.ex ∉ x.passed ∧ (x.kind = .undecided ↔ x.offset = 0))
    ∧ s.tracker.ring.map (·.tag) =
        (List.range s.tracker.ring.length).map (tagBefore s.tracker.nextTag s.tracker.ring.length)
    ∧ s.tracker.nextTag < 65536

/-- The run table's invariant for plain runs, as two propositions that evaluate. -/
abbrev runsOk (s : State) : Prop :=
  (s.runs.records.map (·.seq)).Pairwise (· < ·)
    ∧ (∀ r ∈ s.runs.records, 1 ≤ r.seq ∧ r.seq ≤ s.runs.lastIssued ∧ plainRun r)

abbrev openRunsOk (s : State) : Prop :=
  s.runs.lastIssued ≤ 65535 ∧ s.runs.records.length ≤ 16
    ∧ s.runs.records.countP (·.state.logCurrent) = 1 ∧ s.runs.records.countP (·.state.boardCurrent) = 1
    ∧ s.boardSeq ≤ s.logSeq
    ∧ (∀ r ∈ s.runs.records,
        (r.state = .draining → s.openSlots r.seq ≠ 0) ∧ (r.state = .closed → s.openSlots r.seq = 0))
    ∧ ∀ x ∈ s.tracker.ring, x.kind ≠ .empty → (s.run? x.run).isSome

/-- The rest of the invariant. -/
abbrev restOk (s : State) : Prop :=
  s.memoryKept ∧ s.geometryKept ∧ s.posKept ∧ s.exchangeKept ∧ s.claimsKept ∧ requestOk s = true

theorem inv_of {s : State} (h : restOk s) (ring : ringOk s) (slots : s.slotsKept) (queues : s.queuesKept)
    (runs : runsOk s) (opens : openRunsOk s) : s.Inv :=
  ⟨h.1, h.2.1, h.2.2.1, ring, slots, h.2.2.2.1, h.2.2.2.2.1, queues,
    ⟨runs.1, fun r hr => ⟨(runs.2 r hr).1, (runs.2 r hr).2.1, plainRun_countersKept (runs.2 r hr).2.2⟩, opens⟩,
    requestKept_of_ok h.2.2.2.2.2⟩

theorem line_inv : line.Inv :=
  inv_of (by decide +kernel) (by decide +kernel) (by decide +kernel) (by decide +kernel) (by decide +kernel)
    (by decide +kernel)

theorem ready_inv : ready.Inv :=
  inv_of (by decide +kernel) (by decide +kernel) (by decide +kernel) (by decide +kernel) (by decide +kernel)
    (by decide +kernel)

/-! ## A state for every statement's hypotheses -/

theorem witness_StepTakesFrontCommand : State.reset.pending = [] := rfl

theorem witness_LineClearEmptiesTheLine :
    line.Inv ∧ line.serving ∧ (line.consoles.get 0).subscribed = true ∧ (line.consoles.get 1).subscribed = false
      ∧ piece2 none (solveOf .solved (some solution)) ∈ line.tracker.ring
      ∧ (line.consoles.get 0).offersWaiting
        + (line.tracker.ring.filter fun x => decide (x.kind = .board ∧ x.console.window = .open)).length ≤ 32 :=
  ⟨line_inv, by decide +kernel⟩

/-- The line with its run a few lost pieces below the greatest count. -/
def losing : State :=
  { line with
    runs :=
      { line.runs with
        records := [{ runOf 1 5 .both with tally := { Tally.zero with scanned := 5, lost := Config.tallyMax - 5 } }] } }

theorem losing_countersKept : ∀ r ∈ losing.runs.records, r.countersKept := by
  intro r hr c
  obtain rfl : r = { runOf 1 5 .both with tally := { Tally.zero with scanned := 5, lost := Config.tallyMax - 5 } } := by
    simpa [losing] using hr
  cases c with
  | kept g l => simp [runOf, Tally.get, Tally.zero, Config.tallyMax]
  | volume g => simp [runOf, Tally.get, Tally.zero, Config.tallyMax]
  | logClass k => simp [runOf, Tally.get, Tally.zero, Config.tallyMax]
  | flag f => cases f <;> decide
  | rejected f => cases f <;> decide
  | _ => decide

/-- A line clear that loses the piece that stops a counter. -/
theorem witness_LineClearEmptiesTheLine_saturates :
    losing.Inv ∧ losing.serving ∧ losing.outputsJudged
      ∧ ∃ r ∈ losing.runs.records, r.saturated = false ∧ Config.tallyMax ≤ r.tally.lost + losing.boardSlots r.seq :=
  have h : restOk losing := by decide +kernel
  have runs : (losing.runs.records.map (·.seq)).Pairwise (· < ·) ∧ openRunsOk losing
      ∧ ∀ r ∈ losing.runs.records, 1 ≤ r.seq ∧ r.seq ≤ losing.runs.lastIssued := by decide +kernel
  ⟨⟨h.1, h.2.1, h.2.2.1, (by decide +kernel : ringOk losing), by decide +kernel, h.2.2.2.1, h.2.2.2.2.1, by decide +kernel,
    ⟨runs.1, fun r hr => ⟨(runs.2.2 r hr).1, (runs.2.2 r hr).2, losing_countersKept r hr⟩, runs.2.1⟩,
    requestKept_of_ok h.2.2.2.2.2⟩, by decide +kernel⟩

theorem witness_RestartWaitsForItsReply :
    line.serving ∧ line.ctl.inProcess ≠ some .restart
      ∧ let s := run (.restart 9 []) line
        s.ctl.inProcess = some .restart ∧ ∃ f ∈ s.ctl.replies, f.kind = 0x92 := by
  decide +kernel

/-- The line with a RESTART in process whose reply has left. -/
def restarting : State := { line with ctl := { line.ctl with inProcess := some .restart } }

theorem witness_RestartResetsEveryBlock :
    restarting.Inv ∧ restarting.ctl.inProcess = some .restart ∧ ∀ f ∈ restarting.ctl.replies, f.kind ≠ 0x92 :=
  ⟨inv_of (by decide +kernel) (by decide +kernel) (by decide +kernel) (by decide +kernel) (by decide +kernel)
    (by decide +kernel), by decide +kernel⟩

/-- The same with a save at its write 3, of an image of sevens. -/
def restartingInSave : State :=
  { restarting with
    store := { restarting.store with activity := .saving { image := List.replicate 256 7, write := 3, left := 80 } } }

theorem witness_RestartResetsEveryBlock_saving :
    restartingInSave.Inv ∧ restartingInSave.ctl.inProcess = some .restart
      ∧ (∀ f ∈ restartingInSave.ctl.replies, f.kind ≠ 0x92)
      ∧ restartingInSave.store.activity = .saving { image := List.replicate 256 7, write := 3, left := 80 } :=
  ⟨inv_of (by decide +kernel) (by decide +kernel) (by decide +kernel) (by decide +kernel) (by decide +kernel)
    (by decide +kernel), by decide +kernel⟩

theorem witness_EntryBytesReadBack :
    Tables.default.geometry.valid = true ∧ ∀ e ∈ Tables.default.entries, Tables.default.admits e = true := by
  decide +kernel

/-- The widest geometry: 16 saws at 6 cells, 90 cells; every offset and time at a bound. -/
def wide : Geometry :=
  { saws := 16, pitch := 6, lugPitch := 65535, halfWidth := 16383, stopTime := 5000, sd := 27, gw := 28, cm := 29, ex := 31 }

theorem witness_GeometryWriteChecks :
    ready.serving ∧ ready.saving = false ∧ ready.tracker.line = .stopped ∧ ready.hasBoard = false
      ∧ Geometry.decode wide.encode = some wide ∧ wide.valid = true
      ∧ Geometry.decode ({ wide with ex := 30 } : Geometry).encode = some { wide with ex := 30 }
      ∧ ({ wide with ex := 30 } : Geometry).valid = false := by
  decide +kernel

theorem witness_TableWriteApplies :
    ready.serving ∧ ready.saving = false ∧ ready.tables.geometry.valid = true
      ∧ ready.tables.admits (.head 3 { base := 54, span := 18, reversed := true, enabled := false }) = true
      ∧ ready.tracker.line = .stopped ∧ ready.hasBoard = false
      ∧ line.serving ∧ line.saving = false ∧ line.tables.geometry.valid = true
      ∧ line.tables.admits (.product 7 (Product.default 7)) = true
      ∧ (Entry.product 7 (Product.default 7)).needsStopped = false
      ∧ line.inUse (.product 7 (Product.default 7)) = false := by
  decide +kernel

/-- A solve of tag 3 with product 0. -/
def job3 : SolveJob :=
  { tag := 3, cells := List.replicate 4 sound, extent := some 4, product := Product.default 0, overrides := Overrides.empty,
    generation := 0 }

/-- Price row 6, grade 7 of set 0, as a write held. -/
def held : HeldWrite := { frameTag := 9, entry := .priceRow 6 (Bank.fill 15 65535) }

theorem witness_HeldWriteWaitsForTheSolve :
    let s := { ready with solver := { ready.solver with engine := some job3 } }
    let w := { ready with ctl := { ready.ctl with inProcess := some (.heldWrite held) } }
    s.serving ∧ s.saving = false ∧ s.tables.geometry.valid = true ∧ s.tables.admits held.entry = true
      ∧ s.inUse held.entry = true ∧ w.solver.engine = none ∧ w.ctl.inProcess = some (.heldWrite held) := by
  decide +kernel

theorem witness_SavedImageLoadsBack : Tables.default.valid = true ∧ memWf [] = true := by decide +kernel

theorem memWriteBytes_append (m : List Host.Cell) (a : Nat) (vs ws : List Byte) :
    memWriteBytes m a (vs ++ ws) = memWriteBytes (memWriteBytes m a vs) (a + vs.length) ws := by
  induction vs generalizing m a with
  | nil => rfl
  | cons v vs ih => simp only [List.cons_append, memWriteBytes, ih, List.length_cons]; congr 1; omega

/-- The header of an image of these table bytes. -/
def headerOf (bytes : List Byte) : List Byte :=
  [0xC9, 1, 5, 0x74, u8 (crc16 (imageCovered bytes) / 256), u8 (crc16 (imageCovered bytes))]

/-- A memory that holds an image of these table bytes, with its true CRC. -/
def imageOver (bytes : List Byte) : List Host.Cell := memWriteBytes [] 0 (headerOf bytes ++ bytes)

theorem imageOver_reads {bytes : List Byte} (h : bytes.length = 1390) :
    memReadBytes (imageOver bytes) 6 1390 = bytes ∧ imageHeaderRight (imageOver bytes) := by
  have hb : memReadBytes (imageOver bytes) 6 1390 = bytes := by
    rw [imageOver, memWriteBytes_append, ← h]
    exact memReadBytes_memWriteBytes 6 bytes (memWf_memWriteBytes 0 (headerOf bytes) (rfl : memWf [] = true))
  have hr : ∀ a, memRead (imageOver bytes) a = ((headerOf bytes ++ bytes)[a]?).getD blankByte := fun a => by
    rw [imageOver, memRead_memWriteBytes 0 _ rfl a, if_pos (Nat.zero_le a)]
    rfl
  refine ⟨hb, ?_⟩
  unfold imageHeaderRight
  rw [hb]
  simp only [hr]
  exact ⟨rfl, rfl, (by decide : word 5 0x74 = 1396), word_u8 (crc16_lt _)⟩

/-- An entry of that image, read from the table bytes. -/
theorem imageOver_entry {bytes : List Byte} (h : bytes.length = 1390) {kind : TableKind} {i : Nat}
    (hi : i < kind.count) :
    imageEntry (imageOver bytes) kind i
      = (bytes.drop (imageAddress kind - 6 + i * kind.entryLength)).take kind.entryLength := by
  have hk : imageAddress kind - 6 + i * kind.entryLength + kind.entryLength ≤ 1390
      ∧ imageAddress kind + i * kind.entryLength = 6 + (imageAddress kind - 6 + i * kind.entryLength) := by
    cases kind <;> simp only [TableKind.count] at hi <;> simp only [imageAddress, TableKind.entryLength] <;> omega
  rw [imageEntry, hk.2, memReadBytes_within _ _ hk.1, (imageOver_reads h).1]

/-- A memory that holds the image of the default tables. -/
def imageMemory : List Host.Cell := imageOver Tables.default.encode

theorem imageCovered_eq (tables : List Byte) : imageCovered tables = [1, 5, 0x74] ++ tables := rfl

theorem judgeImage_of_header {m : List Host.Cell} {t : Tables} (h : imageHeaderRight m)
    (hd : Tables.decode (memReadBytes m 6 1390) = some t) (hv : t.valid = true) : judgeImage m = .good t := by
  obtain ⟨h0, h1, h2, h4⟩ := h
  unfold judgeImage
  rw [show imageLength - 6 = 1390 from rfl]
  simp only [h0, h1, h2, h4, hd, hv, imageCovered_eq]
  simp [imageSignature, Config.imageFormat, imageLength, u8]

theorem imageOver_good {t : Tables} (h : t.encode.length = 1390) (hd : Tables.decode t.encode = some t)
    (hv : t.valid = true) : judgeImage (imageOver t.encode) = .good t :=
  judgeImage_of_header (imageOver_reads h).2 (by rw [(imageOver_reads h).1, hd]) hv

theorem imageMemory_good : judgeImage imageMemory = .good Tables.default :=
  imageOver_good (by decide +kernel) (by decide +kernel) (by decide +kernel)

/-- The default tables with a filter time above 40, which no write is accepted with (R67). -/
def slowInput : Tables :=
  { Tables.default with inputs := Tables.default.inputs.set 7 { function := .none, polarity := .activeHigh, filter := 41 } }

/-- An image of right header with an input function that no table lists, and one whose entries are read but not all admitted. -/
theorem witness_ImageLoadsAndTheirEnds_entries :
    (∃ bytes, imageHeaderRight (imageOver bytes) ∧ Entry.decode .inputs 0 (imageEntry (imageOver bytes) .inputs 0) = none)
      ∧ imageHeaderRight (imageOver slowInput.encode)
      ∧ (∀ kind i, i < kind.count →
          Entry.decode kind i (imageEntry (imageOver slowInput.encode) kind i) = slowInput.entry? kind i)
      ∧ ∃ e ∈ slowInput.entries, slowInput.admits e = false := by
  have hb : (Tables.default.encode.set 1332 9).length = 1390 := by decide +kernel
  have hs : slowInput.encode.length = 1390 := by decide +kernel
  refine ⟨⟨_, (imageOver_reads hb).2, ?_⟩, (imageOver_reads hs).2, ?_, by decide +kernel⟩
  · rw [imageOver_entry hb (by decide)]
    decide +kernel
  · intro kind i hi
    rw [imageOver_entry hs hi]
    revert i
    cases kind <;> decide +kernel

theorem witness_ImageLoadsAndTheirEnds :
    ready.serving ∧ ready.imageIdle = true ∧ ready.tracker.line = .stopped ∧ ready.hasBoard = false
      ∧ State.reset.store.activity = .loading .startUp
      ∧ ∀ s : State, s.store.memory = imageMemory → judgeImage s.store.memory = .good Tables.default :=
  ⟨by decide +kernel, by decide +kernel, by decide +kernel, by decide +kernel, rfl, fun _ h => h ▸ imageMemory_good⟩

/-- A save with write `w` in progress. -/
def savingAt (w : Nat) : State :=
  { ready with
    store := { ready.store with activity := .saving { image := imageOf Tables.default, write := w, left := 80 } } }

theorem witness_ImageSavesPageByPage :
    ready.serving ∧ ready.imageIdle = true
      ∧ (∀ w ∈ [1, 22, 23], (savingAt w).store.activity =
          .saving { image := imageOf Tables.default, write := w, left := 80 } ∧ memWf (savingAt w).store.memory = true) := by
  refine ⟨by decide +kernel, by decide +kernel, ?_⟩
  intro w _
  exact ⟨rfl, (by decide +kernel : memWf ready.store.memory = true)⟩

theorem witness_ImageSavesPageByPage_busy : (savingAt 1).serving ∧ (savingAt 1).imageIdle = false := by decide +kernel

/-- Ready with a load by request in progress over a memory. -/
def loadingOver (m : List Host.Cell) : State :=
  { ready with
    store := { ready.store with memory := m, activity := .loading (.request 9) }
    ctl := { ready.ctl with inProcess := some .imageLoad } }

/-- The judgements of a memory with nothing in it and of one with the signature alone. -/
theorem witness_ImageLoadsAndTheirEnds_failures :
    (loadingOver []).store.activity = .loading (.request 9) ∧ judgeImage [] = .noSignature
      ∧ memRead [⟨0, 0xC9⟩] 0 = 0xC9 ∧ memRead [⟨0, 0xC9⟩] 1 ≠ 1 ∧ judgeImage [⟨0, 0xC9⟩] = .badCrc := by
  decide +kernel

theorem loadingOver_good {m : List Host.Cell} (h : judgeImage m = .good Tables.default) :
    let s := loadingOver m
    let r := { s with tracker := line.tracker }
    (s.store.activity = .loading (.request 9) ∧ judgeImage s.store.memory = .good Tables.default
        ∧ s.tracker.line = .stopped ∧ s.hasBoard = false)
      ∧ r.store.activity = .loading (.request 9) ∧ judgeImage r.store.memory = .good Tables.default
      ∧ ¬(r.tracker.line = .stopped ∧ r.hasBoard = false) := by
  have h1 : ready.tracker.line = .stopped := by decide +kernel
  have h2 : ready.hasBoard = false := by decide +kernel
  have h3 : line.tracker.line ≠ .stopped := by decide +kernel
  exact ⟨⟨rfl, h, h1, h2⟩, rfl, h, fun x => h3 x.1⟩

theorem witness_ImageLoadsAndTheirEnds_requested :
    (loadingOver imageMemory).store.activity = .loading (.request 9)
      ∧ judgeImage (loadingOver imageMemory).store.memory = .good Tables.default
      ∧ (line.serving ∧ line.imageIdle = true ∧ ¬(line.tracker.line = .stopped ∧ line.hasBoard = false)) :=
  ⟨(loadingOver_good imageMemory_good).1.1, (loadingOver_good imageMemory_good).1.2.1, by decide +kernel⟩

/-- Tables with a lug input of active-low polarity and no filter time, and head 2 disabled. -/
def turning : Tables :=
  { Tables.default with
    heads := Tables.default.heads.set 2 { Tables.default.heads.get 2 with enabled := false }
    inputs := Tables.default.inputs.set 3 { function := .lug, polarity := .activeLow, filter := 0 } }

/-- A state with one module, at a pos. -/
def oneModuleAt (pos : Nat) (s : State) : State :=
  { s with
    tracker := { s.tracker with pos := pos }
    tables := { s.tables with geometry := { Geometry.default with saws := 8 }, sawBus := { modules := 1, timeout := 3 } } }

/-- Ready with one module, at a pos, and a load by request of those tables. -/
def loadingTurning (pos : Nat) : State := oneModuleAt pos (loadingOver (imageOver turning.encode))

theorem oneModuleAt_memory (pos : Nat) (s : State) : (oneModuleAt pos s).store.memory = s.store.memory := rfl

theorem loadingOver_memory (m : List Host.Cell) : (loadingOver m).store.memory = m := rfl

/-- Where the load turns the lug input, with its pulse at pos K-W and one count before; else with the default tables. -/
theorem witness_ImageLoadsAndTheirEnds_turning :
    (∀ pos ∈ [1791, 1792], (loadingTurning pos).store.activity = .loading (.request 9)
        ∧ judgeImage (loadingTurning pos).store.memory = .good turning ∧ (loadingTurning pos).tracker.line = .stopped
        ∧ (loadingTurning pos).hasBoard = false ∧ (loadingTurning pos).lugTurnsWith turning
        ∧ (loadingTurning pos).tables.sawBus.modules < turning.sawBus.modules
        ∧ min (loadingTurning pos).tracker.pos (turning.geometry.windowEnd - 1) = pos)
      ∧ turning.geometry.lugPitch - turning.geometry.halfWidth = 1792
      ∧ ¬(loadingOver imageMemory).lugTurnsWith Tables.default := by
  have hg : judgeImage (imageOver turning.encode) = .good turning :=
    imageOver_good (by decide +kernel) (by decide +kernel) (by decide +kernel)
  refine ⟨?_, by decide +kernel, ?_⟩
  · intro pos hp
    simp only [List.mem_cons, List.not_mem_nil, or_false] at hp
    rcases hp with rfl | rfl <;>
      exact ⟨rfl, by rw [loadingTurning, oneModuleAt_memory, loadingOver_memory, hg], by decide +kernel, by decide +kernel,
        by decide +kernel, by decide +kernel, by decide +kernel⟩
  · rintro ⟨i, h, -⟩
    revert h
    revert i
    decide +kernel

theorem witness_OpenRunOpens :
    let s := { ready with runs := { ready.runs with lastIssued := 65534 } }
    s.serving ∧ (∀ r ∈ s.runs.records, r.state ≠ .logs) ∧ s.runs.records.length < 16 ∧ s.runs.lastIssued < 65535 := by
  decide +kernel

theorem witness_OpenRunOpens_refused :
    let full := { ready with runs := { ready.runs with lastIssued := 65535 } }
    7 < (8 : Byte).toNat ∧ full.Inv ∧ full.serving ∧ (7 : Byte).toNat ≤ 7 ∧ (∀ r ∈ full.runs.records, r.state ≠ .logs)
      ∧ full.runs.lastIssued = 65535 :=
  ⟨by decide,
   inv_of (by decide +kernel) (by decide +kernel) (by decide +kernel) (by decide +kernel) (by decide +kernel)
    (by decide +kernel), by decide +kernel⟩

/-- The line between an OPEN RUN and its BOARD CUTOVER. -/
def twoRuns : State := { line with runs := { records := [runOf 1 5 .boards, runOf 2 0 .logs], lastIssued := 2 } }

theorem witness_BoardCutoverMovesTheBoardEnd :
    twoRuns.Inv ∧ twoRuns.serving ∧ runOf 2 0 .logs ∈ twoRuns.runs.records ∧ runOf 1 5 .boards ∈ twoRuns.runs.records
      ∧ twoRuns.openSlots 1 ≠ 0
      ∧ ({ ready with runs := twoRuns.runs } : State).openSlots 1 = 0 :=
  ⟨inv_of (by decide +kernel) (by decide +kernel) (by decide +kernel) (by decide +kernel) (by decide +kernel)
    (by decide +kernel), by decide +kernel⟩

theorem witness_OpenRunOpens_pendingCutover :
    twoRuns.Inv ∧ twoRuns.serving ∧ ∃ r ∈ twoRuns.runs.records, r.state = .logs :=
  ⟨witness_BoardCutoverMovesTheBoardEnd.1, by decide +kernel⟩

theorem witness_BoardCutoverMovesTheBoardEnd_empty :
    let s := { ready with runs := twoRuns.runs }
    s.Inv ∧ s.serving :=
  ⟨inv_of (by decide +kernel) (by decide +kernel) (by decide +kernel) (by decide +kernel) (by decide +kernel)
    (by decide +kernel), by decide +kernel⟩

theorem witness_BoardCutoverMovesTheBoardEnd_refused : line.serving ∧ ∀ r ∈ line.runs.records, r.state ≠ .logs := by
  decide +kernel

theorem witness_RunReleaseFreesTheRecord :
    let s := { ready with runs := { records := [runOf 1 0 .closed, runOf 2 0 .both], lastIssued := 2 } }
    s.serving ∧ s.run? (word 0 1) = some (runOf 1 0 .closed) ∧ s.run? (word 0 3) = none
      ∧ s.run? (word 0 2) = some (runOf 2 0 .both) ∧ (runOf 2 0 .both).state ≠ .closed := by
  decide +kernel

theorem witness_ReadRequestsChangeNothing :
    line.portReady ∧ (9 : Byte).toNat ≤ 9 ∧ line.tracker.line ≠ .starting
      ∧ (line.tables.entry? .priceRow (27 : Byte).toNat).isSome = true ∧ (line.run? (word 0 1)).isSome = true
      ∧ (line.slot? (word 0 5)).isSome = true ∧ 9 < (10 : Byte).toNat
      ∧ line.tables.entry? .priceRow (28 : Byte).toNat = none ∧ TableKind.ofCode 10 = none
      ∧ line.run? (word 0 2) = none ∧ line.slot? (word 0 6) = none := by
  decide +kernel

theorem witness_ReadRequestsChangeNothing_rate :
    let s := { line with tracker := { line.tracker with advanceTimes := [1900, 1000] } }
    s.tracker.line = .running ∧ s.tracker.advanceTimes = [1900, 1000] ∧ line.tracker.advanceTimes.length < 2
      ∧ s.lugRate = 67 := by
  decide +kernel

theorem witness_CausesClearedAndMasked : line.serving ∧ 2 ^ 14 ≤ word 0x40 0 := by decide +kernel

theorem witness_FramesPassTheChecks :
    ({ kind := 0x86, tag := 1, payload := List.replicate 250 0 } : Frame).payload.length ≤ 250
      ∧ beginsFrame [0xC5, 2] = true ∧ judgeBytes ([0xC5, 20] ++ busWire 0x61 [1]) = .incomplete
      ∧ judgeBytes ([0xC5, 0] ++ busWire 0x61 [1]) = .bad := by
  decide +kernel

/-- The line with every lug position changed by f. -/
def lineSlots (f : Slot → Slot) : State :=
  { line with tracker := { line.tracker with ring := line.tracker.ring.map f } }

/-- A SEGMENT for a tag of one sound entry, from local cell 0 on. -/
def segmentOf (tag : Nat) (flags : Byte) : List Byte := u16 tag ++ [0, 1, flags, 1, 1, 0x7C, 3, 0x84, 0, 10, 0, 0]

/-- The same for tag 4. -/
def segment4 (flags : Byte) : List Byte := segmentOf 4 flags

theorem witness_BadFramesDiscarded :
    (beginsFrame [0xC5, 251] = true ∧ judgeBytes [0xC5, 251] = .bad)
      ∧ (beginsFrame [0xC5, 0, 1, 2, 3] = true ∧ judgeBytes [0xC5, 0, 1, 2, 3] = .incomplete)
      ∧ line.tracker.line ≠ .starting
      ∧ ¬(((0x72 : Byte) = 0x71 ∧ [(1 : Byte)].length = 2) ∨ ((0x72 : Byte) = 0x72 ∧ [(1 : Byte)].length = 6)
        ∨ ((0x72 : Byte) = 0x73 ∧ [(1 : Byte)].length = 2))
      ∧ (0x63 : Byte) ≠ 0x62 ∧ (0x63 : Byte) ≠ 0x64 ∧ (0x63 : Byte) ≠ 0x65 ∧ (0x63 : Byte) ≠ 0x66 := by
  decide +kernel

theorem witness_BadFramesDiscarded_segments :
    let open3 := lineSlots fun x => { x with scan := { x.scan with last := Bank.fill 4 false } }
    (line.scan.heads.get 0).status ≠ .disabled ∧ (0x23 : Byte) ≠ 0x22 ∧ readSegment [0, 4, 0, 0, 0] = none
      ∧ (∀ tag ∈ [9, 4, 3], readSegment (segmentOf tag 1) = some { tag := tag, first := 0, last := true, entries := [sound] })
      ∧ line.slot? 9 = none ∧ ((line.slot? 4).map (·.scan.last.get 0)) = some true
      ∧ ((open3.slot? 3).map fun x => (x.scan.last.get 0, x.scan.status)) = some (false, .complete) := by
  decide +kernel

/-- The line with tag 2 held by CL3. -/
def heldLine : State := lineWith (piece2 (some 3) (solveOf .solved (some solution)))

theorem witness_RefusedFramesChangeNothing :
    (0 : Byte).toNat = 0 ∧ 0x12 < (0x13 : Byte).toNat ∧ State.reset.portReady ∧ (0x40 : Byte).toNat < 0x41
      ∧ 0x49 < (0x4A : Byte).toNat ∧ State.reset.consoleReady 3
      ∧ (restarting.ctl.replies.length < 8 ∧ restarting.ctl.inProcess.isSome = true)
      ∧ 8 ≤ ({ line with ctl := { line.ctl with replies := List.replicate 8 (triggerFrame 0) } } : State).ctl.replies.length
      ∧ State.reset.tracker.line = .starting := by
  decide +kernel

/-- The line with no board on the chain. -/
def emptyLine : State := lineSlots fun x => { x with kind := .empty }

/-- The line with every board but tag 2 held by console 0. -/
def claimedLine : State :=
  lineSlots fun x => if x.tag = 2 then x else { x with console := { x.console with holder := some 0 } }

theorem witness_RefusedFramesChangeNothing_claims :
    line.consoleReady 0 ∧ line.slot? (word 0 9) = none
      ∧ ((emptyLine.slot? (word 0 2)).map (·.kind)) = some .empty
      ∧ ((line.slot? (word 0 3)).map fun x => (x.kind, x.console.window)) = some (.board, .before)
      ∧ ((line.slot? (word 0 1)).map fun x => (x.kind, x.console.window)) = some (.board, .closed)
      ∧ ((heldLine.slot? (word 0 2)).map fun x => (x.kind, x.console.window, x.console.holder))
          = some (.board, .open, some 3)
      ∧ ((claimedLine.slot? (word 0 2)).map fun x => (x.kind, x.console.window, x.console.holder))
          = some (.board, .open, none)
      ∧ 2 ≤ (claimedLine.claims 0).length := by
  decide +kernel

theorem witness_RefusedFramesChangeNothing_requests :
    (0x08, Instr.imageLoad 7 [1]) ∈ hostRequests 7 [1] ∧ ¬lengthAgrees 0x08 [(1 : Byte)].length
      ∧ (0x08, Instr.imageLoad 7 []) ∈ hostRequests 7 [] ∧ lengthAgrees 0x08 ([] : List Byte).length
      ∧ Instr.unsubscribe 3 7 [] ∈ consoleRequests 3 7 [] :=
  ⟨by simp [hostRequests], by simp [lengthAgrees], by simp [hostRequests], by simp [lengthAgrees], by simp [consoleRequests]⟩

theorem witness_RefusedFramesChangeNothing_lengths :
    State.reset.consoleReady 3
      ∧ (5, Instr.mark 3 7 [0, 2, 0, 3]) ∈ [0, 0, 2, 2, 5, 3, 3, 2, 2].zip (consoleRequests 3 7 [0, 2, 0, 3])
      ∧ ([0, 2, 0, 3] : List Byte).length ≠ 5 :=
  ⟨by decide +kernel, by simp [consoleRequests], by decide⟩

/-- Tag 2 held by CL3 with its overrides and its cells as given. -/
def markedLine (marks : List Mark) (cells : List Cell) (extent : Option Nat) : State :=
  let x := piece2 (some 3) (solveOf .solved (some solution))
  lineWith { x with scan := { x.scan with cells := cells, extent := extent },
                    console := { x.console with overrides := { x.console.overrides with marks := marks } } }

theorem witness_RefusedFramesChangeNothing_overrides :
    let m : Mark := { first := 0, last := 3, grade := 1 }
    let full := markedLine (List.replicate 4 m) (List.replicate 4 sound) (some 4)
    let gap := markedLine [] [sound, .empty, sound, sound] (some 4)
    full.consoleReady 3 ∧ ((full.slot? 2).map fun x => (x.console.holder, x.console.overrides.marks.length)) = some (some 3, 4)
      ∧ gap.consoleReady 3 ∧ ((gap.slot? 2).map fun x => (x.scan.extent, x.scan.cells[1]?)) = some (some 4, some .empty)
      ∧ 4 ≤ (4 : Byte).toNat ∧ (4 : Byte).toNat ≤ 89 ∧ gap.geo.saws = 2 ∧ gap.geo.pitch = 4
      ∧ (5 : Byte).toNat < (6 : Byte).toNat ∧ 89 < (90 : Byte).toNat ∧ 15 < (16 : Byte).toNat := by
  decide +kernel

theorem witness_RefusedFramesChangeNothing_eightReplies :
    let f : ConsoleFrame := .reply { kind := 0x4E, tag := 0, payload := [] }
    let s := { line with consoles := line.consoles.set 3 { line.consoles.get 3 with queue := List.replicate 8 f } }
    8 ≤ (s.consoles.get 3).repliesWaiting := by
  decide +kernel

theorem witness_CountsMoveTheChain :
    let at' := fun pos : Nat => { line with tracker := { line.tracker with pos := pos } }
    (line.tracker.line = .running ∧ (at' 78).tracker.pos + 1 < (at' 78).geo.windowEnd)
      ∧ (ready.tracker.line = .stopped ∧ ready.tracker.pos + 1 < ready.geo.windowEnd)
      ∧ State.reset.tracker.line = .starting ∧ line.tracker.stopTimer = some 200 := by
  decide +kernel

theorem witness_LugPulseMakesSensedAdvance :
    line.Inv ∧ line.tracker.line ≠ .starting ∧ (line.tables.inputs.get 0).function = .lug
      ∧ (line.field.inputs.get 0).timer = some 4
      ∧ rawLevel (line.tables.inputs.get 0) (line.field.inputs.get 0) = true
      ∧ line.geo.lugPitch - line.geo.halfWidth ≤ line.tracker.pos :=
  ⟨line_inv, by decide +kernel⟩

/-- The line with pos and the last-advance record replaced. -/
def lineAt (pos : Nat) (last : LastAdvance) : State :=
  { line with tracker := { line.tracker with pos := pos, lastAdvance := last } }

theorem witness_MissedLugMakesSynthesizedAdvance :
    (lineAt 79 .sensed).Inv ∧ (lineAt 79 .sensed).tracker.line ≠ .starting
      ∧ (lineAt 79 .sensed).tracker.pos + 1 = (lineAt 79 .sensed).geo.windowEnd
      ∧ (lineAt 79 .sensed).tracker.line = .running :=
  ⟨inv_of (by decide +kernel) (by decide +kernel) (by decide +kernel) (by decide +kernel) (by decide +kernel)
    (by decide +kernel), by decide +kernel⟩

/-- The line STOPPED a count before a synthesized advance, with this run-up count. -/
def stoppedAt79 (runUp : Nat) : State :=
  { lineAt 79 .sensed with
    tracker := { (lineAt 79 .sensed).tracker with line := .stopped, runUp := runUp, stopTimer := none } }

/-- In STOPPED, with the run-up count that K/16, 4 here, is reached from, and one below. -/
theorem witness_MissedLugMakesSynthesizedAdvance_stopped :
    ((stoppedAt79 3).Inv ∧ (stoppedAt79 2).Inv)
      ∧ (stoppedAt79 3).tracker.line = .stopped ∧ (stoppedAt79 3).tracker.pos + 1 = (stoppedAt79 3).geo.windowEnd
      ∧ (stoppedAt79 3).geo.lugPitch / 16 = 4 :=
  ⟨⟨inv_of (by decide +kernel) (by decide +kernel) (by decide +kernel) (by decide +kernel) (by decide +kernel)
      (by decide +kernel),
    inv_of (by decide +kernel) (by decide +kernel) (by decide +kernel) (by decide +kernel) (by decide +kernel)
      (by decide +kernel)⟩, by decide +kernel⟩

theorem witness_LateAndExtraPulsesMoveNothing :
    ∀ p ∈ [(16, LastAdvance.synthesized false), (17, LastAdvance.synthesized false), (47, LastAdvance.sensed)],
      let s := lineAt p.1 p.2
      s.tracker.line ≠ .starting ∧ (s.tables.inputs.get 0).function = .lug ∧ (s.field.inputs.get 0).timer = some 4
        ∧ rawLevel (s.tables.inputs.get 0) (s.field.inputs.get 0) = true
        ∧ s.tracker.pos < s.geo.lugPitch - s.geo.halfWidth ∧ s.isPending .lugExtra = false
        ∧ (p.1 = 16 ↔ s.tracker.pos ≤ s.geo.halfWidth ∧ s.tracker.lastAdvance = .synthesized false) := by
  decide +kernel

/-- The line with LUG_EXTRA pending, one in STARTING, and one with 64 reports waiting. -/
theorem witness_LateAndExtraPulsesMoveNothing_causes :
    let pending := { lineAt 47 .sensed with ctl := { line.ctl with pendingCauses := Cause.lugExtra.bit } }
    let starting := { line with tracker := { line.tracker with line := .starting } }
    let full := { lineAt 47 .sensed with
                  ctl := { line.ctl with reports := List.replicate 64 { kind := 0xE3, tag := 0, payload := [] } } }
    pending.isPending .lugExtra = true
      ∧ (starting.tracker.line = .starting ∧ (starting.tables.inputs.get 0).function = .lug
        ∧ (starting.field.inputs.get 0).timer = some 4
        ∧ rawLevel (starting.tables.inputs.get 0) (starting.field.inputs.get 0) = true)
      ∧ full.ctl.reports.length = 64 ∧ full.isPending .reportOverflow = false ∧ full.isPending .lugExtra = false := by
  decide +kernel

/-- R167, R168: report 5 carries LUG_EXTRA, cause 9, and the pending set. -/
theorem test_extra_pulse_is_reported :
    let s := { lineAt 47 .sensed with ctl := { line.ctl with nextReport := 5 } }
    ((run (.filterTimerExpiry 0) s).ctl.reports, (run (.filterTimerExpiry 0) s).ctl.nextReport)
      = ([{ kind := 0xE3, tag := 5, payload := [9, 2, 0] }], 6) := by
  decide +kernel

/-- R167: with 64 waiting it is dropped, and so is REPORT_OVERFLOW's own report; both numbers are used. -/
theorem test_report_beyond_64_is_dropped :
    let s := { lineAt 47 .sensed with
               ctl := { line.ctl with
                        nextReport := 255, reports := List.replicate 64 { kind := 0xE3, tag := 0, payload := [] } } }
    let t := run (.filterTimerExpiry 0) s
    (t.ctl.reports.length, t.ctl.nextReport, t.ctl.dropped, t.isPending .lugExtra, t.isPending .reportOverflow)
      = (64, 1, 2, true, true) := by
  decide +kernel

theorem witness_RawChangeRunsTheFilter :
    ((line.field.inputs.get 0).pin ≠ false
        ∧ rawLevel (line.tables.inputs.get 0) { line.field.inputs.get 0 with pin := false }
          = (line.field.inputs.get 0).filtered)
      ∧ (line.field.inputs.get 7).pin ≠ true
      ∧ rawLevel (line.tables.inputs.get 7) { line.field.inputs.get 7 with pin := true }
        ≠ (line.field.inputs.get 7).filtered
      ∧ (line.tables.inputs.get 7).filter ≠ 0
      ∧ (let s := { line with tables := { line.tables with
            inputs := line.tables.inputs.set 7 { function := .lug, polarity := .activeHigh, filter := 0 } } }
         rawLevel (s.tables.inputs.get 7) { s.field.inputs.get 7 with pin := true } ≠ (s.field.inputs.get 7).filtered
          ∧ (s.tables.inputs.get 7).filter = 0) := by
  decide +kernel

theorem witness_FilterExpiryIsAnnounced :
    ((line.field.inputs.get 7).timer = some 4 ∧ (line.tables.inputs.get 7).function = .none)
      ∧ ((line.field.inputs.get 1).timer = some 4
        ∧ rawLevel (line.tables.inputs.get 1) (line.field.inputs.get 1) = true
        ∧ (line.tables.inputs.get 1).function = .boardEye)
      ∧ (line.field.inputs.get 2).timer = some 4
      ∧ rawLevel (line.tables.inputs.get 2) (line.field.inputs.get 2) = true
      ∧ (line.tables.inputs.get 2).function = .trimInhibit := by
  decide +kernel

theorem witness_SegmentMergesItsCells :
    line.Inv ∧ line.tracker.line ≠ .starting ∧ (line.scan.heads.get 3).status ≠ .disabled
      ∧ readSegment (segment4 0) = some { tag := 4, first := 0, last := false, entries := [sound] }
      ∧ 0 < (line.tables.heads.get 3).span
      ∧ (line.slot? 4).map (fun x => (x.scan.last.get 3, x.scan.status)) = some (false, .open) :=
  ⟨line_inv, by decide +kernel⟩

theorem witness_SegmentMergesItsCells_layout :
    let body : List Byte := [0, 0, 0, 0, 0, 0, 0, 0, 0, 1, 0xFF, 0xFF, 0xFF, 0xFF, 0xFF, 0xFF, 7, 3]
    1 ≤ (2 : Byte).toNat ∧ (2 : Byte).toNat ≤ 16 ∧ body.length = 9 * (2 : Byte).toNat
      ∧ (∀ k < (2 : Byte).toNat, body[9 * k]? = some 0 ∨ body[9 * k]? = some 1)
      ∧ body.drop (9 * 1) = [1, 0xFF, 0xFF, 0xFF, 0xFF, 0xFF, 0xFF, 7, 3] ++ []
      ∧ readSegment ([0, 4, 200, 2, 1] ++ body) =
          some { tag := 4, first := 200, last := true, entries :=
            [.empty, .present { thickness := 2000, width := 4500, wane := 4500, knot := 7, split := true, decay := true }] } := by
  decide +kernel

theorem witness_LastSegmentClosesTheScan :
    line.Inv ∧ line.tracker.line ≠ .starting ∧ (line.scan.heads.get 3).status ≠ .disabled
      ∧ readSegment (segment4 1) = some { tag := 4, first := 0, last := true, entries := [sound] }
      ∧ (line.slot? 4).map (fun x => (x.kind, x.scan.last.get 3, x.scan.status, x.scan.deadlinePassed))
          = some (.board, false, .open, false)
      ∧ ((run (.segment 3 0x22 (segment4 1)) line).slot? 4).map (·.scan.status) = some .complete :=
  ⟨line_inv, by decide +kernel⟩

/-- The slot with a tag, or the newest one. -/
def slotOf (s : State) (tag : Nat) : Slot :=
  (s.slot? tag).getD { board 5 0 [] (scanOf .open false false) none (consoleOf .before none) none with kind := .undecided }

theorem witness_LastSegmentClosesTheScan_deadline :
    let x := slotOf line 4
    line.Inv ∧ line.lugDue 0 4 ∧ x ∈ line.tracker.ring ∧ x.offset + 1 = line.geo.sd ∧ Station.sd ∉ x.passed
      ∧ (∀ z ∈ line.tracker.ring, x.offset < z.offset → Station.sd ∈ z.passed) ∧ x.scan.status = .open
      ∧ (line.scan.heads.get 3).status = .up ∧ ((run (.filterTimerExpiry 0) line).scan.heads.get 3).status = .down :=
  ⟨line_inv, by decide +kernel⟩

theorem witness_MergeKeepsTheWorse : List.Perm [Cell.empty, sound] [sound, Cell.empty] := List.Perm.swap _ _ _

theorem witness_SolveStartTakesTheNearest :
    line.Inv ∧ line.solver.engine = none ∧ line.heldWrite = none
      ∧ ∃ x ∈ line.tracker.ring, x.isQueued = true ∧ ∀ y ∈ line.tracker.ring, y.isQueued = true → y.offset ≤ x.offset :=
  ⟨line_inv, by decide +kernel⟩

/-- The line with the piece in the window being solved. -/
def solving2 : State :=
  { lineWith (piece2 none (solveOf .solving none)) with solver := { engine := some { job3 with tag := 2 }, abandoned := 0 } }

theorem witness_SolveCompleteStoresTheSolution :
    solving2.Inv ∧ solving2.solver.engine = some { job3 with tag := 2 }
      ∧ solving2.slot? 2 = some (piece2 none (solveOf .solving none))
      ∧ (piece2 none (solveOf .solving none)).solve = some (solveOf .solving none)
      ∧ (solving2.consoles.get 0).subscribed = true ∧ (piece2 none (solveOf .solving none)).console.window = .open
      ∧ (∀ g ∈ (solving2.consoles.get 0).queue, g.isProposalFor 2 = false)
      ∧ (solving2.consoles.get 0).offersWaiting < 32 :=
  ⟨inv_of (by decide +kernel) (by decide +kernel) (by decide +kernel) (by decide +kernel) (by decide +kernel)
    (by decide +kernel), by decide +kernel⟩

theorem witness_SolveCompleteStoresTheSolution_waiting :
    let f : Nat → ConsoleFrame := fun tag => .proposal tag (proposalFrame (piece2 none (solveOf .solving none)) solution)
    let s := { solving2 with
      consoles := (solving2.consoles.set 0 { solving2.consoles.get 0 with queue := [f 2] }).set 1
        { solving2.consoles.get 1 with subscribed := true, queue := List.replicate 32 (f 7) } }
    s.Inv ∧ s.solver.engine = some { job3 with tag := 2 } ∧ (∃ g ∈ (s.consoles.get 0).queue, g.isProposalFor 2 = true)
      ∧ (∀ g ∈ (s.consoles.get 1).queue, g.isProposalFor 2 = false) ∧ (s.consoles.get 1).offersWaiting = 32 :=
  ⟨inv_of (by decide +kernel) (by decide +kernel) (by decide +kernel) (by decide +kernel) (by decide +kernel)
    (by decide +kernel), by decide +kernel⟩

theorem witness_SolveKeepsTheBestSpan :
    let short := { job3 with product := { Product.default 0 with minLength := 1 } }
    (job3.extent = some 4 ∧ job3.overrides.forcedScrap = false ∧ (solve tables job3).keep = none)
      ∧ short.extent = some 4 ∧ short.overrides.forcedScrap = false
      ∧ (solve tables short).keep = some { a := 0, b := 1, grade := .graded 1, value := 0 } := by
  decide +kernel

theorem witness_SolveKeepsTheBestSpan_clauses :
    let scrapped := { job3 with overrides := { Overrides.empty with forcedScrap := true } }
    let marked := { job3 with
      cells := [.unseen, sound, sound, .empty]
      overrides :=
        { Overrides.empty with
          marks := [{ first := 0, last := 3, grade := 2 }, { first := 1, last := 1, grade := 5 }], forcedGrade := some 4 } }
    (scrapped.extent = some 4 ∧ scrapped.overrides.forcedScrap = true)
      ∧ (solve tables marked).cellGrades = [.grade 2, .grade 5, .grade 2, .gap]
      ∧ ({ job3 with extent := none } : SolveJob).extent = none := by
  decide +kernel

theorem witness_PatternFollowsTheDecision :
    12 < Geometry.default.saws ∧ 72 ≤ 12 * Geometry.default.pitch ∧ 11 * Geometry.default.pitch < 72 := by decide

/-- A piece about to arrive at CM. -/
abbrev atCommit (s : State) (x : Slot) : Prop :=
  x ∈ s.tracker.ring ∧ x.kind = .board ∧ x.offset + 1 = s.geo.cm ∧ Station.cm ∉ x.passed ∧ x.scan.status ≠ .open

theorem witness_ArrivalAtCommitFixesTheDecision :
    line.Inv ∧ line.lugDue 0 4 ∧ atCommit line (piece2 none (solveOf .solved (some solution)))
      ∧ (piece2 none (solveOf .solved (some solution))).solution = some solution
      ∧ (line.consoles.get 0).subscribed = true ∧ (line.consoles.get 0).offersWaiting + 2 * line.tracker.ring.length ≤ 32
      ∧ line.saw.wait = none ∧ (∀ z ∈ line.tracker.ring, 3 < z.offset → z.kind = .board → Station.cm ∈ z.passed) :=
  ⟨line_inv, by decide +kernel⟩

theorem witness_ArrivalAtCommitFixesTheDecision_unsolved :
    let s := lineWith (piece2 (some 0) (solveOf .queued none))
    s.Inv ∧ s.lugDue 0 4 ∧ atCommit s (piece2 (some 0) (solveOf .queued none))
      ∧ (piece2 (some 0) (solveOf .queued none)).solution = none :=
  ⟨inv_of (by decide +kernel) (by decide +kernel) (by decide +kernel) (by decide +kernel) (by decide +kernel)
    (by decide +kernel), by decide +kernel⟩

/-- The exchange of tag 1 with a module. -/
def exchange (m : Fin 2) (attempt : Nat) (phase : Phase) (probe : Bool) : Exchange :=
  { tag := 1, module := m, attempt := attempt, phase := phase, onlyTimeouts := true, probe := probe, timeout := 3 }

/-- The line with that exchange in flight and its answer awaited, or not. -/
def exchanging (wait : Option Nat) (ex : Exchange) : State :=
  { line with saw := { line.saw with exchange := some ex, wait := wait } }

/-- The same with 9 saws and 2 modules. -/
def exchanging9 (ex : Exchange) : State :=
  let s := exchanging (some 6) ex
  { s with tables := { s.tables with geometry := { geo with saws := 9 }, sawBus := { modules := 2, timeout := 3 } } }

/-- What a module reports. -/
def reading : ModuleReading := { mask := 1, seq := 255, down := 1 }

theorem witness_ExchangeDeliversThePattern :
    let s := exchanging none (exchange 0 1 (.writeDue reading) false)
    (exchanging (some 6) (exchange 0 1 .readState false)).saw.wait = some 6
      ∧ ((s.slot? 1).map fun x => x.commit.isSome) = some true
      ∧ ∀ y ∈ s.tracker.ring, s.geo.cm < y.offset → Station.tr ∈ y.passed := by
  decide +kernel

/-- An exchange in flight, its module awaited, when the next piece arrives at CM. -/
theorem witness_ArrivalAtCommitFixesTheDecision_exchange :
    let s := exchanging (some 6) (exchange 0 1 (.writePattern reading) false)
    s.Inv ∧ s.lugDue 0 4 ∧ atCommit s (piece2 none (solveOf .solved (some solution))) ∧ s.saw.wait = some 6
      ∧ s.saw.exchange = some (exchange 0 1 (.writePattern reading) false) ∧ slotOf s 1 ∈ s.tracker.ring
      ∧ (slotOf s 1).tag = 1 ∧ (slotOf s 1).commit = some (committed .notStarted) :=
  ⟨inv_of (by decide +kernel) (by decide +kernel) (by decide +kernel) (by decide +kernel) (by decide +kernel)
    (by decide +kernel), by decide +kernel⟩

theorem witness_ExchangeDeliversThePattern_ack :
    (exchanging (some 6) (exchange 0 1 (.writePattern reading) false)).Inv
      ∧ (exchange 0 1 (.writePattern reading) false).module.val + 1 = line.tables.sawBus.modules :=
  ⟨inv_of (by decide +kernel) (by decide +kernel) (by decide +kernel) (by decide +kernel) (by decide +kernel)
    (by decide +kernel), by decide +kernel⟩

theorem witness_ExchangeDeliversThePattern_ack9 :
    (exchanging9 (exchange 0 1 (.writePattern reading) false)).Inv
      ∧ (exchanging9 (exchange 0 1 (.writePattern reading) false)).tables.sawBus.modules = 2
      ∧ (exchange 1 3 (.writePattern reading) false).module.val + 1 = 2 :=
  ⟨inv_of (by decide +kernel) (by decide +kernel) (by decide +kernel) (by decide +kernel) (by decide +kernel)
    (by decide +kernel), by decide +kernel⟩

theorem witness_ExchangeFailuresHaveTheirResults :
    ∀ ex ∈ [exchange 0 2 (.writePattern reading) false, exchange 0 3 (.writePattern reading) false,
        exchange 0 1 .readState true, { exchange 0 3 .readState false with onlyTimeouts := false }],
      (exchanging (some 6) ex).Inv ∧ (exchanging (some 6) ex).saw.wait = some 6
        ∧ ((exchanging (some 6) ex).slot? ex.tag).map (fun x => x.commit.isSome) = some true := by
  intro ex h
  simp only [List.mem_cons, List.not_mem_nil, or_false] at h
  rcases h with rfl | rfl | rfl | rfl <;>
    exact ⟨inv_of (by decide +kernel) (by decide +kernel) (by decide +kernel) (by decide +kernel) (by decide +kernel)
      (by decide +kernel), by decide +kernel⟩

/-- A wait left over from an abandoned exchange, with no exchange and with the next one due. -/
theorem witness_ExchangeFailuresHaveTheirResults_leftOver :
    let s := { line with saw := { line.saw with wait := some 6 } }
    let d := exchanging (some 6) (exchange 0 1 .readDue false)
    (s.saw.wait = some 6 ∧ s.saw.exchange = none)
      ∧ d.saw.wait = some 6 ∧ d.saw.exchange = some (exchange 0 1 .readDue false) := by
  decide +kernel

theorem witness_ExchangeFailuresHaveTheirResults_trim :
    let s := exchanging (some 6) (exchange 0 1 (.writePattern reading) false)
    s.Inv ∧ s.lugDue 0 4 ∧ slotOf s 1 ∈ s.tracker.ring ∧ (slotOf s 1).offset + 1 = s.geo.tr
      ∧ Station.tr ∉ (slotOf s 1).passed ∧ (slotOf s 1).kind = .board ∧ (slotOf s 1).commit = some (committed .notStarted) :=
  ⟨witness_ArrivalAtCommitFixesTheDecision_exchange.1, by decide +kernel⟩

theorem witness_SubscriptionsOfferAndWithdraw :
    line.Inv ∧ line.consoleReady 0 ∧ (line.consoles.get 0).offersWaiting + line.tracker.ring.length ≤ 32
      ∧ line.windowOffers = [(2, proposalFrame (piece2 none (solveOf .solved (some solution))) solution)] :=
  ⟨line_inv, by decide +kernel⟩

/-- The line with tag 3, about to arrive at GW, solved. -/
def solved3 : State :=
  lineSlots fun x => if x.tag = 3 then { x with solve := some (solveOf .solved (some solution)) } else x

theorem witness_SubscriptionsOfferAndWithdraw_window :
    solved3.Inv ∧ solved3.lugDue 0 4 ∧ slotOf solved3 3 ∈ solved3.tracker.ring ∧ (slotOf solved3 3).kind = .board
      ∧ (slotOf solved3 3).offset + 1 = solved3.geo.gw ∧ Station.gw ∉ (slotOf solved3 3).passed
      ∧ (slotOf solved3 3).solution = some solution ∧ (solved3.consoles.get 0).subscribed = true
      ∧ (solved3.consoles.get 0).offersWaiting + 2 * solved3.tracker.ring.length ≤ 32 :=
  ⟨inv_of (by decide +kernel) (by decide +kernel) (by decide +kernel) (by decide +kernel) (by decide +kernel)
    (by decide +kernel), by decide +kernel⟩

theorem witness_ClaimAndReleaseMoveTheHolder :
    let s := lineWith (piece2 (some 3) (solveOf .solved (some solution)))
    (line.consoleReady 3 ∧ line.slot? (word 0 2) = some (piece2 none (solveOf .solved (some solution)))
        ∧ (line.claims 3).length < 2)
      ∧ s.consoleReady 3 ∧ s.slot? (word 0 2) = some (piece2 (some 3) (solveOf .solved (some solution))) := by
  decide +kernel

theorem witness_OverridesChangeTheRecord :
    let x := piece2 (some 3) (solveOf .solved (some solution))
    (lineWith x).holds 3 (word 0 2) x (solveOf .solved (some solution)) ∧ x.scan.extent = some 4
      ∧ (3 : Byte).toNat < 4 ∧ (89 : Byte).toNat ≤ 89 ∧ (7 : Byte).toNat ≤ 7 ∧ x.console.overrides.marks.length < 4
      ∧ 0 + (1 : Byte).toNat < (lineWith x).geo.saws ∧ (0 + (1 : Byte).toNat) * (lineWith x).geo.pitch ≤ 4
      ∧ ∀ j < 4, x.scan.cells[j]? ≠ some .empty := by
  unfold State.holds
  decide +kernel

/-- A log of `n` slices, first mean `a`, last mean `b`. -/
def logOf (n a b : Nat) : LogRecord :=
  { number := some 1207, slices := n, firstMean := some a, lastMean := some b, volume := 18263 }

/-- Ready, with a log open and `n` logs queued. -/
def logging (log : LogRecord) (n : Nat) : State :=
  { ready with
    lane :=
      { ready.lane with
        state := .open log
        queue := List.replicate n { number := none, rejected := true, entry := 2000, countdown := 1 } } }

theorem logging_inv : (logging (logOf 5 500 232) 0).Inv ∧ (logging (logOf 200 149 149) 8).Inv :=
  ⟨inv_of (by decide +kernel) (by decide +kernel) (by decide +kernel) (by decide +kernel) (by decide +kernel)
    (by decide +kernel),
   inv_of (by decide +kernel) (by decide +kernel) (by decide +kernel) (by decide +kernel) (by decide +kernel)
    (by decide +kernel)⟩

theorem witness_LogsMeasuredAndJudged :
    ready.tracker.line ≠ .starting ∧ ready.lane.state = .idle
      ∧ (logOf 199 305 232).slices < 200 ∧ word 0 200 = (logOf 199 305 232).slices + 1
      ∧ (logging (logOf 5 500 232) 0).Inv ∧ word 0 5 = (logOf 5 500 232).slices
      ∧ runOf 1 0 .both ∈ (logging (logOf 5 500 232) 0).runs.records
      ∧ (∀ i < 2, ∀ b ∈ ready.tables.logClasses.bounds.items[i]?, b ≤ min 500 232)
      ∧ (∀ b ∈ ready.tables.logClasses.bounds.items[2]?, min 500 232 < b)
      ∧ (logging (logOf 200 149 149) 8).Inv ∧ word 0 200 = (logOf 200 149 149).slices
      ∧ ∀ b ∈ ready.tables.logClasses.bounds.items[0]?, min 149 149 < b :=
  ⟨by decide +kernel, by decide +kernel, by decide +kernel, by decide +kernel, logging_inv.1,
   by decide +kernel, by decide +kernel, by decide +kernel, by decide +kernel, logging_inv.2, by decide +kernel,
   by decide +kernel⟩

theorem witness_LogsMeasuredAndJudged_faults :
    let open' := logging (logOf 200 149 149) 8
    open'.Inv ∧ open'.tracker.line ≠ .starting ∧ runOf 1 0 .both ∈ open'.runs.records
      ∧ (runOf 1 0 .both).state.logCurrent = true ∧ open'.lane.state = .open (logOf 200 149 149)
      ∧ 200 ≤ (logOf 200 149 149).slices ∧ word 0 199 ≠ (logOf 200 149 149).slices
      ∧ ready.Inv ∧ runOf 1 0 .both ∈ ready.runs.records ∧ ready.lane.state = .idle
      ∧ (logging (logOf 4 1 1) 0).lane.state = .open (logOf 4 1 1) ∧ word 0 4 = (logOf 4 1 1).slices
      ∧ (logOf 4 1 1).slices < 5 ∧ word 0 4 ≠ (logOf 4 1 1).slices + 1
      ∧ ({ ready with lane := { ready.lane with state := .skipping } } : State).lane.state = .skipping :=
  ⟨logging_inv.2, by decide +kernel, by decide +kernel, by decide +kernel, by decide +kernel, by decide +kernel,
   by decide +kernel, ready_inv, by decide +kernel⟩

theorem witness_LogsMeasuredAndJudged_starting :
    State.reset.tracker.line = .starting
      ∧ Instr.slice [0, 1] ∈ [Instr.logStart [0, 1], .slice [0, 1], .logEnd [0, 1]] := by decide +kernel

theorem witness_LogCountsMoveTheQueue :
    let s := logging (logOf 5 500 232) 8
    let moved := s.lane.queue.map fun q => { q with countdown := q.countdown - 1 }
    s.tracker.line ≠ .starting ∧ (∀ q ∈ s.lane.queue, q.countdown ≤ q.entry)
      ∧ (∃ q ∈ moved.takeWhile (fun q => decide (q.countdown = 0)), q.rejected = true)
      ∧ ready.tracker.line ≠ .starting ∧ ready.lane.queue = [] ∧ State.reset.tracker.line = .starting := by
  decide +kernel

/-- The line with a cause pending, so that the beacon's wave runs, and a FIRE pulse running. -/
def alarmed : State := (({ line with ctl := { line.ctl with pendingCauses := 0x100 } } : State).pulse .fire)

theorem witness_PulsesAndWavesRun :
    alarmed.outputsJudged ∧ (alarmed.field.outputs.get 0).pulse = some 100
      ∧ (alarmed.field.outputs.get 3).wave = some { on := true, left := 1000 } := by
  decide +kernel

theorem witness_TableWriteApplies_outputs :
    let e := Entry.output 3 { function := .beacon, width := 50, rate := .four, callGrade := 5 }
    alarmed.serving ∧ alarmed.saving = false ∧ alarmed.tables.geometry.valid = true ∧ alarmed.tables.admits e = true
      ∧ e.needsStopped = false ∧ alarmed.inUse e = false ∧ alarmed.outputsJudged ∧ alarmed.alert = true := by
  decide +kernel

/-- Input 5 is ACTIVE and GENERAL, and the write binds it to TRIM_INHIBIT. -/
theorem witness_TableWriteApplies_inputs :
    let s := { line with
      tables := { line.tables with
        inputs :=
          (line.tables.inputs.set 2 { function := .none, polarity := .activeHigh, filter := 2 }).set 5
            { function := .general, polarity := .activeHigh, filter := 2 } }
      field := { line.field with inputs := line.field.inputs.set 5 { pin := true, filtered := true, timer := none } } }
    let e := Entry.input 5 { function := .trimInhibit, polarity := .activeHigh, filter := 0 }
    s.serving ∧ s.saving = false ∧ s.tables.admits e = true ∧ e.needsStopped = false ∧ s.inUse e = false
      ∧ ((run (.tableWrite 9 (e.kind.code :: u8 e.index :: e.encode)) s).field.inputs.get 5).filtered = true := by
  decide +kernel

/-- From 8 saws to 13 a module is added. -/
theorem witness_TableWriteApplies_modules :
    let s := { ready with tables := { ready.tables with
      geometry := { Geometry.default with saws := 8 }, sawBus := { modules := 1, timeout := 3 } } }
    let e := Entry.geometry Geometry.default
    s.serving ∧ s.saving = false ∧ s.tables.geometry.valid = true ∧ s.tables.admits e = true
      ∧ s.tracker.line = .stopped ∧ s.hasBoard = false ∧ s.inUse e = false
      ∧ s.tables.sawBus.modules < (s.tables.put e).sawBus.modules := by
  decide +kernel

theorem witness_TableWriteApplies_refused :
    TableKind.ofCode 0 = none ∧ TableKind.ofCode 2 = some .heads ∧ TableKind.heads.count ≤ (4 : Byte).toNat
      ∧ TableKind.heads.entryLength = 4 ∧ (savingAt 1).serving ∧ (savingAt 1).saving = true
      ∧ Entry.decode .heads 0 [0, 18, 2, 1] = none
      ∧ ((Entry.decode .heads 0 [0, 0, 0, 1]).map line.tables.admits) = some false
      ∧ ((Entry.decode .heads 0 [0, 2, 0, 1]).map line.tables.admits) = some true ∧ line.serving ∧ line.saving = false
      ∧ ¬(line.tracker.line = .stopped ∧ line.hasBoard = false) := by
  decide +kernel

theorem witness_ForcesDriveTheOutput :
    alarmed.serving ∧ alarmed.outputsJudged ∧ 7 < (8 : Byte).toNat ∧ 1 < (2 : Byte).toNat := by
  decide +kernel

theorem witness_ExitEntersTheTally :
    line.Inv ∧ line.lugDue 0 4 ∧ (line.tracker.ring.head?.map fun x => (x.kind, x.offset + 1, x.commit))
        = some (.board, line.geo.ex, some (committed .accepted))
      ∧ line.run? 1 = some (runOf 1 5 .both) ∧ line.ctl.reports.length ≤ 48 ∧ Station.tr ∈ (slotOf line 0).passed :=
  ⟨line_inv, by decide +kernel⟩

/-- For the invariants: a state that meets them, with a step from it. -/
theorem witness_StepKeeps : line.Inv ∧ ∃ t, step line = .next t := ⟨line_inv, _, rfl⟩

/-- The same with an exchange in flight: a lug pulse, at which that exchange is abandoned and the next one begun. -/
theorem witness_StepKeeps_exchange :
    let s := { exchanging (some 6) (exchange 0 1 .readState false) with pending := [.filterTimerExpiry 0] }
    s.Inv ∧ s.saw.exchange.isSome = true ∧ ∃ t, step s = .next t :=
  ⟨inv_of (by decide +kernel) (by decide +kernel) (by decide +kernel) (by decide +kernel) (by decide +kernel)
    (by decide +kernel), rfl, _, rfl⟩

theorem witness_StepKeepsTheBalances :
    line.Inv ∧ (∀ r ∈ line.runs.records, line.balanced r ∧ r.logBalanced) ∧ ∃ t, step line = .next t :=
  ⟨line_inv, by unfold State.balanced Run.logBalanced; decide +kernel, _, rfl⟩

theorem witness_OutputsAlwaysJudged :
    line.Inv ∧ line.outputsJudged ∧ ∃ t, exec .stopTimerExpiry line = .next t :=
  ⟨line_inv, by decide +kernel, _, rfl⟩

theorem witness_LevelCausesStayPending : line.levelsPending ∧ ∃ t, step line = .next t := ⟨by decide +kernel, _, rfl⟩

theorem witness_TalliesNeverDecrease :
    line.Inv ∧ exec .stopTimerExpiry line = .next (run .stopTimerExpiry line)
      ∧ runOf 1 5 .both ∈ line.runs.records ∧ runOf 1 5 .both ∈ (run .stopTimerExpiry line).runs.records :=
  ⟨line_inv, rfl, by decide +kernel⟩

theorem witness_DecisionAndScanNeverChange :
    line.Inv ∧ exec .stopTimerExpiry line = .next (run .stopTimerExpiry line)
      ∧ ∃ x ∈ line.tracker.ring, x ∈ (run .stopTimerExpiry line).tracker.ring ∧ x.commit = some (committed .accepted)
        ∧ x.scan.status ≠ .open ∧ x.kind ≠ .undecided :=
  ⟨line_inv, rfl, by decide +kernel⟩

/-! ## Ill-formed commands are refused by the check, one for each of its conditions -/

theorem test_wellFormed_payload_too_long : (Instr.tableWrite 0 (List.replicate 251 0)).wellFormed = false := by decide +kernel

theorem test_wellFormed_longest_payload : (Instr.tableWrite 0 (List.replicate 250 0)).wellFormed = true := by decide +kernel

theorem test_wellFormed_bad_frame_without_sync : (Instr.badFrame .log [0xC4, 251]).wellFormed = false := by decide +kernel

theorem test_wellFormed_bad_frame_not_judged_bad : (Instr.badFrame .log [0xC5, 250]).wellFormed = false := by decide +kernel

theorem test_wellFormed_timeout_of_a_whole_frame :
    (Instr.frameByteTimeout .control (Frame.wire { kind := 1, tag := 0, payload := [] })).wellFormed = false := by
  decide +kernel

theorem test_wellFormed_request_of_a_known_kind : (Instr.requestBadKind 0x12 0 []).wellFormed = false := by decide

theorem test_wellFormed_console_frame_of_a_known_kind : (Instr.consoleFrameBadKind 0 0x41 0 []).wellFormed = false := by
  decide

theorem test_wellFormed_log_frame_with_its_length : (Instr.logFrameDiscard 0x71 [0, 1]).wellFormed = false := by decide

theorem test_wellFormed_bus_frame_that_can_answer : (Instr.busFrameDiscarded 0x62 []).wellFormed = false := by decide

/-! ## The frame -/

/-- The check value of this CRC (polynomial 0x1021, initial 0xFFFF, unreflected) over the characters 1 to 9 is 0x29B1. -/
theorem test_crc_check_value : crc16 [0x31, 0x32, 0x33, 0x34, 0x35, 0x36, 0x37, 0x38, 0x39] = 0x29B1 := by decide +kernel

/-- R171: high byte first. -/
theorem test_high_byte_first : u16 640 = [2, 0x80] ∧ u32 18263 = [0, 0, 0x47, 0x57] := by decide

/-- A frame whose CRC is one bit wrong is bad. -/
theorem test_wrong_crc_is_bad : judgeBytes [0xC5, 0, 1, 0, 0, 0] = .bad := by decide +kernel

/-! ## Section 1.2's worked example: K 2048, W 256 -/

/-- The default line RUNNING with IN2 the lug sensor and its change due. -/
def chain (pos : Nat) (last : LastAdvance) : State :=
  { ready with
    tracker := { ready.tracker with pos := pos, lastAdvance := last, nextTag := 40, line := .running }
    tables := { ready.tables with inputs := ready.tables.inputs.set 2 { function := .lug, polarity := .activeHigh, filter := 4 } }
    field := { ready.field with inputs := ready.field.inputs.set 2 { pin := true, filtered := false, timer := some 1 } } }

theorem test_lug_at_2030_is_sensed :
    let t := run (.filterTimerExpiry 2) (chain 2030 .none)
    (t.tracker.pos, t.tracker.lastAdvance, t.tracker.ring.map (·.tag)) = (0, .sensed, [40]) := by decide +kernel

theorem test_lug_at_61_is_extra :
    let t := run (.filterTimerExpiry 2) (chain 61 .sensed)
    (t.tracker.pos, t.tracker.lastAdvance, t.isPending .lugExtra, t.tracker.ring.length) = (61, .sensed, true, 0) := by
  decide +kernel

theorem test_count_to_2304_is_synthesized :
    let t := run .chainForwardCount (chain 2303 .sensed)
    (t.tracker.pos, t.tracker.lastAdvance, t.isPending .lugMissed, t.tracker.ring.map (·.lugSynth))
      = (256, .synthesized false, true, [true]) := by decide +kernel

theorem test_reverse_count_from_256 : (run .chainReverseCount (chain 256 (.synthesized false))).tracker.pos = 255 := by
  decide +kernel

theorem test_lug_at_206_is_late :
    let t := run (.filterTimerExpiry 2) (chain 206 (.synthesized false))
    (t.tracker.pos, t.tracker.lastAdvance, t.isPending .lugExtra) = (0, .synthesized true, false) := by decide +kernel

/-- R6: in STOPPED the 128th count makes the line RUNNING (K/16 of 2048). -/
theorem test_run_up_of_128 :
    (run .chainForwardCount { ready with tracker := { ready.tracker with runUp := 127 } }).tracker.line = .running := by
  decide +kernel

/-! ## Inputs: section 9.1's bouncing sensor, a filter time of 2.0 ms -/

theorem test_pin_high_starts_the_filter :
    ((run (.inputRawChange 2 true)
      { chain 0 .none with field := { ready.field with inputs := ready.field.inputs } }).field.inputs.get 2).timer = some 4 := by
  decide +kernel

theorem test_pin_low_again_stops_it :
    let t := run (.inputRawChange 2 false) (chain 0 .none)
    ((t.field.inputs.get 2).timer, (t.field.inputs.get 2).filtered) = (none, false) := by decide +kernel

/-! ## Scans: section 2.3's overlap and section 2.6's extent -/

/-- The two overlap cells as HL0 and HL1 saw them. -/
def hl0Cells : List Cell :=
  [ .present { thickness := 380, width := 894, wane := 0, knot := 7, split := false, decay := false },
    .present { thickness := 382, width := 891, wane := 0, knot := 12, split := false, decay := false } ]

/-- HL1's local cell 18 as sent: width 4620. -/
theorem test_width_clamped :
    readEntry ([1] ++ u16 379 ++ u16 4620 ++ u16 45 ++ [9, 1])
      = some (.present { thickness := 379, width := 4500, wane := 45, knot := 9, split := true, decay := false }) := by
  decide +kernel

theorem test_overlap_with_a_reversed_head :
    ((mergeEntries { base := 18, span := 20, reversed := true, enabled := true } 18
      [ .present { thickness := 379, width := 4500, wane := 45, knot := 9, split := true, decay := false }, .empty ]
      (mergeEntries { base := 0, span := 20, reversed := false, enabled := true } 18 hl0Cells
        (List.replicate 72 .unseen))).drop 18).take 2
      = [ .present { thickness := 380, width := 894, wane := 0, knot := 7, split := false, decay := false },
          .present { thickness := 379, width := 891, wane := 45, knot := 12, split := true, decay := false } ] := by
  decide +kernel

theorem test_extent_63 :
    extentOf (List.replicate 3 .empty ++ List.replicate 53 sound ++ List.replicate 2 .empty ++ List.replicate 5 sound
      ++ List.replicate 9 .empty) = some 63 := by
  decide +kernel

/-- R31: the third miss in a row brings an UP head DOWN. -/
theorem test_third_miss : Head.miss { status := .up, misses := 2 } = { status := .down, misses := 3 } := by decide

theorem test_segment_of_no_slot_is_stray : (run (.segment 0 0x22 (segment4 0)) ready).scan.stray = 1 := by decide +kernel

/-! ## Section 3.9's board: solve, overrides, fallback, pattern and volume -/

/-- A cell with the wane that the default limits grade 1, 2, 3 and 7. -/
def waned (w : Nat) : Cell :=
  .present { thickness := 380, width := 900, wane := w, knot := 0, split := false, decay := false }

/-- The board's cell map: cells 0 to 69 PRESENT. -/
def board39 : List Cell :=
  List.replicate 2 (waned 2000) ++ List.replicate 39 (waned 10) ++ List.replicate 3 (waned 50)
    ++ List.replicate 17 (waned 10) ++ List.replicate 9 (waned 100) ++ List.replicate 2 .empty

/-- Grade set 1 with the case's allowances, and the four price rows of set 2. -/
def tables39 : Tables :=
  let row := fun l : List Nat => (Bank.ofFn fun i => l.getD i.val 0 : PriceRow)
  let allow := fun (r : GradeRecord) (a : Nat) => { r with allowance := a }
  { Tables.default with
    gradeSets := Tables.default.gradeSets.set 1
      ⟨[allow (GradeSet.default.get 0) 2, allow (GradeSet.default.get 1) 3, allow (GradeSet.default.get 2) 4,
        allow (GradeSet.default.get 3) 4, allow (GradeSet.default.get 4) 6, allow (GradeSet.default.get 5) 0], rfl⟩
    priceRows :=
      (((Tables.default.priceRows.set 14 (row [0, 0, 260, 350, 450, 560, 660, 760, 860, 960, 1060])).set 15
        (row [0, 0, 200, 270, 350, 430, 510, 590, 670, 750, 830])).set 16
        (row [0, 0, 150, 200, 250, 300, 350, 400, 450, 500, 550])).set 20
        (row [40, 80, 120, 160, 200, 240, 280, 320, 360, 400, 440]) }

/-- The solve of the case under an override record. -/
def job39 (o : Overrides) : SolveJob :=
  { tag := 640, cells := board39, extent := some 70, product := { Product.default 2 with gradeSet := 1, priceSet := 2 },
    overrides := o, generation := 0 }

theorem test_solve_3_9 :
    let r := solve tables39 (job39 Overrides.empty)
    (r.keep, r.noSpan, r.source, r.cellGrades.length)
      = (some { a := 1, b := 10, grade := .graded 2, value := 670 }, false, .solver, 70) := by decide +kernel

theorem test_solve_3_9_forced_length_6 :
    (solve tables39 (job39 { Overrides.empty with forcedLength := some 6 })).keep
      = some { a := 1, b := 7, grade := .graded 1, value := 560 } := by decide +kernel

theorem test_solve_3_9_marked :
    (solve tables39 (job39 { Overrides.empty with marks := [{ first := 41, last := 43, grade := 1 }] })).keep
      = some { a := 1, b := 10, grade := .graded 1, value := 860 } := by decide +kernel

theorem test_solve_3_9_forced_grade_1 :
    (solve tables39 (job39 { Overrides.empty with forcedGrade := some 1 })).keep
      = some { a := 0, b := 11, grade := .graded 1, value := 1060 } := by decide +kernel

theorem test_fallback_3_9 :
    (fallbackDecision Geometry.default (job39 Overrides.empty).product Overrides.empty board39 (some 70)).keep
      = some { a := 0, b := 11, grade := .ungraded, value := 0 } := by decide +kernel

/-- Section 6.2: modules 1 and 2 receive DROPPED at positions 0, 1 and 2, 3. -/
theorem test_pattern_6_2 :
    let p := sawPattern Geometry.default (some 70) (some { a := 1, b := 10, grade := .graded 2, value := 670 })
    (moduleSettings p 0, moduleSettings p 1) = (0x03, 0x0C) := by decide +kernel

/-- Section 8.4: 38 × 89 mm, 9 steps of 6 cells. -/
theorem test_volume_18263 : pieceVolume { Product.default 2 with thickness := 38, width := 89 } 6 9 = 18263 := by decide

/-! ## The saw bus: section 6.8 -/

theorem test_manual_saw_conflicts :
    conflicts 13 { committed .notStarted with keep := some { a := 1, b := 10, grade := .graded 1, value := 860 },
                                              pattern := sawPattern Geometry.default (some 70)
                                                (some { a := 1, b := 10, grade := .graded 1, value := 860 }) } 0
      { mask := 0x20, seq := 42, down := 0x20 } = true := by decide +kernel

theorem test_retry_begins_attempt_2 :
    let t := run (.retry [1]) (exchanging (some 6) (exchange 0 1 (.writePattern reading) false))
    (t.saw.exchange.map fun ex => (ex.attempt, ex.phase), (t.saw.modules.get 0).retries) = (some (2, .readState), 1) := by
  decide +kernel

/-- R105: an answer from the wrong address is discarded and counted. -/
theorem test_wrong_address_discarded :
    let t := run (.ack [2]) (exchanging (some 6) (exchange 0 1 (.writePattern reading) false))
    (t.saw.discarded, t.saw.wait) = (1, some 6) := by decide +kernel

/-- R161: the bus receiver takes the frame sent: alone it leaves nothing, after one stray sync byte and length it is held. -/
theorem test_sent_frame_is_taken :
    let s := exchanging none (exchange 0 1 (.writeDue reading) false)
    let t := run .writePattern s
    let held := { s with links := s.links.set 9 { held := [0xC5, 20], discarded := 0 } }
    t.links.get 9 = { held := [], discarded := 0 }
      ∧ ((run .writePattern held).links.get 9).held.length = 11 := by decide +kernel

/-! ## Consoles: section 5.6 -/

/-- The frames waiting at a console, by kind and payload. -/
def waiting (s : State) (c : Fin 4) : List (Byte × List Byte) :=
  (s.consoles.get c).queue.map fun f => match f with
    | .reply f => (f.kind, f.payload)
    | .proposal _ f => (f.kind, f.payload)
    | .withdraw _ f => (f.kind, f.payload)

theorem test_claim_of_a_held_piece : -- REFUSED HELD, 5
    waiting (run (.claim 0 7 [0, 2]) (lineWith (piece2 (some 1) (solveOf .solved (some solution))))) 0
      = [(0x4F, [1, 0, 2, 5])] := by decide +kernel

theorem test_override_after_commit_is_late : -- REFUSED LATE, 4
    waiting (run (.forceScrap 0 7 [0, 1]) line) 0 = [(0x4F, [1, 0, 1, 4])] := by decide +kernel

theorem test_claim_done : waiting (run (.claim 2 7 [0, 2]) line) 2 = [(0x4E, [0, 2, 0, 0])] := by decide +kernel

/-- R95, R172: a claim holder is one byte, CL0 to CL3 or none. -/
theorem test_holder_code : (consoleOf .open (some 3)).items.take 2 = [1, 3] ∧ (consoleOf .open none).items.take 2 = [1, 4] := by
  decide +kernel

/-! ## Logs: section 7.3's slices 1 and 2 -/

theorem test_slice_1 :
    let t := run (.slice (u16 1 ++ u16 312 ++ u16 298)) (logging { logOf 0 0 0 with firstMean := none, volume := 0 } 0)
    t.lane.state = .open { number := some 1207, slices := 1, firstMean := some 305, lastMean := some 305, volume := 7302 } := by
  decide +kernel

theorem test_slice_2 :
    let t := run (.slice (u16 2 ++ u16 305 ++ u16 300)) (logging { logOf 1 305 305 with volume := 7302 } 0)
    t.lane.state = .open { number := some 1207, slices := 2, firstMean := some 305, lastMean := some 302, volume := 14488 } := by
  decide +kernel

/-- A SED of 232 is class 2; a full log queue takes no ninth log (R128). -/
theorem test_log_end_class_2 :
    ((run (.logEnd [0, 42]) (logging (logOf 42 305 232) 0)).runs.records.map (·.tally.classes.items))
      = [[0, 0, 1, 0, 0, 0, 0, 0]] := by decide +kernel

/-! ## Runs: section 8.1's change of product -/

theorem test_second_open_run_refused : -- PENDING_CUTOVER, 8
    (run (.openRun 3 [6]) twoRuns).ctl.replies = [{ kind := 0xFF, tag := 3, payload := [0x0A, 8] }] := by decide +kernel

theorem test_cutover_leaves_the_old_run_draining :
    let t := run (.boardCutover 3 []) twoRuns
    (t.runs.records.map (·.state), t.ctl.replies)
      = ([.draining, .both], [{ kind := 0x8B, tag := 3, payload := [0, 2, 3] }]) := by decide +kernel

/-- R139: a released run is found no more: its state is absent. -/
theorem test_released_run_is_absent :
    State.pieceRunItems { ready with runs := { ready.runs with records := [] } } (slotOf line 0) = [0, 1, 0, 0] := by
  decide +kernel

theorem test_exit_enters_the_tally :
    let t := run (.filterTimerExpiry 0) line
    (t.runs.records.map fun r => ((r.tally.kept.get 5).get 0, r.tally.value)) = [(1, 10)] := by decide +kernel

/-! ## The control link -/

theorem test_identify : -- 7140, revision 1, format 1, rate 0, STARTING 0
    (run (.identify 5 []) State.reset).ctl.replies
      = [{ kind := 0x81, tag := 5, payload := [0x1B, 0xE4, 1, 1, 0, 0] }] := by decide +kernel

theorem test_starting_refuses_busy : -- R165: BUSY, 5
    (run (.causes 5 []) State.reset).ctl.replies = [{ kind := 0xFF, tag := 5, payload := [0x03, 5] }] := by decide +kernel

theorem test_level_cause_stays_pending : -- R168: MODULE_OFFLINE while its modules are OFFLINE
    let t := run (.clearCauses 5 [0x3F, 0xFF]) ready
    (t.ctl.pendingCauses, t.ctl.replies.map (·.payload)) = (0x0020, [[0, 0x20]]) := by decide +kernel

/-- R77: a restart during write 3 completes page 2, at 128 to 191, and begins no later write. -/
theorem test_restart_completes_the_page_write :
    let m := (run .restartAnnounced restartingInSave).store.memory
    [127, 128, 191, 192].map (memRead m) = [0xFF, 7, 7, 0xFF] := by
  decide +kernel

/-- R110, R34, R16: the load adds module 2, disables head 2, and its lug pulse at K-W makes the advance. -/
theorem test_requested_load_is_followed :
    let t := after (.next ((loadingTurning 1792).endLoad (.good turning))) State.reset
    (t.isPending .moduleOffline, (t.scan.heads.get 2).status, t.tracker.pos, t.tracker.lastAdvance)
      = (true, .disabled, 0, .sensed) := by
  decide +kernel

theorem test_restart_blocks_the_next_request : -- R163: BUSY, 5
    (run (.tallyRead 6 [0, 1, 0]) (run (.restart 5 []) ready)).ctl.replies.map (·.payload) = [[], [0x0C, 5]] := by
  decide +kernel

/-! ## Tables and the image -/

/-- Section 4.1: entry 20 of PRICE ROW is grade 7 of set 2. -/
theorem test_price_row_20 : tables39.price { Product.default 0 with priceSet := 2 } 7 11 = 440 := by decide +kernel

theorem test_bad_reversed_byte_refused : -- R171: BAD_VALUE, 3
    (run (.tableWrite 9 [2, 0, 0, 18, 2, 1]) ready).ctl.replies = [{ kind := 0xFF, tag := 9, payload := [7, 3] }] := by
  decide +kernel

theorem test_fifth_head_refused : -- NO_SUCH, 7
    (run (.tableRead 9 [2, 4]) ready).ctl.replies = [{ kind := 0xFF, tag := 9, payload := [6, 7] }] := by decide +kernel

/-- R71: until its last write a save keeps the inverse of its CRC. -/
theorem test_inverse_crc : invertCrc [0xC9, 1, 5, 0x74, 0x12, 0x34, 7] = [0xC9, 1, 5, 0x74, 0xED, 0xCB, 7] := by decide

/-- The image is 1396 bytes, in 22 pages with page 21 short. -/
theorem test_image_length : imageLength = 1396 ∧ pageOf 22 = 21 ∧ pageOf 23 = 0 := by decide

/-! ## Outputs: section 9.2's example -/

theorem test_forced_off_pulse_runs_on :
    let t := run (.outputForce 9 [0, 0]) alarmed
    ((t.field.outputs.get 0).level, (t.field.outputs.get 0).pulse) = (false, some 100) := by decide +kernel

theorem test_released_pulse_drives_again :
    ((run (.outputRelease 9 [0]) (run (.outputForce 9 [0, 0]) alarmed)).field.outputs.get 0).level = true := by decide +kernel

theorem test_line_clear_ends_the_pulse :
    let t := run (.lineClear 9 []) alarmed
    ((t.field.outputs.get 0).level, (t.field.outputs.get 3).level) = (false, true) := by decide +kernel

end Sys2Proof.Tests
end

/-! PROOF. A TABLE WRITE that the port takes, by its first check that decides (R62), and the GEOMETRY write (R15). -/

namespace Sys2Proof.Machine

/-! ## The checks of a GEOMETRY write -/

/-- The ranges and relations of R15, as the manual lists them. -/
theorem Geometry.valid_iff (g : Geometry) :
    g.valid = true ↔
      2 ≤ g.saws ∧ g.saws ≤ 16 ∧ 4 ≤ g.pitch ∧ g.pitch ≤ 8 ∧ (g.saws - 1) * g.pitch ≤ 90
        ∧ 64 ≤ g.lugPitch ∧ g.lugPitch ≤ 65535 ∧ 1 ≤ g.halfWidth ∧ g.halfWidth ≤ g.lugPitch / 4
        ∧ 100 ≤ g.stopTime ∧ g.stopTime ≤ 5000
        ∧ 1 ≤ g.sd ∧ g.sd < g.gw ∧ g.gw < g.cm ∧ g.cm + 2 ≤ g.ex ∧ g.ex ≤ 31 := by
  simp only [Geometry.valid, within, Bool.and_eq_true, decide_eq_true_eq, and_assoc]
  rfl

/-- Bytes that read as a GEOMETRY entry have the length of one (section 11.6). -/
theorem Geometry.length_of_decode {body : List Byte} {g : Geometry} (h : Geometry.decode body = some g) :
    body.length = TableKind.geometry.entryLength := by
  unfold Geometry.decode at h
  split at h
  · rfl
  · cases h

/-! ## Tables replaced -/

/-- An INPUTS entry written as it was does nothing at its input. -/
theorem State.inputRewritten_self (s : State) (b : Bank 8 InputEntry) (i : Fin 8) : State.inputRewritten b b s i = s := by
  simp [State.inputRewritten]

/-- An INPUTS table that stays as it was has no effect. -/
theorem State.inputsRewritten_self (s : State) (b : Bank 8 InputEntry) : s.inputsRewritten b b = s :=
  List.foldl_fixed' (fun i => State.inputRewritten_self s b i) _

@[simp] theorem State.raise_tables (s : State) (x : Cause) : (s.raise x).tables = s.tables :=
  (congrArg State.tables (State.raise_keeps s x).1 :)

@[simp] theorem State.changeModuleCount_tables (s : State) (old new : Nat) :
    (s.changeModuleCount old new).tables = s.tables := by
  unfold State.changeModuleCount
  split <;> simp

@[simp] theorem State.outputsRewritten_tables (s : State) (old new : Bank 8 OutputEntry) :
    (s.outputsRewritten old new).tables = s.tables := by
  simp [State.outputsRewritten]

/-- Where the inputs' entries stay, the tables in force after a replacement are the new ones. -/
theorem State.applyTables_tables {s : State} {new : Tables} (h : new.inputs = s.tables.inputs) :
    (s.applyTables new).tables = new := by
  simp [State.applyTables, h, State.inputsRewritten_self]

/-- Only a write of INPUTS changes an INPUTS entry. -/
theorem Tables.put_inputs (t : Tables) {e : Entry} (h : e.kind ≠ .inputs) : (t.put e).inputs = t.inputs := by
  cases e with
  | input i e => exact absurd rfl h
  | _ => rfl

/-- An entry applied, not one of INPUTS, stands in the tables, and nothing else of them has changed. -/
theorem State.applyEntry_tables (s : State) {e : Entry} (h : e.kind ≠ .inputs) :
    (s.applyEntry e).tables = s.tables.put e :=
  State.applyTables_tables (s.tables.put_inputs h)

/-! ## TABLE WRITE (R62) -/

/-- A TABLE WRITE of two bytes or more that the port takes goes to the Table Store. -/
theorem exec_tableWrite_taken {s : State} (h : s.serving) (frameTag k i : Byte) (body : List Byte) :
    exec (.tableWrite frameTag (k :: i :: body)) s =
      .next ((s.received .control (k :: i :: body)).writeTable frameTag (k :: i :: body)) := by
  have hlen : decide (2 ≤ (k :: i :: body).length) = true := by simp
  show execTableWrite frameTag (k :: i :: body) s = _
  rw [execTableWrite, hlen, State.request_taken h.1 _ _ _ _ _ (.inl h.2)]

/-- Once the kind, the index, the length and the controller's activity are passed and the bytes read as an entry, the entry's
fields and then the editing condition decide. -/
theorem State.writeTable_decoded {s : State} {k i : Byte} {body : List Byte} {kind : TableKind} {e : Entry}
    (hk : TableKind.ofCode k = some kind) (hi : i.toNat < kind.count) (hl : body.length = kind.entryLength)
    (hs : s.saving = false) (he : Entry.decode kind i.toNat body = some e) (frameTag : Byte) :
    s.writeTable frameTag (k :: i :: body) =
      if !s.tables.admits e then s.refuse tableWriteKind frameTag .badValue
      else if e.needsStopped && !s.editable then s.refuse tableWriteKind frameTag .state
      else s.writeEntry frameTag e := by
  simp [State.writeTable, hk, Nat.not_le.mpr hi, hl, hs, he]

/-- An entry of no set that a solve uses is applied and answered at once (R70). -/
theorem State.writeEntry_of_not_inUse {s : State} {e : Entry} (h : s.inUse e = false) (frameTag : Byte) :
    s.writeEntry frameTag e = (s.applyEntry e).ok tableWriteKind frameTag [] := by
  rw [State.writeEntry, if_neg (by simp [h])]

/-- The editing condition (R16). -/
theorem State.editable_iff (s : State) : s.editable = true ↔ s.tracker.line = .stopped ∧ s.hasBoard = false := by
  simp [State.editable]

@[simp] theorem State.received_editable (s : State) (l : Link) (p : List Byte) :
    (s.received l p).editable = s.editable := rfl
@[simp] theorem State.received_saving (s : State) (l : Link) (p : List Byte) : (s.received l p).saving = s.saving := rfl

/-! ## The GEOMETRY write (R15) -/

/-- A GEOMETRY entry applied is in force, and the module count follows S (R63). -/
theorem State.applyEntry_geometry (s : State) (g : Geometry) :
    (s.applyEntry (.geometry g)).tables.geometry = g
      ∧ (s.applyEntry (.geometry g)).tables.sawBus.modules = (g.saws + 7) / 8 := by
  rw [State.applyEntry_tables s (e := .geometry g) nofun]
  exact ⟨rfl, rfl⟩

section
variable {s : State} {body : List Byte} {g : Geometry}

/-- A GEOMETRY write as its owner takes it, by the checks that are left when its bytes read as an entry. -/
theorem State.writeTable_geometry (hs : s.saving = false) (hd : Geometry.decode body = some g) (frameTag : Byte) :
    s.writeTable frameTag (1 :: 0 :: body) =
      if !g.valid then s.refuse tableWriteKind frameTag .badValue
      else if !s.editable then s.refuse tableWriteKind frameTag .state
      else (s.applyEntry (.geometry g)).ok tableWriteKind frameTag [] := by
  have he : Entry.decode .geometry (0 : Byte).toNat body = some (.geometry g) := by simp [Entry.decode, hd]
  rw [State.writeTable_decoded (by decide) (by decide) (Geometry.length_of_decode hd) hs he,
    State.writeEntry_of_not_inUse rfl]
  rfl

/-- A GEOMETRY write that breaks no range and no relation is applied under the editing condition. -/
theorem exec_geometryWrite_of_valid (h : s.serving) (hs : s.saving = false) (hd : Geometry.decode body = some g)
    (hv : g.valid = true) (he : s.editable = true) (frameTag : Byte) :
    exec (.tableWrite frameTag (1 :: 0 :: body)) s =
      .next (((s.received .control (1 :: 0 :: body)).applyEntry (.geometry g)).ok tableWriteKind frameTag []) := by
  have hs' := (s.received_saving .control (1 :: 0 :: body)).trans hs
  rw [exec_tableWrite_taken h, State.writeTable_geometry hs' hd]
  simp [hv, he]

/-- A GEOMETRY write that breaks a range or a relation is answered BAD_VALUE and does nothing else. -/
theorem exec_geometryWrite_of_not_valid (h : s.serving) (hs : s.saving = false) (hd : Geometry.decode body = some g)
    (hv : ¬ g.valid = true) (frameTag : Byte) :
    exec (.tableWrite frameTag (1 :: 0 :: body)) s =
      .next (s.answered (1 :: 0 :: body) { kind := 0xFF, tag := frameTag, payload := [7, 3] }) := by
  have hs' := (s.received_saving .control (1 :: 0 :: body)).trans hs
  rw [exec_tableWrite_taken h, State.writeTable_geometry hs' hd, if_pos (by simp [hv])]
  rfl

end

/-- Settles O9: R15's list is the model's check, so a GEOMETRY write goes one of two ways by it. -/
theorem geometryWriteChecks : Obligations.GeometryWriteChecks := by
  refine ⟨fun _ => rfl, fun frameTag body g s hserve hsave hd => ?_⟩
  rw [← g.valid_iff]
  refine ⟨fun hv hline hboard => ?_, fun hv => exec_geometryWrite_of_not_valid hserve hsave hd hv frameTag⟩
  have hedit := s.editable_iff.mpr ⟨hline, hboard⟩
  exact ⟨_, exec_geometryWrite_of_valid hserve hsave hd hv hedit frameTag, State.applyEntry_geometry _ g⟩

end Sys2Proof.Machine


/-! PROOF. POWER_ON in the Board Solver and the Console Interface (R60, R98): their records and claims are in the slots of the
ring, so what is derived from an empty ring is empty or false. -/

namespace Sys2Proof.Machine

/-! ## What an empty ring derives -/

section
variable {s : State} (h : s.tracker.ring = [])
include h

theorem State.solveQueue_of_ring_nil : s.solveQueue = [] := by simp [State.solveQueue, h]

theorem State.claims_of_ring_nil (c : Fin 4) : s.claims c = [] := by simp [State.claims, h]

theorem State.callCondition_of_ring_nil (e : OutputEntry) : s.callCondition e = false := by simp [State.callCondition, h]

end

/-! ## The blocks after power-on -/

theorem exec_powerOn (strap0 strap1 : Bool) (pins : Byte) (s : State) :
    exec (.powerOn strap0 strap1 pins) s = .next (s.powerOn strap0 strap1 pins) := rfl

section
variable (s : State) (strap0 strap1 : Bool) (pins : Byte)

@[simp] theorem State.powerOn_ring : (s.powerOn strap0 strap1 pins).tracker.ring = [] := rfl

@[simp] theorem State.powerOn_solver : (s.powerOn strap0 strap1 pins).solver = { engine := none, abandoned := 0 } := rfl

@[simp] theorem State.powerOn_console (c : Fin 4) :
    (s.powerOn strap0 strap1 pins).consoles.get c = { subscribed := false, queue := [], sending := none, dropped := 0 } :=
  Bank.get_fill _ c

end

/-- Settles O3: the ring is empty after power-on, and with it the solve queue, the claims and the call conditions; the engine and
the consoles' own fields are those of the reset state. -/
theorem powerOnSolverAndConsoles : Obligations.PowerOnSolverAndConsoles := by
  intro strap0 strap1 pins s
  have hring := s.powerOn_ring strap0 strap1 pins
  refine ⟨_, exec_powerOn strap0 strap1 pins s, hring, State.solveQueue_of_ring_nil hring, ?engine, ?abandoned,
    fun c => ⟨?subscribed, State.claims_of_ring_nil hring c, ?queue, ?dropped⟩, State.callCondition_of_ring_nil hring⟩
  case engine | abandoned => simp only [State.powerOn_solver]
  case subscribed | queue | dropped => simp only [State.powerOn_console]

end Sys2Proof.Machine


/-! PROOF. The saw pattern (R102): one setting for each saw, and that setting by the decision and the extent. -/

namespace Sys2Proof.Machine

/-! ## The setting of one saw -/

section
variable {pitch e s : Nat} {k : Keep}

@[simp] theorem sawDropped_no_extent (keep : Option Keep) : sawDropped pitch none keep s = true := rfl

theorem sawDropped_of_end_le (keep : Option Keep) (h : e ≤ s * pitch) : sawDropped pitch (some e) keep s = false := by
  cases keep <;> simp [sawDropped, h]

theorem sawDropped_scrap (h : s * pitch < e) : sawDropped pitch (some e) none s = true := decide_eq_true h

/-- Row KEEP of R102: of the saws before the piece's end, those strictly inside the kept span alone are RAISED. -/
theorem sawDropped_keep_iff (h : s * pitch < e) : sawDropped pitch (some e) (some k) s = true ↔ s ≤ k.a ∨ k.b ≤ s := by
  simp [sawDropped, h]

end

/-! ## The pattern holds the setting of every saw -/

section
variable (g : Geometry) (extent : Option Nat) (keep : Option Keep)

@[simp] theorem length_sawPattern : (sawPattern g extent keep).length = g.saws := by simp [sawPattern]

theorem getElem?_sawPattern {s : Nat} (h : s < g.saws) :
    (sawPattern g extent keep)[s]? = some (sawDropped g.pitch extent keep s) := by
  simp [sawPattern, h]

end

/-- Settles O36: position s of the pattern is the setting of saw s, and R102's table is the setting's own case split, on the extent,
the saw's place before or past the piece's end, and the kept span. -/
theorem patternFollowsTheDecision : Obligations.PatternFollowsTheDecision := by
  refine ⟨length_sawPattern, fun g keep s hs => ?_⟩
  simp only [getElem?_sawPattern g _ _ hs, Option.some.injEq]
  refine ⟨sawDropped_no_extent keep, fun e hend => sawDropped_of_end_le keep hend, ?scrap, ?kept⟩
  case scrap =>
    rintro e hbefore rfl
    exact sawDropped_scrap hbefore
  case kept =>
    rintro e k hbefore rfl
    refine ⟨(sawDropped_keep_iff hbefore).mpr, fun ha hb => ?_⟩
    rw [← Bool.not_eq_true, sawDropped_keep_iff hbefore]
    omega

end Sys2Proof.Machine


/-! PROOF. What raising a cause, making a report, entering a tally and the shared parts of the exchange leave in each field. -/

namespace Sys2Proof.Machine

/-! ## Causes and reports -/

@[simp] theorem State.raise_clock (s : State) (x : Cause) : (s.raise x).clock = s.clock :=
  (congrArg State.clock (s.raise_keeps x).1 :)
@[simp] theorem State.raise_freeCount (s : State) (x : Cause) : (s.raise x).freeCount = s.freeCount :=
  (congrArg State.freeCount (s.raise_keeps x).1 :)
@[simp] theorem State.raise_tracker (s : State) (x : Cause) : (s.raise x).tracker = s.tracker :=
  (congrArg State.tracker (s.raise_keeps x).1 :)
@[simp] theorem State.raise_scan (s : State) (x : Cause) : (s.raise x).scan = s.scan :=
  (congrArg State.scan (s.raise_keeps x).1 :)
@[simp] theorem State.raise_solver (s : State) (x : Cause) : (s.raise x).solver = s.solver :=
  (congrArg State.solver (s.raise_keeps x).1 :)
@[simp] theorem State.raise_store (s : State) (x : Cause) : (s.raise x).store = s.store :=
  (congrArg State.store (s.raise_keeps x).1 :)
@[simp] theorem State.raise_consoles (s : State) (x : Cause) : (s.raise x).consoles = s.consoles :=
  (congrArg State.consoles (s.raise_keeps x).1 :)
@[simp] theorem State.raise_saw (s : State) (x : Cause) : (s.raise x).saw = s.saw :=
  (congrArg State.saw (s.raise_keeps x).1 :)
@[simp] theorem State.raise_lane (s : State) (x : Cause) : (s.raise x).lane = s.lane :=
  (congrArg State.lane (s.raise_keeps x).1 :)
@[simp] theorem State.raise_runs (s : State) (x : Cause) : (s.raise x).runs = s.runs :=
  (congrArg State.runs (s.raise_keeps x).1 :)
@[simp] theorem State.raise_links (s : State) (x : Cause) : (s.raise x).links = s.links :=
  (congrArg State.links (s.raise_keeps x).1 :)
@[simp] theorem State.raise_pending (s : State) (x : Cause) : (s.raise x).pending = s.pending :=
  (congrArg State.pending (s.raise_keeps x).1 :)

@[simp] theorem State.raise_inputs (s : State) (x : Cause) : (s.raise x).field.inputs = s.field.inputs := (s.raise_keeps x).2

/-- Raising a cause keeps the replies, the mask, the rate, the request in process and the frame on the wire. -/
theorem State.raise_port (s : State) (x : Cause) :
    (s.raise x).ctl.replies = s.ctl.replies ∧ (s.raise x).ctl.alertMask = s.ctl.alertMask ∧ (s.raise x).ctl.rate = s.ctl.rate
      ∧ (s.raise x).ctl.inProcess = s.ctl.inProcess ∧ (s.raise x).ctl.sending = s.ctl.sending
      ∧ (s.raise x).ctl.reports.length ≤ max s.ctl.reports.length 64 := by
  unfold State.raise
  split
  · exact ⟨rfl, rfl, rfl, rfl, rfl, le_max_left ..⟩
  · obtain ⟨h1, -, h3, h4, h5, h6, h7⟩ := ControlPort.report_keeps
      { s.ctl with pendingCauses := s.ctl.pendingCauses ||| x.bit } causeKind
      (causePayload x (s.ctl.pendingCauses ||| x.bit))
    exact ⟨h1, h3, h4, h5, h6, h7⟩

@[simp] theorem State.raise_replies (s : State) (x : Cause) : (s.raise x).ctl.replies = s.ctl.replies := (s.raise_port x).1
@[simp] theorem State.raise_alertMask (s : State) (x : Cause) : (s.raise x).ctl.alertMask = s.ctl.alertMask :=
  (s.raise_port x).2.1
@[simp] theorem State.raise_rate (s : State) (x : Cause) : (s.raise x).ctl.rate = s.ctl.rate := (s.raise_port x).2.2.1
@[simp] theorem State.raise_inProcess (s : State) (x : Cause) : (s.raise x).ctl.inProcess = s.ctl.inProcess :=
  (s.raise_port x).2.2.2.1
@[simp] theorem State.raise_sending (s : State) (x : Cause) : (s.raise x).ctl.sending = s.ctl.sending :=
  (s.raise_port x).2.2.2.2.1

@[simp] theorem State.report_clock (s : State) (k : Byte) (p : List Byte) : (s.report k p).clock = s.clock := rfl
@[simp] theorem State.report_freeCount (s : State) (k : Byte) (p : List Byte) : (s.report k p).freeCount = s.freeCount := rfl
@[simp] theorem State.report_tracker (s : State) (k : Byte) (p : List Byte) : (s.report k p).tracker = s.tracker := rfl
@[simp] theorem State.report_scan (s : State) (k : Byte) (p : List Byte) : (s.report k p).scan = s.scan := rfl
@[simp] theorem State.report_solver (s : State) (k : Byte) (p : List Byte) : (s.report k p).solver = s.solver := rfl
@[simp] theorem State.report_tables (s : State) (k : Byte) (p : List Byte) : (s.report k p).tables = s.tables := rfl
@[simp] theorem State.report_store (s : State) (k : Byte) (p : List Byte) : (s.report k p).store = s.store := rfl
@[simp] theorem State.report_consoles (s : State) (k : Byte) (p : List Byte) : (s.report k p).consoles = s.consoles := rfl
@[simp] theorem State.report_saw (s : State) (k : Byte) (p : List Byte) : (s.report k p).saw = s.saw := rfl
@[simp] theorem State.report_lane (s : State) (k : Byte) (p : List Byte) : (s.report k p).lane = s.lane := rfl
@[simp] theorem State.report_runs (s : State) (k : Byte) (p : List Byte) : (s.report k p).runs = s.runs := rfl
@[simp] theorem State.report_links (s : State) (k : Byte) (p : List Byte) : (s.report k p).links = s.links := rfl
@[simp] theorem State.report_pending (s : State) (k : Byte) (p : List Byte) : (s.report k p).pending = s.pending := rfl

@[simp] theorem State.report_inputs (s : State) (k : Byte) (p : List Byte) :
    (s.report k p).field.inputs = s.field.inputs := rfl

@[simp] theorem State.report_ctl (s : State) (k : Byte) (p : List Byte) : (s.report k p).ctl = s.ctl.report k p := rfl

@[simp] theorem ControlPort.report_replies (c : ControlPort) (k : Byte) (p : List Byte) :
    (c.report k p).replies = c.replies := (c.report_keeps k p).1
@[simp] theorem ControlPort.report_alertMask (c : ControlPort) (k : Byte) (p : List Byte) :
    (c.report k p).alertMask = c.alertMask := (c.report_keeps k p).2.2.1
@[simp] theorem ControlPort.report_rate (c : ControlPort) (k : Byte) (p : List Byte) :
    (c.report k p).rate = c.rate := (c.report_keeps k p).2.2.2.1
@[simp] theorem ControlPort.report_inProcess (c : ControlPort) (k : Byte) (p : List Byte) :
    (c.report k p).inProcess = c.inProcess := (c.report_keeps k p).2.2.2.2.1
@[simp] theorem ControlPort.report_sending (c : ControlPort) (k : Byte) (p : List Byte) :
    (c.report k p).sending = c.sending := (c.report_keeps k p).2.2.2.2.2.1

/-! ## Tally entries -/

/-- A tally entry, as a change of the runs which a raise of TALLY_SATURATED may follow. -/
theorem State.enter_eq (s : State) (seq : Nat) (l : List (Counter × Nat)) :
    s.enter seq l = s.setRuns (changeRun seq (·.countAll l))
      ∨ s.enter seq l = (s.setRuns (changeRun seq (·.countAll l))).raise .tallySaturated := by
  unfold State.enter
  split
  · exact .inr rfl
  · exact .inl rfl

@[simp] theorem State.enter_clock (s : State) (seq : Nat) (l : List (Counter × Nat)) : (s.enter seq l).clock = s.clock :=
  (congrArg State.clock (s.enter_keeps seq l).1 :)
@[simp] theorem State.enter_freeCount (s : State) (seq : Nat) (l : List (Counter × Nat)) : (s.enter seq l).freeCount = s.freeCount :=
  (congrArg State.freeCount (s.enter_keeps seq l).1 :)
@[simp] theorem State.enter_tracker (s : State) (seq : Nat) (l : List (Counter × Nat)) : (s.enter seq l).tracker = s.tracker :=
  (congrArg State.tracker (s.enter_keeps seq l).1 :)
@[simp] theorem State.enter_scan (s : State) (seq : Nat) (l : List (Counter × Nat)) : (s.enter seq l).scan = s.scan :=
  (congrArg State.scan (s.enter_keeps seq l).1 :)
@[simp] theorem State.enter_solver (s : State) (seq : Nat) (l : List (Counter × Nat)) : (s.enter seq l).solver = s.solver :=
  (congrArg State.solver (s.enter_keeps seq l).1 :)
@[simp] theorem State.enter_tables (s : State) (seq : Nat) (l : List (Counter × Nat)) : (s.enter seq l).tables = s.tables :=
  (congrArg State.tables (s.enter_keeps seq l).1 :)
@[simp] theorem State.enter_store (s : State) (seq : Nat) (l : List (Counter × Nat)) : (s.enter seq l).store = s.store :=
  (congrArg State.store (s.enter_keeps seq l).1 :)
@[simp] theorem State.enter_consoles (s : State) (seq : Nat) (l : List (Counter × Nat)) : (s.enter seq l).consoles = s.consoles :=
  (congrArg State.consoles (s.enter_keeps seq l).1 :)
@[simp] theorem State.enter_saw (s : State) (seq : Nat) (l : List (Counter × Nat)) : (s.enter seq l).saw = s.saw :=
  (congrArg State.saw (s.enter_keeps seq l).1 :)
@[simp] theorem State.enter_lane (s : State) (seq : Nat) (l : List (Counter × Nat)) : (s.enter seq l).lane = s.lane :=
  (congrArg State.lane (s.enter_keeps seq l).1 :)
@[simp] theorem State.enter_links (s : State) (seq : Nat) (l : List (Counter × Nat)) : (s.enter seq l).links = s.links :=
  (congrArg State.links (s.enter_keeps seq l).1 :)
@[simp] theorem State.enter_pending (s : State) (seq : Nat) (l : List (Counter × Nat)) : (s.enter seq l).pending = s.pending :=
  (congrArg State.pending (s.enter_keeps seq l).1 :)

@[simp] theorem State.enter_inputs (s : State) (seq : Nat) (l : List (Counter × Nat)) :
    (s.enter seq l).field.inputs = s.field.inputs := (s.enter_keeps seq l).2.1

@[simp] theorem State.enter_runs (s : State) (seq : Nat) (l : List (Counter × Nat)) :
    (s.enter seq l).runs = { s.runs with records := changeRun seq (·.countAll l) s.runs.records } :=
  (s.enter_keeps seq l).2.2

/-- A tally entry keeps the replies, the mask, the rate, the request in process and the frame on the wire. -/
theorem State.enter_port (s : State) (seq : Nat) (l : List (Counter × Nat)) :
    (s.enter seq l).ctl.replies = s.ctl.replies ∧ (s.enter seq l).ctl.alertMask = s.ctl.alertMask
      ∧ (s.enter seq l).ctl.rate = s.ctl.rate ∧ (s.enter seq l).ctl.inProcess = s.ctl.inProcess
      ∧ (s.enter seq l).ctl.sending = s.ctl.sending
      ∧ (s.enter seq l).ctl.reports.length ≤ max s.ctl.reports.length 64 := by
  rcases s.enter_eq seq l with h | h <;> rw [h]
  · exact ⟨rfl, rfl, rfl, rfl, rfl, le_max_left ..⟩
  · exact State.raise_port _ _

@[simp] theorem State.enter_replies (s : State) (seq : Nat) (l : List (Counter × Nat)) :
    (s.enter seq l).ctl.replies = s.ctl.replies := (s.enter_port seq l).1
@[simp] theorem State.enter_alertMask (s : State) (seq : Nat) (l : List (Counter × Nat)) :
    (s.enter seq l).ctl.alertMask = s.ctl.alertMask := (s.enter_port seq l).2.1
@[simp] theorem State.enter_rate (s : State) (seq : Nat) (l : List (Counter × Nat)) :
    (s.enter seq l).ctl.rate = s.ctl.rate := (s.enter_port seq l).2.2.1
@[simp] theorem State.enter_inProcess (s : State) (seq : Nat) (l : List (Counter × Nat)) :
    (s.enter seq l).ctl.inProcess = s.ctl.inProcess := (s.enter_port seq l).2.2.2.1
@[simp] theorem State.enter_sending (s : State) (seq : Nat) (l : List (Counter × Nat)) :
    (s.enter seq l).ctl.sending = s.ctl.sending := (s.enter_port seq l).2.2.2.2.1

@[simp] theorem State.closeDrained_clock (s : State) : (s.closeDrained).clock = s.clock := rfl
@[simp] theorem State.closeDrained_freeCount (s : State) : (s.closeDrained).freeCount = s.freeCount := rfl
@[simp] theorem State.closeDrained_tracker (s : State) : (s.closeDrained).tracker = s.tracker := rfl
@[simp] theorem State.closeDrained_scan (s : State) : (s.closeDrained).scan = s.scan := rfl
@[simp] theorem State.closeDrained_solver (s : State) : (s.closeDrained).solver = s.solver := rfl
@[simp] theorem State.closeDrained_tables (s : State) : (s.closeDrained).tables = s.tables := rfl
@[simp] theorem State.closeDrained_store (s : State) : (s.closeDrained).store = s.store := rfl
@[simp] theorem State.closeDrained_consoles (s : State) : (s.closeDrained).consoles = s.consoles := rfl
@[simp] theorem State.closeDrained_saw (s : State) : (s.closeDrained).saw = s.saw := rfl
@[simp] theorem State.closeDrained_lane (s : State) : (s.closeDrained).lane = s.lane := rfl
@[simp] theorem State.closeDrained_field (s : State) : (s.closeDrained).field = s.field := rfl
@[simp] theorem State.closeDrained_ctl (s : State) : (s.closeDrained).ctl = s.ctl := rfl
@[simp] theorem State.closeDrained_links (s : State) : (s.closeDrained).links = s.links := rfl
@[simp] theorem State.closeDrained_pending (s : State) : (s.closeDrained).pending = s.pending := rfl

@[simp] theorem State.closeDrained_runs (s : State) :
    s.closeDrained.runs = { s.runs with records := s.runs.records.map (Run.closeIfDrained s.tracker.ring) } := rfl

/-! ## The exchange -/

@[simp] theorem State.sendRead_clock (s : State) (ex : Exchange) : (s.sendRead ex).clock = s.clock :=
  (congrArg State.clock (s.sendRead_keeps ex).1 :)
@[simp] theorem State.sendRead_freeCount (s : State) (ex : Exchange) : (s.sendRead ex).freeCount = s.freeCount :=
  (congrArg State.freeCount (s.sendRead_keeps ex).1 :)
@[simp] theorem State.sendRead_tracker (s : State) (ex : Exchange) : (s.sendRead ex).tracker = s.tracker :=
  (congrArg State.tracker (s.sendRead_keeps ex).1 :)
@[simp] theorem State.sendRead_scan (s : State) (ex : Exchange) : (s.sendRead ex).scan = s.scan :=
  (congrArg State.scan (s.sendRead_keeps ex).1 :)
@[simp] theorem State.sendRead_solver (s : State) (ex : Exchange) : (s.sendRead ex).solver = s.solver :=
  (congrArg State.solver (s.sendRead_keeps ex).1 :)
@[simp] theorem State.sendRead_tables (s : State) (ex : Exchange) : (s.sendRead ex).tables = s.tables :=
  (congrArg State.tables (s.sendRead_keeps ex).1 :)
@[simp] theorem State.sendRead_store (s : State) (ex : Exchange) : (s.sendRead ex).store = s.store :=
  (congrArg State.store (s.sendRead_keeps ex).1 :)
@[simp] theorem State.sendRead_consoles (s : State) (ex : Exchange) : (s.sendRead ex).consoles = s.consoles :=
  (congrArg State.consoles (s.sendRead_keeps ex).1 :)
@[simp] theorem State.sendRead_lane (s : State) (ex : Exchange) : (s.sendRead ex).lane = s.lane :=
  (congrArg State.lane (s.sendRead_keeps ex).1 :)
@[simp] theorem State.sendRead_runs (s : State) (ex : Exchange) : (s.sendRead ex).runs = s.runs :=
  (congrArg State.runs (s.sendRead_keeps ex).1 :)
@[simp] theorem State.sendRead_field (s : State) (ex : Exchange) : (s.sendRead ex).field = s.field :=
  (congrArg State.field (s.sendRead_keeps ex).1 :)
@[simp] theorem State.sendRead_ctl (s : State) (ex : Exchange) : (s.sendRead ex).ctl = s.ctl :=
  (congrArg State.ctl (s.sendRead_keeps ex).1 :)
@[simp] theorem State.sendRead_pending (s : State) (ex : Exchange) : (s.sendRead ex).pending = s.pending :=
  (congrArg State.pending (s.sendRead_keeps ex).1 :)

@[simp] theorem State.sendRead_modules (s : State) (ex : Exchange) : (s.sendRead ex).saw.modules = s.saw.modules :=
  (congrArg SawBus.modules (s.sendRead_keeps ex).2.1 :)
@[simp] theorem State.sendRead_discarded (s : State) (ex : Exchange) : (s.sendRead ex).saw.discarded = s.saw.discarded :=
  (congrArg SawBus.discarded (s.sendRead_keeps ex).2.1 :)

@[simp] theorem State.beginModule_clock (s : State) (tag timeout i : Nat) : (s.beginModule tag timeout i).clock = s.clock :=
  (congrArg State.clock (s.beginModule_keeps tag timeout i).1 :)
@[simp] theorem State.beginModule_freeCount (s : State) (tag timeout i : Nat) : (s.beginModule tag timeout i).freeCount = s.freeCount :=
  (congrArg State.freeCount (s.beginModule_keeps tag timeout i).1 :)
@[simp] theorem State.beginModule_tracker (s : State) (tag timeout i : Nat) : (s.beginModule tag timeout i).tracker = s.tracker :=
  (congrArg State.tracker (s.beginModule_keeps tag timeout i).1 :)
@[simp] theorem State.beginModule_scan (s : State) (tag timeout i : Nat) : (s.beginModule tag timeout i).scan = s.scan :=
  (congrArg State.scan (s.beginModule_keeps tag timeout i).1 :)
@[simp] theorem State.beginModule_solver (s : State) (tag timeout i : Nat) : (s.beginModule tag timeout i).solver = s.solver :=
  (congrArg State.solver (s.beginModule_keeps tag timeout i).1 :)
@[simp] theorem State.beginModule_tables (s : State) (tag timeout i : Nat) : (s.beginModule tag timeout i).tables = s.tables :=
  (congrArg State.tables (s.beginModule_keeps tag timeout i).1 :)
@[simp] theorem State.beginModule_store (s : State) (tag timeout i : Nat) : (s.beginModule tag timeout i).store = s.store :=
  (congrArg State.store (s.beginModule_keeps tag timeout i).1 :)
@[simp] theorem State.beginModule_consoles (s : State) (tag timeout i : Nat) : (s.beginModule tag timeout i).consoles = s.consoles :=
  (congrArg State.consoles (s.beginModule_keeps tag timeout i).1 :)
@[simp] theorem State.beginModule_lane (s : State) (tag timeout i : Nat) : (s.beginModule tag timeout i).lane = s.lane :=
  (congrArg State.lane (s.beginModule_keeps tag timeout i).1 :)
@[simp] theorem State.beginModule_runs (s : State) (tag timeout i : Nat) : (s.beginModule tag timeout i).runs = s.runs :=
  (congrArg State.runs (s.beginModule_keeps tag timeout i).1 :)
@[simp] theorem State.beginModule_field (s : State) (tag timeout i : Nat) : (s.beginModule tag timeout i).field = s.field :=
  (congrArg State.field (s.beginModule_keeps tag timeout i).1 :)
@[simp] theorem State.beginModule_ctl (s : State) (tag timeout i : Nat) : (s.beginModule tag timeout i).ctl = s.ctl :=
  (congrArg State.ctl (s.beginModule_keeps tag timeout i).1 :)
@[simp] theorem State.beginModule_pending (s : State) (tag timeout i : Nat) : (s.beginModule tag timeout i).pending = s.pending :=
  (congrArg State.pending (s.beginModule_keeps tag timeout i).1 :)

@[simp] theorem State.beginModule_modules (s : State) (tag timeout i : Nat) :
    (s.beginModule tag timeout i).saw.modules = s.saw.modules := (s.beginModule_keeps tag timeout i).2.1
@[simp] theorem State.beginModule_discarded (s : State) (tag timeout i : Nat) :
    (s.beginModule tag timeout i).saw.discarded = s.saw.discarded := (s.beginModule_keeps tag timeout i).2.2

/-- The exchange after a module is begun is one of the piece it was begun for, or none. -/
theorem State.beginModule_exchange (s : State) (tag timeout i : Nat) :
    ∀ ex ∈ (s.beginModule tag timeout i).saw.exchange, ex.tag = tag := by
  unfold State.beginModule
  split
  · split
    · obtain ⟨p, hp, -⟩ := (s.sendRead_keeps _).2.2
      rw [hp]
      rintro _ ⟨⟩
      rfl
    · nofun
  · nofun

@[simp] theorem State.abandonExchange_clock (s : State) : (s.abandonExchange).clock = s.clock :=
  by
  unfold State.abandonExchange; split <;> rfl
@[simp] theorem State.abandonExchange_freeCount (s : State) : (s.abandonExchange).freeCount = s.freeCount :=
  by
  unfold State.abandonExchange; split <;> rfl
@[simp] theorem State.abandonExchange_scan (s : State) : (s.abandonExchange).scan = s.scan :=
  by
  unfold State.abandonExchange; split <;> rfl
@[simp] theorem State.abandonExchange_solver (s : State) : (s.abandonExchange).solver = s.solver :=
  by
  unfold State.abandonExchange; split <;> rfl
@[simp] theorem State.abandonExchange_tables (s : State) : (s.abandonExchange).tables = s.tables :=
  by
  unfold State.abandonExchange; split <;> rfl
@[simp] theorem State.abandonExchange_store (s : State) : (s.abandonExchange).store = s.store :=
  by
  unfold State.abandonExchange; split <;> rfl
@[simp] theorem State.abandonExchange_consoles (s : State) : (s.abandonExchange).consoles = s.consoles :=
  by
  unfold State.abandonExchange; split <;> rfl
@[simp] theorem State.abandonExchange_lane (s : State) : (s.abandonExchange).lane = s.lane :=
  by
  unfold State.abandonExchange; split <;> rfl
@[simp] theorem State.abandonExchange_runs (s : State) : (s.abandonExchange).runs = s.runs :=
  by
  unfold State.abandonExchange; split <;> rfl
@[simp] theorem State.abandonExchange_field (s : State) : (s.abandonExchange).field = s.field :=
  by
  unfold State.abandonExchange; split <;> rfl
@[simp] theorem State.abandonExchange_ctl (s : State) : (s.abandonExchange).ctl = s.ctl :=
  by
  unfold State.abandonExchange; split <;> rfl
@[simp] theorem State.abandonExchange_links (s : State) : (s.abandonExchange).links = s.links :=
  by
  unfold State.abandonExchange; split <;> rfl
@[simp] theorem State.abandonExchange_pending (s : State) : (s.abandonExchange).pending = s.pending :=
  by
  unfold State.abandonExchange; split <;> rfl

/-- The ring after an exchange is abandoned: the module's result set at the piece of the exchange. -/
theorem State.abandonExchange_eq (s : State) :
    s.abandonExchange.tracker =
        { s.tracker with
          ring := match s.saw.exchange with
            | none => s.tracker.ring
            | some ex =>
              changeSlot ex.tag (·.setCommit fun c => { c with results := c.results.set ex.module .abandoned }) s.tracker.ring }
      ∧ s.abandonExchange.saw = { s.saw with exchange := none } := by
  unfold State.abandonExchange
  cases h : s.saw.exchange with
  | none =>
    refine ⟨rfl, ?_⟩
    show s.saw = { s.saw with exchange := none }
    rw [← h]
  | some ex => exact ⟨rfl, rfl⟩

@[simp] theorem State.abandonExchange_saw (s : State) : s.abandonExchange.saw = { s.saw with exchange := none } :=
  s.abandonExchange_eq.2

end Sys2Proof.Machine


/-! PROOF. The frame of what happens along the line: which fields the arrivals of slots at their stations can never change. -/

namespace Sys2Proof.Machine

/-- What an announcement of a slot at a station, a tally entry or a cause never touches: of the part, all but the ring, the heads,
the solver, the consoles, the exchange, the run records, the outputs, the reports and the receivers. -/
structure State.LineFrame (s t : State) : Prop where
  clock : t.clock = s.clock
  freeCount : t.freeCount = s.freeCount
  tables : t.tables = s.tables
  store : t.store = s.store
  lane : t.lane = s.lane
  pending : t.pending = s.pending
  tracker : { t.tracker with ring := s.tracker.ring } = s.tracker
  scan : { t.scan with heads := s.scan.heads } = s.scan
  modules : t.saw.modules = s.saw.modules
  discarded : t.saw.discarded = s.saw.discarded
  lastIssued : t.runs.lastIssued = s.runs.lastIssued
  inputs : t.field.inputs = s.field.inputs
  replies : t.ctl.replies = s.ctl.replies
  alertMask : t.ctl.alertMask = s.ctl.alertMask
  rate : t.ctl.rate = s.ctl.rate
  inProcess : t.ctl.inProcess = s.ctl.inProcess
  sending : t.ctl.sending = s.ctl.sending

@[refl] theorem State.LineFrame.refl (s : State) : s.LineFrame s := by constructor <;> rfl

@[trans] theorem State.LineFrame.trans {s t u : State} (h : s.LineFrame t) (k : t.LineFrame u) : s.LineFrame u where
  clock := k.clock.trans h.clock
  freeCount := k.freeCount.trans h.freeCount
  tables := k.tables.trans h.tables
  store := k.store.trans h.store
  lane := k.lane.trans h.lane
  pending := k.pending.trans h.pending
  tracker := by rw [← h.tracker, ← k.tracker]
  scan := by rw [← h.scan, ← k.scan]
  modules := k.modules.trans h.modules
  discarded := k.discarded.trans h.discarded
  lastIssued := k.lastIssued.trans h.lastIssued
  inputs := k.inputs.trans h.inputs
  replies := k.replies.trans h.replies
  alertMask := k.alertMask.trans h.alertMask
  rate := k.rate.trans h.rate
  inProcess := k.inProcess.trans h.inProcess
  sending := k.sending.trans h.sending

section
variable {s t : State} (h : s.LineFrame t)
include h

theorem State.LineFrame.geo : t.geo = s.geo := congrArg Tables.geometry h.tables
theorem State.LineFrame.pos : t.tracker.pos = s.tracker.pos := (congrArg Tracker.pos h.tracker :)
theorem State.LineFrame.line : t.tracker.line = s.tracker.line := (congrArg Tracker.line h.tracker :)
theorem State.LineFrame.nextTag : t.tracker.nextTag = s.tracker.nextTag := (congrArg Tracker.nextTag h.tracker :)
theorem State.LineFrame.advanceTimes : t.tracker.advanceTimes = s.tracker.advanceTimes :=
  (congrArg Tracker.advanceTimes h.tracker :)
theorem State.LineFrame.triggers : t.scan.triggers = s.scan.triggers := (congrArg ScanIntake.triggers h.scan :)

theorem State.LineFrame.inputActive (f : InputFunction) : t.inputActive f = s.inputActive f := by
  simp [State.inputActive, h.tables, h.inputs]

end

/-! ## The shared operations -/

theorem State.LineFrame.raise (s : State) (x : Cause) : s.LineFrame (s.raise x) := by constructor <;> simp

theorem State.LineFrame.report (s : State) (k : Byte) (p : List Byte) : s.LineFrame (s.report k p) := by
  constructor <;> simp

theorem State.LineFrame.enter (s : State) (seq : Nat) (l : List (Counter × Nat)) : s.LineFrame (s.enter seq l) := by
  constructor <;> simp

theorem State.LineFrame.closeDrained (s : State) : s.LineFrame s.closeDrained := by constructor <;> rfl

theorem State.LineFrame.judge (s : State) : s.LineFrame s.judge := by constructor <;> rfl

theorem State.LineFrame.updateSlot (s : State) (tag : Nat) (f : Slot → Slot) : s.LineFrame (s.updateSlot tag f) := by
  constructor <;> rfl

theorem State.LineFrame.removeSlot (s : State) (tag : Nat) : s.LineFrame (s.removeSlot tag) := by constructor <;> rfl

theorem State.LineFrame.tellSubscribers (s : State) (f : Console → Console) : s.LineFrame (s.tellSubscribers f) := by
  constructor <;> rfl

theorem State.LineFrame.pulse (s : State) (f : OutputFunction) : s.LineFrame (s.pulse f) := by constructor <;> rfl

theorem State.LineFrame.beginModule (s : State) (tag timeout i : Nat) : s.LineFrame (s.beginModule tag timeout i) := by
  constructor <;> simp

theorem State.LineFrame.abandonExchange (s : State) : s.LineFrame s.abandonExchange := by
  constructor <;> simp [s.abandonExchange_eq.1]

/-! ## The arrivals -/

theorem State.LineFrame.arriveSD (s : State) (x : Slot) : s.LineFrame (s.arriveSD x) := by
  unfold State.arriveSD
  dsimp only
  split
  · exact State.LineFrame.trans (by constructor <;> rfl) (State.LineFrame.raise _ _)
  · constructor <;> rfl

theorem State.LineFrame.arriveGW (s : State) (x : Slot) : s.LineFrame (s.arriveGW x) := by
  unfold State.arriveGW
  dsimp only
  split <;> constructor <;> rfl

theorem State.LineFrame.endSolving (s : State) (x : Slot) : s.LineFrame (s.endSolving x) := by constructor <;> rfl

theorem State.LineFrame.raiseCommit (s : State) (x : Slot) : s.LineFrame (s.raiseCommit x) := by
  unfold State.raiseCommit
  split
  · exact .raise _ _
  · split
    · exact .raise _ _
    · rfl

theorem State.LineFrame.commitPiece (s : State) (x : Slot) : s.LineFrame (s.commitPiece x) := by
  unfold State.commitPiece
  exact (((State.LineFrame.updateSlot s _ _).trans (.raiseCommit _ x)).trans (.abandonExchange _)).trans
    (.beginModule _ _ _ _)

theorem State.LineFrame.closeWindow (s : State) (x : Slot) : s.LineFrame (s.closeWindow x) := by
  unfold State.closeWindow
  dsimp only
  split <;> constructor <;> rfl

theorem State.LineFrame.arriveCM (s : State) (x : Slot) : s.LineFrame (s.arriveCM x) := by
  refine .trans (.trans ?_ (.closeWindow _ x)) (.judge _)
  split
  · exact (State.LineFrame.endSolving s x).trans (.commitPiece _ x)
  · rfl

/-- The exchange of a piece abandoned where it is still in flight at TR (R112). -/
def State.endExchangeOf (s : State) (tag : Nat) : State :=
  if (s.saw.exchange.map (·.tag)) == some tag then s.abandonExchange else s

/-- A commit record as the trim station leaves it: TRIM_MISSED judged, the piece TRIMMED (R113). -/
def CommitRecord.trim (missed : Bool) (c : CommitRecord) : CommitRecord :=
  { c with trimMissed := c.trimMissed || missed, trimmed := true }

/-- The trim station's handling of a BOARD piece, in its two parts (R112, R113). -/
theorem State.trimPiece_eq (s : State) (tag : Nat) :
    s.trimPiece tag =
      match ((s.endExchangeOf tag).slot? tag).bind (·.commit) with
      | none => s.endExchangeOf tag
      | some c =>
        let u := (s.endExchangeOf tag).updateSlot tag
          (·.setCommit (CommitRecord.trim ((s.endExchangeOf tag).exchangeIncomplete c)))
        if (s.endExchangeOf tag).exchangeIncomplete c then u.raise .trimMissed else u := rfl

theorem State.LineFrame.endExchangeOf (s : State) (tag : Nat) : s.LineFrame (s.endExchangeOf tag) := by
  unfold State.endExchangeOf
  split
  · exact .abandonExchange s
  · rfl

theorem State.LineFrame.trimPiece (s : State) (tag : Nat) : s.LineFrame (s.trimPiece tag) := by
  have h := State.LineFrame.endExchangeOf s tag
  rw [State.trimPiece_eq]
  split
  · exact h
  · dsimp only
    split
    · exact (h.trans (.updateSlot _ _ _)).trans (.raise _ _)
    · exact h.trans (.updateSlot _ _ _)

theorem State.LineFrame.arriveTR (s : State) (x : Slot) : s.LineFrame (s.arriveTR x) := by
  unfold State.arriveTR
  dsimp only
  split
  · exact (State.LineFrame.pulse s _).trans (.trimPiece _ _)
  · exact .pulse s _

theorem State.LineFrame.exitPiece (s : State) (x : Slot) : s.LineFrame (s.exitPiece x) := by
  unfold State.exitPiece
  split
  · exact (State.LineFrame.enter s _ _).trans (.report _ _ _)
  · rfl

theorem State.LineFrame.arriveEX (s : State) (x : Slot) : s.LineFrame (s.arriveEX x) := by
  refine .trans (.trans ?_ (.removeSlot _ _)) (.closeDrained _)
  split
  · exact .exitPiece s x
  · rfl

theorem State.LineFrame.announce (s : State) (st : Station) (x : Slot) : s.LineFrame (s.announce st x) := by
  cases st
  · exact .arriveSD s x
  · exact .arriveGW s x
  · exact .arriveCM s x
  · exact .arriveTR s x
  · exact .arriveEX s x

theorem State.LineFrame.arriveAt (s : State) (tag : Nat) (st : Station) : s.LineFrame (s.arriveAt tag st) := by
  unfold State.arriveAt
  split
  · rfl
  · split
    · exact (State.LineFrame.updateSlot s _ _).trans (.announce _ _ _)
    · rfl

/-- A fold of operations that keep the frame keeps it. -/
theorem State.LineFrame.foldl {α : Type} {f : State → α → State} (hf : ∀ (s : State) a, s.LineFrame (f s a)) (l : List α) (s : State) :
    s.LineFrame (l.foldl f s) := by
  induction l generalizing s with
  | nil => rfl
  | cons a l ih => exact (hf s a).trans (ih _)

theorem State.LineFrame.arriveAll (s : State) (tag : Nat) : s.LineFrame (s.arriveAll tag) :=
  .foldl (fun s st => .arriveAt s tag st) _ s

theorem State.LineFrame.fixKind (s : State) (x : Slot) : s.LineFrame (s.fixKind x) := by
  unfold State.fixKind
  dsimp only
  split
  · exact (State.LineFrame.updateSlot s _ _).trans (.enter _ _ _)
  · exact (State.LineFrame.updateSlot s _ _).trans (.closeDrained _)

/-! ## The stages of an advance -/

/-- The ring moved on and the kind at offset 1 fixed, before the arrivals (R9, R12). -/
def State.movedOn (s : State) : State :=
  match s.moveRing.arriving with
  | some x => s.moveRing.fixKind x
  | none => s.moveRing

/-- Every slot that stands in the ring announced where it has arrived, oldest first (R13, R14). -/
def State.announced (s : State) : State := (s.tracker.ring.map (·.tag)).foldl State.arriveAll s

theorem State.LineFrame.movedOn (s : State) : s.moveRing.LineFrame s.movedOn := by
  unfold State.movedOn
  split
  · exact .fixKind _ _
  · rfl

theorem State.LineFrame.announced (s : State) : s.LineFrame s.announced := .foldl .arriveAll _ s

/-- From the moved ring to the state that the new slot joins. -/
theorem State.LineFrame.beforeCreate (s : State) : s.moveRing.LineFrame s.movedOn.announced :=
  (State.LineFrame.movedOn s).trans (.announced _)

end Sys2Proof.Machine


/-! PROOF. The state after a command, and what a request, a console's frame and a request on a piece can come to: the one case
split of each wrapper, for every property of the state after it. -/

namespace Sys2Proof.Machine

/-- The state after a command. -/
def State.after (s : State) (c : Instr) : State :=
  match exec c s with
  | .next t => t
  | _ => s

/-- Every command has a next state. -/
theorem exec_eq_after (c : Instr) (s : State) : exec c s = .next (s.after c) := by cases c <;> rfl

theorem State.after_of_exec {c : Instr} {s t : State} (h : exec c s = .next t) : s.after c = t := by
  unfold State.after
  rw [h]

/-- A step is a command of the queue run on the queue's rest, or half a millisecond. -/
theorem step_cases {s t : State} (h : step s = .next t) :
    (∃ c rest, s.pending = c :: rest ∧ t = ({ s with pending := rest } : State).after c)
      ∨ (s.pending = [] ∧ t = s.tick) := by
  unfold step at h
  split at h
  · next c rest hp => exact .inl ⟨c, rest, hp, (State.after_of_exec h).symm⟩
  · next hp =>
    cases h
    exact .inr ⟨hp, rfl⟩

section
variable {P : State → Prop} {s : State}

/-- A request is discarded, refused, or dealt with by its owner (R163 to R165). -/
theorem State.request_induct {k frameTag : Byte} {p : List Byte} {lengthOk inStarting : Bool} {body : State → State}
    (discarded : P ((s.received .control p).countDiscard .control))
    (refused : s.ctl.replies.length < 8 → ∀ code, P ((s.received .control p).refuse k frameTag code))
    (taken : s.portReady → lengthOk = true → (s.tracker.line ≠ .starting ∨ inStarting = true) →
      P (body (s.received .control p))) :
    P (s.request k frameTag p lengthOk inStarting body) := by
  rw [State.request_eq]
  split
  · exact discarded
  · next hr =>
    have hr' := Nat.not_le.mp hr
    split
    · exact refused hr' _
    · next hp =>
      split
      · exact refused hr' _
      · next hl =>
        split
        · exact refused hr' _
        · next hs =>
          refine taken ⟨hr', by simpa using hp⟩ (by simpa using hl) ?_
          by_cases h : s.tracker.line = .starting
          · exact .inr (by simpa [h] using hs)
          · exact .inl h

/-- A console's frame is discarded, answered BAD_VALUE, or dealt with by its rule (R79, R80). -/
theorem State.consoleFrame_induct {α : Type} {c : Fin 4} {frameTag : Byte} {p : List Byte} {read : Option α}
    {take : State → α → State}
    (discarded : P ((s.received (.console c) p).countDiscard (.console c)))
    (refused : s.consoleReady c →
      P ((s.received (.console c) p).consoleReply c (consoleRefused frameTag none .badValue)))
    (taken : s.consoleReady c → ∀ a, read = some a → P (take (s.received (.console c) p) a)) :
    P (s.consoleFrame c frameTag p read take) := by
  unfold State.consoleFrame
  dsimp only
  split
  · exact discarded
  · next h =>
    have hready : s.consoleReady c := Nat.not_le.mp h
    split
    · exact refused hready
    · exact taken hready _ rfl

/-- The piece that a console's request finds, past checks 2 to 5 (R85). -/
theorem State.pieceFor_ok {tag : Nat} {x : Slot} (h : s.pieceFor tag = .ok x) :
    s.slot? tag = some x ∧ x.kind ≠ .empty ∧ x.console.window = .open := by
  unfold State.pieceFor at h
  split at h
  · cases h
  · next y hy =>
    split at h
    · cases h
    · next hk =>
      split at h
      · cases h
      · cases h
      · next hw =>
        cases h
        exact ⟨hy, by simpa using hk, hw⟩

/-- A request on a piece is refused, or carried out and answered DONE (R85). -/
theorem State.onPiece_induct {c : Fin 4} {frameTag : Byte} {tag : Nat} {valid : Bool}
    {checks : Slot → Option ConsoleReason} {act : State → State}
    (refused : ∀ r, P (s.consoleReply c (consoleRefused frameTag (some tag) r)))
    (done : ∀ x, s.slot? tag = some x → x.kind ≠ .empty → x.console.window = .open → checks x = none → valid = true →
      P ((act s).consoleReply c (doneFrame frameTag tag ((((act s).slot? tag).map Slot.generation).getD 0)))) :
    P (s.onPiece c frameTag tag valid checks act) := by
  unfold State.onPiece
  split
  · exact refused _
  · next hv =>
    split
    · exact refused _
    · next x hx =>
      obtain ⟨hs, hk, hw⟩ := State.pieceFor_ok hx
      split
      · exact refused _
      · next hc => exact done x hs hk hw hc (by simpa using hv)

/-- A head link's frame is discarded, malformed or taken (R25). -/
theorem State.headFrame_induct {h : Fin 4} {kind : Byte} {p : List Byte}
    (discarded : P s) (malformed : P (s.setScan fun i => { i with malformed := bump i.malformed }))
    (taken : s.tracker.line ≠ .starting → (s.scan.heads.get h).status ≠ .disabled → kind = segmentKind →
      ∀ g, readSegment p = some g → P (s.takeSegment h g)) :
    P (s.headFrame h kind p) := by
  unfold State.headFrame
  split
  · exact discarded
  · next hd =>
    simp only [Bool.or_eq_true, beq_iff_eq, not_or] at hd
    split
    · exact malformed
    · next g hg =>
      split at hg
      · next hk => exact taken hd.1 hd.2 hk g hg
      · cases hg

/-- A segment that is not malformed is stray, late, merged, or late for a closed scan (R26). -/
theorem State.takeSegment_induct {h : Fin 4} {g : SegmentData}
    (stray : P (s.setScan fun i => { i with stray := bump i.stray }))
    (late : P (s.setScan fun i => { i with late := bump i.late }))
    (merged : ∀ x, s.slot? g.tag = some x → x.scan.last.get h = false → x.scan.status = .open →
      P ((s.updateSlot g.tag (·.mergeSegment (s.tables.heads.get h) h g)).lastInTime h g.last x.scan.deadlinePassed))
    (closed : ∀ x, s.slot? g.tag = some x → x.scan.last.get h = false → x.scan.status ≠ .open →
      P (((((s.setScan fun i => { i with late := bump i.late }).updateSlot g.tag
        (·.setScan fun r => { r with last := if g.last then r.last.set h true else r.last })).lastInTime h g.last
          x.scan.deadlinePassed).raise .scanLate))) :
    P (s.takeSegment h g) := by
  unfold State.takeSegment
  split
  · exact stray
  · next x hx =>
    split
    · exact late
    · next hl =>
      have hl' : x.scan.last.get h = false := by simpa using hl
      split
      · next ho => exact merged x hx hl' (by simpa using ho)
      · next ho => exact closed x hx hl' (by simpa using ho)

/-- A log frame is discarded, discarded and counted, or taken (R118). -/
theorem State.logFrame_induct {α : Type} {read : Option α} {take : State → α → State}
    (discarded : P s) (counted : P s.discardLog)
    (taken : s.tracker.line ≠ .starting → ∀ a, read = some a → P (take s a)) : P (s.logFrame read take) := by
  unfold State.logFrame
  split
  · exact discarded
  · next h =>
    split
    · exact counted
    · exact taken (by simpa using h) _ rfl

/-- The end of a log where the log queue has a place, and where it has none (R125, R126, R128). -/
theorem State.endLog_induct {r : LogRecord} {fault : Option LogFault}
    (queued : s.lane.queue.length < 8 → ∀ p : List Byte,
      P (((s.enter s.logSeq (logEntry fault (r.measures s.tables.logClasses)
          (judgeLog s.logProduct fault r.slices (r.measures s.tables.logClasses)))).setLane fun l =>
        { l with queue := l.queue ++ [{ number := r.number,
                                        rejected := (judgeLog s.logProduct fault r.slices
                                          (r.measures s.tables.logClasses)).isSome,
                                        entry := s.tables.logClasses.kicker,
                                        countdown := s.tables.logClasses.kicker }] }).report logKind p))
    (untracked : 8 ≤ s.lane.queue.length → ∀ p : List Byte,
      P (((s.enter s.logSeq (logEntry fault (r.measures s.tables.logClasses)
        (judgeLog s.logProduct fault r.slices (r.measures s.tables.logClasses)))).raise .logUntracked).report logKind p)) :
    P (s.endLog r fault) := by
  unfold State.endLog
  dsimp only
  split
  · next h => exact queued h _
  · next h => exact untracked (Nat.not_lt.mp h) _

end

end Sys2Proof.Machine


/-! PROOF. The state after each command: one equation a command, its meaning unfolded. -/

namespace Sys2Proof.Machine

theorem State.after_powerOn (strap0 strap1 : Bool) (pins : Byte) (s : State) :
    s.after (.powerOn strap0 strap1 pins) =
      s.powerOn strap0 strap1 pins := rfl

theorem State.after_chainForwardCount (s : State) :
    s.after (.chainForwardCount) =
      if s.tracker.line == .starting then s.setTracker (·.turn true) else (s.setTracker (·.turn true)).forwardCount := rfl

theorem State.after_chainReverseCount (s : State) :
    s.after (.chainReverseCount) =
      if s.tracker.line == .starting then s.setTracker (·.turn false)
      else (s.setTracker (·.turn false)).setTracker Tracker.reverseCount := rfl

theorem State.after_stopTimerExpiry (s : State) :
    s.after (.stopTimerExpiry) =
      if s.tracker.stopTimer.isSome then s.enterStopped else s := rfl

theorem State.after_inputRawChange (i : Fin 8) (high : Bool) (s : State) :
    s.after (.inputRawChange i high) =
      if (s.field.inputs.get i).pin == high then s else (s.setInput i fun x => { x with pin := high }).rawChanged i := rfl

theorem State.after_filterTimerExpiry (i : Fin 8) (s : State) :
    s.after (.filterTimerExpiry i) =
      if (s.field.inputs.get i).timer.isSome then s.recognise i else s := rfl

theorem State.after_segment (h : Fin 4) (kind : Byte) (payload : List Byte) (s : State) :
    s.after (.segment h kind payload) =
      (s.received (.head h) payload).headFrame h kind payload := rfl

theorem State.after_solveStart (s : State) :
    s.after (.solveStart) =
      s.startSolve := rfl

theorem State.after_solveComplete (s : State) :
    s.after (.solveComplete) =
      s.completeSolve := rfl

theorem State.after_writePattern (s : State) :
    s.after (.writePattern) =
      s.sendPattern := rfl

theorem State.after_state (payload : List Byte) (s : State) :
    s.after (.state payload) =
      (s.received .sawBus payload).takeState payload := rfl

theorem State.after_ack (payload : List Byte) (s : State) :
    s.after (.ack payload) =
      (s.received .sawBus payload).takeAck payload := rfl

theorem State.after_retry (payload : List Byte) (s : State) :
    s.after (.retry payload) =
      (s.received .sawBus payload).takeRetry payload := rfl

theorem State.after_fault (payload : List Byte) (s : State) :
    s.after (.fault payload) =
      (s.received .sawBus payload).takeFault payload := rfl

theorem State.after_replyTimeout (s : State) :
    s.after (.replyTimeout) =
      s.replyTimeout := rfl

theorem State.after_subscribe (c : Fin 4) (frameTag : Byte) (payload : List Byte) (s : State) :
    s.after (.subscribe c frameTag payload) =
      s.consoleFrame c frameTag payload (readNothing payload) fun s _ => s.takeSubscribe c frameTag := rfl

theorem State.after_unsubscribe (c : Fin 4) (frameTag : Byte) (payload : List Byte) (s : State) :
    s.after (.unsubscribe c frameTag payload) =
      s.consoleFrame c frameTag payload (readNothing payload) fun s _ => s.takeUnsubscribe c frameTag := rfl

theorem State.after_claim (c : Fin 4) (frameTag : Byte) (payload : List Byte) (s : State) :
    s.after (.claim c frameTag payload) =
      s.consoleFrame c frameTag payload (readWord payload) fun s tag => s.takeClaim c frameTag tag := rfl

theorem State.after_release (c : Fin 4) (frameTag : Byte) (payload : List Byte) (s : State) :
    s.after (.release c frameTag payload) =
      s.consoleFrame c frameTag payload (readWord payload) fun s tag => s.takeRelease c frameTag tag := rfl

theorem State.after_mark (c : Fin 4) (frameTag : Byte) (payload : List Byte) (s : State) :
    s.after (.mark c frameTag payload) =
      s.consoleFrame c frameTag payload (readMark payload) fun s r => s.takeMark c frameTag r := rfl

theorem State.after_forceGrade (c : Fin 4) (frameTag : Byte) (payload : List Byte) (s : State) :
    s.after (.forceGrade c frameTag payload) =
      s.consoleFrame c frameTag payload (readTagByte payload) fun s r => s.takeForceGrade c frameTag r := rfl

theorem State.after_forceLength (c : Fin 4) (frameTag : Byte) (payload : List Byte) (s : State) :
    s.after (.forceLength c frameTag payload) =
      s.consoleFrame c frameTag payload (readTagByte payload) fun s r => s.takeForceLength c frameTag r := rfl

theorem State.after_forceScrap (c : Fin 4) (frameTag : Byte) (payload : List Byte) (s : State) :
    s.after (.forceScrap c frameTag payload) =
      s.consoleFrame c frameTag payload (readWord payload) fun s tag => s.takeForceScrap c frameTag tag := rfl

theorem State.after_clearOverrides (c : Fin 4) (frameTag : Byte) (payload : List Byte) (s : State) :
    s.after (.clearOverrides c frameTag payload) =
      s.consoleFrame c frameTag payload (readWord payload) fun s tag => s.takeClearOverrides c frameTag tag := rfl

theorem State.after_consoleQueueSend (c : Fin 4) (s : State) :
    s.after (.consoleQueueSend c) =
      s.setConsole c Console.send := rfl

theorem State.after_logStart (payload : List Byte) (s : State) :
    s.after (.logStart payload) =
      (s.received .log payload).logFrame (readWord payload) State.takeLogStart := rfl

theorem State.after_slice (payload : List Byte) (s : State) :
    s.after (.slice payload) =
      (s.received .log payload).logFrame (readSlice payload) State.takeSlice := rfl

theorem State.after_logEnd (payload : List Byte) (s : State) :
    s.after (.logEnd payload) =
      (s.received .log payload).logFrame (readWord payload) State.takeLogEnd := rfl

theorem State.after_logForwardCount (s : State) :
    s.after (.logForwardCount) =
      if s.tracker.line == .starting then s.setLane (·.turn true)
      else ((s.setLane (·.turn true)).setLane fun l => { l with queue := l.queue.map QueuedLog.forward }).leaveQueue :=
        rfl

theorem State.after_logReverseCount (s : State) :
    s.after (.logReverseCount) =
      if s.tracker.line == .starting then s.setLane (·.turn false)
      else (s.setLane (·.turn false)).setLane fun l => { l with queue := l.queue.map QueuedLog.reverse } := rfl

theorem State.after_pulseTimerExpiry (o : Fin 8) (s : State) :
    s.after (.pulseTimerExpiry o) =
      if (s.field.outputs.get o).pulse.isSome then (s.setOutput o fun x => { x with pulse := none }).judge else s := rfl

theorem State.after_beaconPhaseChange (o : Fin 8) (s : State) :
    s.after (.beaconPhaseChange o) =
      if (s.field.outputs.get o).wave.isSome then (s.setOutput o fun x => { x with wave := x.wave.map (Wave.turn
        (s.tables.outputs.get o).rate) }).judge else s := rfl

theorem State.after_outputForce (frameTag : Byte) (payload : List Byte) (s : State) :
    s.after (.outputForce frameTag payload) =
      s.request outputForceKind frameTag payload (hasLength payload 2) false (·.forceOutput frameTag payload) := rfl

theorem State.after_outputRelease (frameTag : Byte) (payload : List Byte) (s : State) :
    s.after (.outputRelease frameTag payload) =
      s.request outputReleaseKind frameTag payload (hasLength payload 1) false (·.releaseOutput frameTag payload) := rfl

theorem State.after_tableRead (frameTag : Byte) (payload : List Byte) (s : State) :
    s.after (.tableRead frameTag payload) =
      s.request tableReadKind frameTag payload (hasLength payload 2) false (·.readTable frameTag payload) := rfl

theorem State.after_tableWrite (frameTag : Byte) (payload : List Byte) (s : State) :
    s.after (.tableWrite frameTag payload) =
      s.request tableWriteKind frameTag payload (decide (2 ≤ payload.length)) false (·.writeTable frameTag payload) := rfl

theorem State.after_heldWriteApplied (s : State) :
    s.after (.heldWriteApplied) =
      s.releaseHeld := rfl

theorem State.after_imageLoad (frameTag : Byte) (payload : List Byte) (s : State) :
    s.after (.imageLoad frameTag payload) =
      s.request imageLoadKind frameTag payload (hasLength payload 0) false (·.loadImage frameTag) := rfl

theorem State.after_imageReadTimeout (s : State) :
    s.after (.imageReadTimeout) =
      s.endLoad .noAnswer := rfl

theorem State.after_imageLoadEnd (s : State) :
    s.after (.imageLoadEnd) =
      s.endLoad (judgeImage s.store.memory) := rfl

theorem State.after_imageSave (frameTag : Byte) (payload : List Byte) (s : State) :
    s.after (.imageSave frameTag payload) =
      s.request imageSaveKind frameTag payload (hasLength payload 0) false (·.saveImage frameTag) := rfl

theorem State.after_pageWriteComplete (s : State) :
    s.after (.pageWriteComplete) =
      s.setStore Store.pageDone := rfl

theorem State.after_pageWriteTimeout (s : State) :
    s.after (.pageWriteTimeout) =
      s.pageTimedOut := rfl

theorem State.after_openRun (frameTag : Byte) (payload : List Byte) (s : State) :
    s.after (.openRun frameTag payload) =
      s.request openRunKind frameTag payload (hasLength payload 1) false (·.openRun frameTag payload) := rfl

theorem State.after_boardCutover (frameTag : Byte) (payload : List Byte) (s : State) :
    s.after (.boardCutover frameTag payload) =
      s.request boardCutoverKind frameTag payload (hasLength payload 0) false (·.cutOver frameTag) := rfl

theorem State.after_runRelease (frameTag : Byte) (payload : List Byte) (s : State) :
    s.after (.runRelease frameTag payload) =
      s.request runReleaseKind frameTag payload (hasLength payload 2) false (·.releaseRun frameTag payload) := rfl

theorem State.after_tallyRead (frameTag : Byte) (payload : List Byte) (s : State) :
    s.after (.tallyRead frameTag payload) =
      s.request tallyReadKind frameTag payload (hasLength payload 3) false (·.readTally frameTag payload) := rfl

theorem State.after_identify (frameTag : Byte) (payload : List Byte) (s : State) :
    s.after (.identify frameTag payload) =
      s.request identifyKind frameTag payload (hasLength payload 0) true fun s => s.ok identifyKind frameTag s.identity
        := rfl

theorem State.after_status (frameTag : Byte) (payload : List Byte) (s : State) :
    s.after (.status frameTag payload) =
      s.request statusKind frameTag payload (hasLength payload 1) true (·.readStatus frameTag payload) := rfl

theorem State.after_pieceQuery (frameTag : Byte) (payload : List Byte) (s : State) :
    s.after (.pieceQuery frameTag payload) =
      s.request pieceQueryKind frameTag payload (hasLength payload 2) false (·.queryPiece frameTag payload) := rfl

theorem State.after_causes (frameTag : Byte) (payload : List Byte) (s : State) :
    s.after (.causes frameTag payload) =
      s.request causesKind frameTag payload (hasLength payload 0) false fun s => s.ok causesKind frameTag (u16
        s.ctl.pendingCauses.toNat) := rfl

theorem State.after_clearCauses (frameTag : Byte) (payload : List Byte) (s : State) :
    s.after (.clearCauses frameTag payload) =
      s.request clearCausesKind frameTag payload (hasLength payload 2) false (·.clearCauses frameTag payload) := rfl

theorem State.after_alertMask (frameTag : Byte) (payload : List Byte) (s : State) :
    s.after (.alertMask frameTag payload) =
      s.request alertMaskKind frameTag payload (hasLength payload 2) false (·.setAlertMask frameTag payload) := rfl

theorem State.after_controlLinkSend (s : State) :
    s.after (.controlLinkSend) =
      s.setCtl ControlPort.send := rfl

theorem State.after_lineClear (frameTag : Byte) (payload : List Byte) (s : State) :
    s.after (.lineClear frameTag payload) =
      s.request lineClearKind frameTag payload (hasLength payload 0) false fun s => s.clearLine.ok lineClearKind
        frameTag [] := rfl

theorem State.after_restart (frameTag : Byte) (payload : List Byte) (s : State) :
    s.after (.restart frameTag payload) =
      s.request restartKind frameTag payload (hasLength payload 0) false fun s => (s.ok restartKind frameTag []).setCtl
        fun c => { c with inProcess := some .restart } := rfl

theorem State.after_restartAnnounced (s : State) :
    s.after (.restartAnnounced) =
      if s.restartDue then s.announceRestart else s := rfl

theorem State.after_badFrame (link : Link) (bytes : List Byte) (s : State) :
    s.after (.badFrame link bytes) =
      if beginsFrame bytes && judgeBytes bytes == .bad then s.setLink link (·.discard bytes) else s := rfl

theorem State.after_frameByteTimeout (link : Link) (bytes : List Byte) (s : State) :
    s.after (.frameByteTimeout link bytes) =
      if beginsFrame bytes && judgeBytes bytes == .incomplete then s.setLink link (·.discard bytes) else s := rfl

theorem State.after_headLinkSend (h : Fin 4) (s : State) :
    s.after (.headLinkSend h) =
      s.setScan fun i => { i with triggers := i.triggers.modify h TriggerLink.next } := rfl

theorem State.after_requestBadKind (kind frameTag : Byte) (payload : List Byte) (s : State) :
    s.after (.requestBadKind kind frameTag payload) =
      if requestKind kind then s else s.request kind frameTag payload true true fun s => s.refuse kind frameTag
        .badKind := rfl

theorem State.after_consoleFrameBadKind (c : Fin 4) (kind frameTag : Byte) (payload : List Byte) (s : State) :
    s.after (.consoleFrameBadKind c kind frameTag payload) =
      if consoleKind kind then s else s.consoleFrame c frameTag payload (none : Option Unit) fun s _ => s := rfl

theorem State.after_logFrameDiscard (kind : Byte) (payload : List Byte) (s : State) :
    s.after (.logFrameDiscard kind payload) =
      if logFrameLength kind = some payload.length then s
      else if s.tracker.line == .starting then s.received .log payload else (s.received .log payload).discardLog := rfl

theorem State.after_busFrameDiscarded (kind : Byte) (payload : List Byte) (s : State) :
    s.after (.busFrameDiscarded kind payload) =
      if answersRequest kind then s else (s.received .sawBus payload).discardBus := rfl

end Sys2Proof.Machine


/-! PROOF. What an advance leaves in each field, and with it the inputs' changes and the replacement of tables. -/

namespace Sys2Proof.Machine

/-! ## The advance -/

section
variable (s : State) (synth : Bool)

/-- The state that the new slot of an advance joins. -/
abbrev State.beforeCreate : State := s.movedOn.announced

@[simp] theorem State.advance_clock : (s.advance synth).clock = s.clock := (State.LineFrame.beforeCreate s).clock
@[simp] theorem State.advance_freeCount : (s.advance synth).freeCount = s.freeCount := (State.LineFrame.beforeCreate s).freeCount
@[simp] theorem State.advance_tables : (s.advance synth).tables = s.tables := (State.LineFrame.beforeCreate s).tables
@[simp] theorem State.advance_store : (s.advance synth).store = s.store := (State.LineFrame.beforeCreate s).store
@[simp] theorem State.advance_lane : (s.advance synth).lane = s.lane := (State.LineFrame.beforeCreate s).lane
@[simp] theorem State.advance_pending : (s.advance synth).pending = s.pending := (State.LineFrame.beforeCreate s).pending
@[simp] theorem State.advance_modules : (s.advance synth).saw.modules = s.saw.modules :=
  (State.LineFrame.beforeCreate s).modules
@[simp] theorem State.advance_discarded : (s.advance synth).saw.discarded = s.saw.discarded :=
  (State.LineFrame.beforeCreate s).discarded
@[simp] theorem State.advance_inputs : (s.advance synth).field.inputs = s.field.inputs :=
  (State.LineFrame.beforeCreate s).inputs
@[simp] theorem State.advance_lastIssued : (s.advance synth).runs.lastIssued = s.runs.lastIssued :=
  (State.LineFrame.beforeCreate s).lastIssued
@[simp] theorem State.advance_replies : (s.advance synth).ctl.replies = s.ctl.replies := (State.LineFrame.beforeCreate s).replies
@[simp] theorem State.advance_alertMask : (s.advance synth).ctl.alertMask = s.ctl.alertMask := (State.LineFrame.beforeCreate s).alertMask
@[simp] theorem State.advance_rate : (s.advance synth).ctl.rate = s.ctl.rate := (State.LineFrame.beforeCreate s).rate
@[simp] theorem State.advance_inProcess : (s.advance synth).ctl.inProcess = s.ctl.inProcess := (State.LineFrame.beforeCreate s).inProcess
@[simp] theorem State.advance_sending : (s.advance synth).ctl.sending = s.ctl.sending := (State.LineFrame.beforeCreate s).sending

/-- An advance leaves the Tracker but for the ring, the tag counter and the times of the last advances. -/
theorem State.advance_tracker :
    { (s.advance synth).tracker with
        ring := s.tracker.ring, nextTag := s.tracker.nextTag, advanceTimes := s.tracker.advanceTimes } = s.tracker := by
  have h := (State.LineFrame.beforeCreate s).tracker
  have h' : { s.beforeCreate.tracker with ring := s.tracker.ring, advanceTimes := s.tracker.advanceTimes } = s.tracker :=
    congrArg (fun t : Tracker => { t with ring := s.tracker.ring, advanceTimes := s.tracker.advanceTimes }) h
  exact congrArg (fun t : Tracker => { t with nextTag := s.tracker.nextTag }) h'

@[simp] theorem State.advance_phaseA : (s.advance synth).tracker.phaseA = s.tracker.phaseA :=
  (congrArg Tracker.phaseA (s.advance_tracker synth) :)
@[simp] theorem State.advance_phaseB : (s.advance synth).tracker.phaseB = s.tracker.phaseB :=
  (congrArg Tracker.phaseB (s.advance_tracker synth) :)
@[simp] theorem State.advance_pos : (s.advance synth).tracker.pos = s.tracker.pos :=
  (congrArg Tracker.pos (s.advance_tracker synth) :)
@[simp] theorem State.advance_lastAdvance : (s.advance synth).tracker.lastAdvance = s.tracker.lastAdvance :=
  (congrArg Tracker.lastAdvance (s.advance_tracker synth) :)
@[simp] theorem State.advance_line : (s.advance synth).tracker.line = s.tracker.line :=
  (congrArg Tracker.line (s.advance_tracker synth) :)
@[simp] theorem State.advance_runUp : (s.advance synth).tracker.runUp = s.tracker.runUp :=
  (congrArg Tracker.runUp (s.advance_tracker synth) :)
@[simp] theorem State.advance_stopTimer : (s.advance synth).tracker.stopTimer = s.tracker.stopTimer :=
  (congrArg Tracker.stopTimer (s.advance_tracker synth) :)

@[simp] theorem State.advance_scanCounts :
    ((s.advance synth).scan.stray, (s.advance synth).scan.late, (s.advance synth).scan.malformed) =
      (s.scan.stray, s.scan.late, s.scan.malformed) :=
  (congrArg (fun i : ScanIntake => (i.stray, i.late, i.malformed)) (State.LineFrame.beforeCreate s).scan :)

end

/-! ## Lug pulses and inputs -/

/-- A lug pulse in the capture region outside STARTING, and the three others (R2, R3). -/
theorem State.lugPulse_cases (s : State) :
    (s.tracker.line = .starting ∧ s.lugPulse = s)
      ∨ (s.tracker.line ≠ .starting ∧ s.geo.lugPitch - s.geo.halfWidth ≤ s.tracker.pos
          ∧ s.lugPulse = (s.advance false).setPos 0 .sensed)
      ∨ (s.tracker.line ≠ .starting ∧ s.tracker.pos < s.geo.lugPitch - s.geo.halfWidth
          ∧ s.tracker.pos ≤ s.geo.halfWidth ∧ s.tracker.lastAdvance = .synthesized false
          ∧ s.lugPulse = s.setPos 0 (.synthesized true))
      ∨ (s.tracker.line ≠ .starting ∧ s.tracker.pos < s.geo.lugPitch - s.geo.halfWidth
          ∧ ¬(s.tracker.pos ≤ s.geo.halfWidth ∧ s.tracker.lastAdvance = .synthesized false)
          ∧ s.lugPulse = s.raise .lugExtra) := by
  unfold State.lugPulse
  by_cases h1 : s.tracker.line = .starting
  · exact .inl ⟨h1, by simp [h1]⟩
  · right
    by_cases h2 : s.geo.lugPitch - s.geo.halfWidth ≤ s.tracker.pos
    · exact .inl ⟨h1, h2, by simp [h1, h2]⟩
    · right
      by_cases h3 : s.tracker.pos ≤ s.geo.halfWidth ∧ s.tracker.lastAdvance = .synthesized false
      · exact .inl ⟨h1, by omega, h3.1, h3.2, by simp [h1, h2, h3]⟩
      · exact .inr ⟨h1, by omega, h3, by rw [if_neg (by simpa using h1), if_neg h2, if_neg h3]⟩

section
variable {P : State → Prop} {s : State}

/-- A lug pulse does nothing, makes an advance, is late, or is extra. -/
theorem State.lugPulse_induct (nothing : P s)
    (sensed : s.tracker.line ≠ .starting → s.geo.lugPitch - s.geo.halfWidth ≤ s.tracker.pos →
      P ((s.advance false).setPos 0 .sensed))
    (late : P (s.setPos 0 (.synthesized true))) (extra : P (s.raise .lugExtra)) : P s.lugPulse := by
  rcases s.lugPulse_cases with ⟨-, h⟩ | ⟨h1, h2, h⟩ | ⟨-, -, -, -, h⟩ | ⟨-, -, -, h⟩ <;> rw [h]
  · exact nothing
  · exact sensed h1 h2
  · exact late
  · exact extra

/-- A recognised change is told to the owner of a lug sensor, a board eye or the trim inhibit, and only when ACTIVE (R153). -/
theorem State.announceInput_induct {f : InputFunction} {active : Bool} (nothing : P s)
    (lug : f = .lug → active = true → P s.lugPulse) (eye : f = .boardEye → active = true → P s.eyeActive)
    (inhibit : f = .trimInhibit → active = true → P (s.raise .inhibitActive)) : P (s.announceInput f active) := by
  unfold State.announceInput
  split
  · exact lug rfl rfl
  · exact eye rfl rfl
  · exact inhibit rfl rfl
  · exact nothing

/-- A raw change stops the filter timer, is recognised at once, or starts the timer (R152). -/
theorem State.rawChanged_induct {i : Fin 8}
    (back : rawLevel (s.tables.inputs.get i) (s.field.inputs.get i) = (s.field.inputs.get i).filtered →
      P (s.setInput i fun x => { x with timer := none }))
    (atOnce : rawLevel (s.tables.inputs.get i) (s.field.inputs.get i) ≠ (s.field.inputs.get i).filtered →
      (s.tables.inputs.get i).filter = 0 → P (s.recognise i))
    (filtered : rawLevel (s.tables.inputs.get i) (s.field.inputs.get i) ≠ (s.field.inputs.get i).filtered →
      (s.tables.inputs.get i).filter ≠ 0 →
      P (s.setInput i fun x => { x with timer := some (s.tables.inputs.get i).filter })) : P (s.rawChanged i) := by
  unfold State.rawChanged
  dsimp only
  split
  · next h => exact back (by simpa using h)
  · next h =>
    have h' := by simpa using h
    split
    · next h0 => exact atOnce h' h0
    · next h0 => exact filtered h' h0

end

/-- The raise with which a rewritten INPUTS entry begins: TRIM_INHIBIT bound to an input already ACTIVE (R153). -/
def State.inhibitRebound (s : State) (o n : InputEntry) (i : Fin 8) : State :=
  if n.function == .trimInhibit && o.function != .trimInhibit && (s.field.inputs.get i).filtered then s.raise .inhibitActive
  else s

/-- A rewritten INPUTS entry in its two parts: the binding, then the polarity. -/
theorem State.inputRewritten_eq (old new : Bank 8 InputEntry) (s : State) (i : Fin 8) :
    State.inputRewritten old new s i =
      if (old.get i).polarity == (new.get i).polarity then s.inhibitRebound (old.get i) (new.get i) i
      else (s.inhibitRebound (old.get i) (new.get i) i).rawChanged i := rfl

/-- A rebound TRIM_INHIBIT raises its cause or does nothing. -/
theorem State.inhibitRebound_eq (s : State) (o n : InputEntry) (i : Fin 8) :
    s.inhibitRebound o n i = s ∨ s.inhibitRebound o n i = s.raise .inhibitActive := by
  unfold State.inhibitRebound
  split
  · exact .inr rfl
  · exact .inl rfl

/-- What the inputs' changes never touch, a relation that they keep: reflexive, transitive, kept by a raise, a lug pulse, the
board eye and a change of one input. -/
structure State.InputRel (R : State → State → Prop) : Prop where
  refl : ∀ s, R s s
  trans : ∀ {s t u}, R s t → R t u → R s u
  raise : ∀ s, R s (s.raise .inhibitActive)
  lugPulse : ∀ s, R s s.lugPulse
  eyeActive : ∀ s, R s s.eyeActive
  setInput : ∀ s i f, R s (s.setInput i f)

namespace State.InputRel
variable {R : State → State → Prop} (h : State.InputRel R)
include h

theorem announceInput (s : State) (f : InputFunction) (active : Bool) : R s (s.announceInput f active) :=
  State.announceInput_induct (P := R s) (h.refl _) (fun _ _ => h.lugPulse _) (fun _ _ => h.eyeActive _) fun _ _ => h.raise _

theorem recognise (s : State) (i : Fin 8) : R s (s.recognise i) :=
  h.trans (h.setInput s i _) (h.announceInput _ _ _)

theorem rawChanged (s : State) (i : Fin 8) : R s (s.rawChanged i) :=
  State.rawChanged_induct (P := R s) (fun _ => h.setInput _ _ _) (fun _ _ => h.recognise _ _) fun _ _ => h.setInput _ _ _

theorem inputsRewritten (s : State) (old new : Bank 8 InputEntry) : R s (s.inputsRewritten old new) := by
  have step : ∀ (s : State) (i : Fin 8), R s (State.inputRewritten old new s i) := by
    intro s i
    have hr : R s (s.inhibitRebound (old.get i) (new.get i) i) := by
      rcases s.inhibitRebound_eq (old.get i) (new.get i) i with e | e <;> rw [e]
      · exact h.refl _
      · exact h.raise _
    rw [State.inputRewritten_eq]
    split
    · exact hr
    · exact h.trans hr (h.rawChanged _ _)
  unfold State.inputsRewritten
  induction List.finRange 8 generalizing s with
  | nil => exact h.refl _
  | cons i l ih => exact h.trans (step s i) (ih _)

end State.InputRel

/-- The commands that wait, the image controller and its memory, the tables, the Lane and the clock: what no change of an input
touches. -/
structure State.InputFrame (s t : State) : Prop where
  clock : t.clock = s.clock
  freeCount : t.freeCount = s.freeCount
  tables : t.tables = s.tables
  store : t.store = s.store
  lane : t.lane = s.lane
  pending : t.pending = s.pending
  modules : t.saw.modules = s.saw.modules
  discarded : t.saw.discarded = s.saw.discarded
  lastIssued : t.runs.lastIssued = s.runs.lastIssued
  replies : t.ctl.replies = s.ctl.replies
  alertMask : t.ctl.alertMask = s.ctl.alertMask
  rate : t.ctl.rate = s.ctl.rate
  inProcess : t.ctl.inProcess = s.ctl.inProcess
  sending : t.ctl.sending = s.ctl.sending
  line : t.tracker.line = s.tracker.line
  scanCounts : (t.scan.stray, t.scan.late, t.scan.malformed) = (s.scan.stray, s.scan.late, s.scan.malformed)

@[refl] theorem State.InputFrame.refl (s : State) : s.InputFrame s := by constructor <;> rfl

@[trans] theorem State.InputFrame.trans {s t u : State} (h : s.InputFrame t) (k : t.InputFrame u) : s.InputFrame u where
  clock := k.clock.trans h.clock
  freeCount := k.freeCount.trans h.freeCount
  tables := k.tables.trans h.tables
  store := k.store.trans h.store
  lane := k.lane.trans h.lane
  pending := k.pending.trans h.pending
  modules := k.modules.trans h.modules
  discarded := k.discarded.trans h.discarded
  lastIssued := k.lastIssued.trans h.lastIssued
  replies := k.replies.trans h.replies
  alertMask := k.alertMask.trans h.alertMask
  rate := k.rate.trans h.rate
  inProcess := k.inProcess.trans h.inProcess
  sending := k.sending.trans h.sending
  line := k.line.trans h.line
  scanCounts := k.scanCounts.trans h.scanCounts

theorem State.InputFrame.advance (s : State) (synth : Bool) : s.InputFrame (s.advance synth) := by
  constructor <;> simp

theorem State.InputFrame.lugPulse (s : State) : s.InputFrame s.lugPulse := by
  refine State.lugPulse_induct (.refl s) (fun _ _ => ?_) ?_ ?_
  · exact (State.InputFrame.advance s false).trans (by constructor <;> rfl)
  · constructor <;> rfl
  · constructor <;> simp

theorem State.InputFrame.rel : State.InputRel State.InputFrame where
  refl := .refl
  trans := .trans
  raise s := by constructor <;> simp
  lugPulse := .lugPulse
  eyeActive s := by constructor <;> rfl
  setInput s i f := by constructor <;> rfl

/-! ## Tables replaced -/

/-- The state of a replacement of tables before the modules and the inputs follow: the outputs judged, pos and the heads set. -/
def State.tablesSet (s : State) (new : Tables) : State :=
  ((({ s with tables := new } : State).outputsRewritten s.tables.outputs new.outputs).setTracker
      (·.clampPos new.geometry)).setScan fun i =>
    { i with heads := headsAfterWrite s.tables.heads new.heads i.heads }

/-- Modules set after a change of the module count, and MODULE_OFFLINE raised or not (R110). -/
theorem State.changeModuleCount_eq (s : State) (old new : Nat) :
    s.changeModuleCount old new =
      if old < new then (s.setSaw fun b => { b with modules := modulesAfterCount old new b.modules }).raise .moduleOffline
      else s.setSaw fun b => { b with modules := modulesAfterCount old new b.modules } := rfl

@[simp] theorem State.changeModuleCount_clock (s : State) (old new : Nat) : (s.changeModuleCount old new).clock = s.clock := by
  rw [State.changeModuleCount_eq]; split <;> simp
@[simp] theorem State.changeModuleCount_freeCount (s : State) (old new : Nat) : (s.changeModuleCount old new).freeCount = s.freeCount := by
  rw [State.changeModuleCount_eq]; split <;> simp
@[simp] theorem State.changeModuleCount_tracker (s : State) (old new : Nat) : (s.changeModuleCount old new).tracker = s.tracker := by
  rw [State.changeModuleCount_eq]; split <;> simp
@[simp] theorem State.changeModuleCount_scan (s : State) (old new : Nat) : (s.changeModuleCount old new).scan = s.scan := by
  rw [State.changeModuleCount_eq]; split <;> simp
@[simp] theorem State.changeModuleCount_solver (s : State) (old new : Nat) : (s.changeModuleCount old new).solver = s.solver := by
  rw [State.changeModuleCount_eq]; split <;> simp
@[simp] theorem State.changeModuleCount_store (s : State) (old new : Nat) : (s.changeModuleCount old new).store = s.store := by
  rw [State.changeModuleCount_eq]; split <;> simp
@[simp] theorem State.changeModuleCount_consoles (s : State) (old new : Nat) : (s.changeModuleCount old new).consoles = s.consoles := by
  rw [State.changeModuleCount_eq]; split <;> simp
@[simp] theorem State.changeModuleCount_lane (s : State) (old new : Nat) : (s.changeModuleCount old new).lane = s.lane := by
  rw [State.changeModuleCount_eq]; split <;> simp
@[simp] theorem State.changeModuleCount_runs (s : State) (old new : Nat) : (s.changeModuleCount old new).runs = s.runs := by
  rw [State.changeModuleCount_eq]; split <;> simp
@[simp] theorem State.changeModuleCount_links (s : State) (old new : Nat) : (s.changeModuleCount old new).links = s.links := by
  rw [State.changeModuleCount_eq]; split <;> simp
@[simp] theorem State.changeModuleCount_pending (s : State) (old new : Nat) : (s.changeModuleCount old new).pending = s.pending := by
  rw [State.changeModuleCount_eq]; split <;> simp
@[simp] theorem State.changeModuleCount_replies (s : State) (old new : Nat) :
    (s.changeModuleCount old new).ctl.replies = s.ctl.replies := by
  rw [State.changeModuleCount_eq]; split <;> simp
@[simp] theorem State.changeModuleCount_alertMask (s : State) (old new : Nat) :
    (s.changeModuleCount old new).ctl.alertMask = s.ctl.alertMask := by
  rw [State.changeModuleCount_eq]; split <;> simp
@[simp] theorem State.changeModuleCount_rate (s : State) (old new : Nat) :
    (s.changeModuleCount old new).ctl.rate = s.ctl.rate := by
  rw [State.changeModuleCount_eq]; split <;> simp
@[simp] theorem State.changeModuleCount_inProcess (s : State) (old new : Nat) :
    (s.changeModuleCount old new).ctl.inProcess = s.ctl.inProcess := by
  rw [State.changeModuleCount_eq]; split <;> simp
@[simp] theorem State.changeModuleCount_sending (s : State) (old new : Nat) :
    (s.changeModuleCount old new).ctl.sending = s.ctl.sending := by
  rw [State.changeModuleCount_eq]; split <;> simp
@[simp] theorem State.changeModuleCount_inputs (s : State) (old new : Nat) :
    (s.changeModuleCount old new).field.inputs = s.field.inputs := by
  rw [State.changeModuleCount_eq]; split <;> simp
@[simp] theorem State.changeModuleCount_saw (s : State) (old new : Nat) :
    (s.changeModuleCount old new).saw = { s.saw with modules := modulesAfterCount old new s.saw.modules } := by
  rw [State.changeModuleCount_eq]; split <;> simp

section
variable (s : State) (new : Tables)

/-- The state of a replacement of tables that the inputs' changes act on. -/
def State.beforeInputs : State := (s.tablesSet new).changeModuleCount s.tables.sawBus.modules new.sawBus.modules

theorem State.applyTables_eq_inputsRewritten :
    s.applyTables new = (s.beforeInputs new).inputsRewritten s.tables.inputs new.inputs := rfl

theorem State.applyTables_inputFrame : (s.beforeInputs new).InputFrame (s.applyTables new) :=
  State.InputFrame.rel.inputsRewritten _ _ _

@[simp] theorem State.beforeInputs_tables : (s.beforeInputs new).tables = new := by
  simp [State.beforeInputs, State.tablesSet]

@[simp] theorem State.applyTables_tables_eq : (s.applyTables new).tables = new :=
  (s.applyTables_inputFrame new).tables.trans (s.beforeInputs_tables new)
@[simp] theorem State.applyTables_clock : (s.applyTables new).clock = s.clock :=
  (s.applyTables_inputFrame new).clock.trans (by simp [State.beforeInputs, State.tablesSet, State.outputsRewritten])
@[simp] theorem State.applyTables_freeCount : (s.applyTables new).freeCount = s.freeCount :=
  (s.applyTables_inputFrame new).freeCount.trans (by simp [State.beforeInputs, State.tablesSet, State.outputsRewritten])
@[simp] theorem State.applyTables_store : (s.applyTables new).store = s.store :=
  (s.applyTables_inputFrame new).store.trans (by simp [State.beforeInputs, State.tablesSet, State.outputsRewritten])
@[simp] theorem State.applyTables_lane : (s.applyTables new).lane = s.lane :=
  (s.applyTables_inputFrame new).lane.trans (by simp [State.beforeInputs, State.tablesSet, State.outputsRewritten])
@[simp] theorem State.applyTables_pending : (s.applyTables new).pending = s.pending :=
  (s.applyTables_inputFrame new).pending.trans (by simp [State.beforeInputs, State.tablesSet, State.outputsRewritten])
@[simp] theorem State.applyTables_replies : (s.applyTables new).ctl.replies = s.ctl.replies :=
  (s.applyTables_inputFrame new).replies.trans (by simp [State.beforeInputs, State.tablesSet, State.outputsRewritten])
@[simp] theorem State.applyTables_alertMask : (s.applyTables new).ctl.alertMask = s.ctl.alertMask :=
  (s.applyTables_inputFrame new).alertMask.trans (by simp [State.beforeInputs, State.tablesSet, State.outputsRewritten])
@[simp] theorem State.applyTables_rate : (s.applyTables new).ctl.rate = s.ctl.rate :=
  (s.applyTables_inputFrame new).rate.trans (by simp [State.beforeInputs, State.tablesSet, State.outputsRewritten])
@[simp] theorem State.applyTables_inProcess : (s.applyTables new).ctl.inProcess = s.ctl.inProcess :=
  (s.applyTables_inputFrame new).inProcess.trans (by simp [State.beforeInputs, State.tablesSet, State.outputsRewritten])
@[simp] theorem State.applyTables_sending : (s.applyTables new).ctl.sending = s.ctl.sending :=
  (s.applyTables_inputFrame new).sending.trans (by simp [State.beforeInputs, State.tablesSet, State.outputsRewritten])

end

end Sys2Proof.Machine


/-! PROOF. The commands waiting and the image memory: no command touches the queue (log 23), and only a page write, a restart and
power-on touch the memory, each keeping its canonical form (section 4.8). -/

namespace Sys2Proof.Machine

/-- The commands that wait and the image memory are as they were. -/
structure State.HeldFrame (s t : State) : Prop where
  pending : t.pending = s.pending
  memory : t.store.memory = s.store.memory

namespace State.HeldFrame

@[refl] theorem refl (s : State) : s.HeldFrame s := ⟨rfl, rfl⟩

@[trans] theorem trans {s t u : State} (h : s.HeldFrame t) (k : t.HeldFrame u) : s.HeldFrame u :=
  ⟨k.pending.trans h.pending, k.memory.trans h.memory⟩

/-- Transitivity from the last operation back, which fixes the state between the two. -/
theorem after {s t u : State} (k : t.HeldFrame u) (h : s.HeldFrame t) : s.HeldFrame u := h.trans k

theorem of_lineFrame {s t : State} (h : s.LineFrame t) : s.HeldFrame t := ⟨h.pending, by rw [h.store]⟩

theorem of_inputFrame {s t : State} (h : s.InputFrame t) : s.HeldFrame t := ⟨h.pending, by rw [h.store]⟩

theorem raise (s : State) (x : Cause) : s.HeldFrame (s.raise x) := .of_lineFrame (.raise s x)

theorem enter (s : State) (seq : Nat) (l : List (Counter × Nat)) : s.HeldFrame (s.enter seq l) :=
  .of_lineFrame (.enter s seq l)

theorem beginModule (s : State) (tag timeout i : Nat) : s.HeldFrame (s.beginModule tag timeout i) :=
  .of_lineFrame (.beginModule s tag timeout i)

theorem applyTables (s : State) (new : Tables) : s.HeldFrame (s.applyTables new) := ⟨by simp, by simp⟩

theorem request {s : State} {k ft : Byte} {p : List Byte} {lengthOk inStarting : Bool} {body : State → State}
    (h : ∀ s, State.HeldFrame s (body s)) : s.HeldFrame (s.request k ft p lengthOk inStarting body) :=
  State.request_induct (P := s.HeldFrame) ⟨rfl, rfl⟩ (fun _ _ => ⟨rfl, rfl⟩) fun _ _ _ => (h _).after ⟨rfl, rfl⟩

theorem consoleFrame {α : Type} {s : State} {c : Fin 4} {ft : Byte} {p : List Byte} {read : Option α}
    {take : State → α → State} (h : ∀ s a, State.HeldFrame s (take s a)) : s.HeldFrame (s.consoleFrame c ft p read take) :=
  State.consoleFrame_induct (P := s.HeldFrame) ⟨rfl, rfl⟩ (fun _ => ⟨rfl, rfl⟩) fun _ _ _ => (h _ _).after ⟨rfl, rfl⟩

theorem onPiece {s : State} {c : Fin 4} {ft : Byte} {tag : Nat} {valid : Bool} {checks : Slot → Option ConsoleReason}
    {act : State → State} (h : s.HeldFrame (act s)) : s.HeldFrame (s.onPiece c ft tag valid checks act) :=
  State.onPiece_induct (P := s.HeldFrame) (fun _ => ⟨rfl, rfl⟩) fun _ _ _ _ _ _ => h.trans ⟨rfl, rfl⟩

theorem logFrame {α : Type} {s : State} {read : Option α} {take : State → α → State}
    (h : ∀ a, s.HeldFrame (take s a)) : s.HeldFrame (s.logFrame read take) :=
  State.logFrame_induct (P := s.HeldFrame) (refl s) ⟨rfl, rfl⟩ fun _ a _ => h a

theorem endLog (s : State) (r : LogRecord) (fault : Option LogFault) : s.HeldFrame (s.endLog r fault) :=
  State.endLog_induct (P := s.HeldFrame) (fun _ _ => (enter s _ _).trans ⟨rfl, rfl⟩)
    fun _ _ => ((enter s _ _).trans (raise _ _)).trans ⟨rfl, rfl⟩

theorem forwardCount (s : State) : s.HeldFrame s.forwardCount := by
  unfold State.forwardCount
  dsimp only
  split
  · exact .trans ⟨by simp [State.setPos], by simp [State.setPos]⟩ (raise _ _)
  · exact ⟨rfl, rfl⟩

theorem takeSegment (s : State) (h : Fin 4) (g : SegmentData) : s.HeldFrame (s.takeSegment h g) := by
  have last : ∀ (u : State) b d, u.HeldFrame (u.lastInTime h b d) := by
    intro u b d
    unfold State.lastInTime
    split <;> exact ⟨rfl, rfl⟩
  refine State.takeSegment_induct (P := s.HeldFrame) ⟨rfl, rfl⟩ ⟨rfl, rfl⟩ (fun x _ _ _ => ?_) fun x _ _ _ => ?_
  · exact (last _ _ _).after ⟨rfl, rfl⟩
  · exact (raise _ _).after ((last _ _ _).after ⟨rfl, rfl⟩)

theorem headFrame (s : State) (h : Fin 4) (kind : Byte) (p : List Byte) : s.HeldFrame (s.headFrame h kind p) :=
  State.headFrame_induct (P := s.HeldFrame) (refl s) ⟨rfl, rfl⟩ fun _ _ _ g _ => takeSegment s h g

/-! ## The solver and the saw bus -/

theorem startSolve (s : State) : s.HeldFrame s.startSolve := by
  unfold State.startSolve
  split <;> exact ⟨rfl, rfl⟩

theorem completeSolve (s : State) : s.HeldFrame s.completeSolve := by
  unfold State.completeSolve
  split
  · rfl
  · dsimp only
    split
    · split <;> exact ⟨rfl, rfl⟩
    · exact ⟨rfl, rfl⟩

theorem sendRead (s : State) (ex : Exchange) : s.HeldFrame (s.sendRead ex) := ⟨by simp, by simp⟩

theorem moduleDone (s : State) (ex : Exchange) (r : ModuleResult) : s.HeldFrame (s.moduleDone ex r) :=
  (beginModule (s.setResult ex.tag ex.module r) _ _ _).after ⟨rfl, rfl⟩

theorem failAttempt (s : State) (ex : Exchange) (b : Bool) : s.HeldFrame (s.failAttempt ex b) := by
  unfold State.failAttempt
  dsimp only
  split
  · exact sendRead _ _
  · split
    · exact (moduleDone _ _ _).after ((raise _ _).after ⟨rfl, rfl⟩)
    · exact moduleDone _ _ _

theorem takeState (s : State) (p : List Byte) : s.HeldFrame (s.takeState p) := by
  unfold State.takeState
  split
  · exact ⟨rfl, rfl⟩
  · split <;> exact ⟨rfl, rfl⟩

theorem takeAck (s : State) (p : List Byte) : s.HeldFrame (s.takeAck p) := by
  unfold State.takeAck
  split
  · exact ⟨rfl, rfl⟩
  · split
    · exact ⟨rfl, rfl⟩
    · exact (moduleDone _ _ _).after ⟨rfl, rfl⟩

theorem takeRetry (s : State) (p : List Byte) : s.HeldFrame (s.takeRetry p) := by
  unfold State.takeRetry
  split
  · exact ⟨rfl, rfl⟩
  · exact (failAttempt _ _ _).after ⟨rfl, rfl⟩

theorem takeFault (s : State) (p : List Byte) : s.HeldFrame (s.takeFault p) := by
  unfold State.takeFault
  split
  · exact ⟨rfl, rfl⟩
  · split
    · exact ⟨rfl, rfl⟩
    · exact (moduleDone _ _ _).after ((raise _ _).after ⟨rfl, rfl⟩)

theorem replyTimeout (s : State) : s.HeldFrame s.replyTimeout := by
  unfold State.replyTimeout
  split
  · rfl
  · exact ⟨rfl, rfl⟩
  · split
    · exact (sendRead _ _).after ⟨rfl, rfl⟩
    · exact ⟨rfl, rfl⟩
    · dsimp only
      split
      · exact (moduleDone _ _ _).after ⟨rfl, rfl⟩
      · exact (failAttempt _ _ _).after ⟨rfl, rfl⟩

theorem sendPattern (s : State) : s.HeldFrame s.sendPattern := by
  unfold State.sendPattern
  split
  · split
    · split <;> exact ⟨rfl, rfl⟩
    · rfl
  · rfl

/-! ## The Lane -/

theorem takeLogStart (s : State) (n : Nat) : s.HeldFrame (s.takeLogStart n) := by
  unfold State.takeLogStart
  split
  · exact (endLog s _ _).trans ⟨rfl, rfl⟩
  · exact ⟨rfl, rfl⟩

theorem takeSlice (s : State) (x : SliceData) : s.HeldFrame (s.takeSlice x) := by
  unfold State.takeSlice
  split
  · split
    · exact (endLog s _ _).trans ⟨rfl, rfl⟩
    · split
      · exact ⟨rfl, rfl⟩
      · exact (endLog s _ _).trans ⟨rfl, rfl⟩
  · exact (endLog s _ _).trans ⟨rfl, rfl⟩
  · exact ⟨rfl, rfl⟩

theorem takeLogEnd (s : State) (n : Nat) : s.HeldFrame (s.takeLogEnd n) := by
  unfold State.takeLogEnd
  split
  · exact (endLog s _ _).trans ⟨rfl, rfl⟩
  · exact ⟨rfl, rfl⟩
  · exact ⟨rfl, rfl⟩

theorem leaveQueue (s : State) : s.HeldFrame s.leaveQueue := by
  unfold State.leaveQueue
  dsimp only
  split <;> exact ⟨rfl, rfl⟩

/-! ## The requests' owners -/

theorem forceOutput (s : State) (ft : Byte) (p : List Byte) : s.HeldFrame (s.forceOutput ft p) := by
  unfold State.forceOutput
  split
  · split <;> exact ⟨rfl, rfl⟩
  · rfl

theorem releaseOutput (s : State) (ft : Byte) (p : List Byte) : s.HeldFrame (s.releaseOutput ft p) := by
  unfold State.releaseOutput
  split
  · split <;> exact ⟨rfl, rfl⟩
  · rfl

theorem readTable (s : State) (ft : Byte) (p : List Byte) : s.HeldFrame (s.readTable ft p) := by
  unfold State.readTable
  split
  · split
    · exact ⟨rfl, rfl⟩
    · split <;> exact ⟨rfl, rfl⟩
  · rfl

theorem applyEntry (s : State) (e : Entry) : s.HeldFrame (s.applyEntry e) := (applyTables s _).trans ⟨rfl, rfl⟩

theorem writeEntry (s : State) (ft : Byte) (e : Entry) : s.HeldFrame (s.writeEntry ft e) := by
  unfold State.writeEntry
  split
  · exact ⟨rfl, rfl⟩
  · exact (applyEntry s e).trans ⟨rfl, rfl⟩

end State.HeldFrame

/-- A TABLE WRITE is refused, or its entry is written. -/
theorem State.writeTable_induct {P : State → Prop} {s : State} {ft : Byte} {p : List Byte}
    (nothing : P s) (refused : ∀ code, P (s.refuse tableWriteKind ft code))
    (written : ∀ e, s.saving = false → s.tables.admits e = true → (e.needsStopped = true → s.editable = true) →
      P (s.writeEntry ft e)) : P (s.writeTable ft p) := by
  unfold State.writeTable
  split
  · split
    · exact refused _
    · split
      · exact refused _
      · split
        · exact refused _
        · split
          · exact refused _
          · next hs =>
            split
            · exact refused _
            · next e _ =>
              split
              · exact refused _
              · next ha =>
                split
                · exact refused _
                · next he =>
                  refine written e (by simpa using hs) (by simpa using ha) fun hn => ?_
                  simpa [hn] using he
  · exact nothing

namespace State.HeldFrame

theorem writeTable (s : State) (ft : Byte) (p : List Byte) : s.HeldFrame (s.writeTable ft p) :=
  State.writeTable_induct (P := s.HeldFrame) (refl s) (fun _ => ⟨rfl, rfl⟩) fun e _ _ _ => writeEntry s ft e

theorem releaseHeld (s : State) : s.HeldFrame s.releaseHeld := by
  unfold State.releaseHeld
  split
  · exact (applyEntry s _).trans ⟨rfl, rfl⟩
  · rfl

theorem loadImage (s : State) (ft : Byte) : s.HeldFrame (s.loadImage ft) := by
  unfold State.loadImage
  split
  · exact ⟨rfl, rfl⟩
  · split <;> exact ⟨rfl, rfl⟩

theorem loadOutcome (s : State) (o : LoadOutcome) : s.HeldFrame (s.loadOutcome o) := by
  unfold State.loadOutcome
  split
  · exact (applyTables s _).trans ⟨rfl, rfl⟩
  all_goals exact (raise _ _).after ⟨rfl, rfl⟩

theorem endStartUp (s : State) (o : LoadOutcome) : s.HeldFrame (s.endStartUp o) := by
  unfold State.endStartUp
  exact (loadOutcome s o).trans ⟨rfl, rfl⟩

theorem endRequested (s : State) (ft : Byte) (o : LoadOutcome) : s.HeldFrame (s.endRequested ft o) := by
  have h : s.HeldFrame (s.setCtl fun c => { c with inProcess := none }) := ⟨rfl, rfl⟩
  unfold State.endRequested
  dsimp only
  generalize (s.setCtl fun c => { c with inProcess := none }) = u at h ⊢
  split
  · split
    · exact (h.trans (loadOutcome u _)).trans ⟨rfl, rfl⟩
    · exact h.trans ⟨rfl, rfl⟩
  · exact (h.trans (loadOutcome u _)).trans ⟨rfl, rfl⟩

theorem endLoad (s : State) (o : LoadOutcome) : s.HeldFrame (s.endLoad o) := by
  unfold State.endLoad
  split
  · exact (endStartUp _ o).after ⟨rfl, rfl⟩
  · exact (endRequested _ _ o).after ⟨rfl, rfl⟩
  · rfl

theorem saveImage (s : State) (ft : Byte) : s.HeldFrame (s.saveImage ft) := by
  unfold State.saveImage
  split <;> exact ⟨rfl, rfl⟩

theorem openRun (s : State) (ft : Byte) (p : List Byte) : s.HeldFrame (s.openRun ft p) := by
  unfold State.openRun
  split
  · split
    · exact ⟨rfl, rfl⟩
    · split
      · exact ⟨rfl, rfl⟩
      · split <;> exact ⟨rfl, rfl⟩
  · rfl

theorem cutOver (s : State) (ft : Byte) : s.HeldFrame (s.cutOver ft) := by
  unfold State.cutOver
  split <;> exact ⟨rfl, rfl⟩

theorem releaseRun (s : State) (ft : Byte) (p : List Byte) : s.HeldFrame (s.releaseRun ft p) := by
  unfold State.releaseRun
  split
  · rfl
  · split
    · exact ⟨rfl, rfl⟩
    · split <;> exact ⟨rfl, rfl⟩

theorem readTally (s : State) (ft : Byte) (p : List Byte) : s.HeldFrame (s.readTally ft p) := by
  unfold State.readTally
  split
  · rfl
  · split
    · exact ⟨rfl, rfl⟩
    · split <;> exact ⟨rfl, rfl⟩

theorem readStatus (s : State) (ft : Byte) (p : List Byte) : s.HeldFrame (s.readStatus ft p) := by
  unfold State.readStatus
  split
  · split <;> exact ⟨rfl, rfl⟩
  · rfl

theorem queryPiece (s : State) (ft : Byte) (p : List Byte) : s.HeldFrame (s.queryPiece ft p) := by
  unfold State.queryPiece
  split
  · rfl
  · split <;> exact ⟨rfl, rfl⟩

theorem clearCauses (s : State) (ft : Byte) (p : List Byte) : s.HeldFrame (s.clearCauses ft p) := by
  unfold State.clearCauses
  split <;> exact ⟨rfl, rfl⟩

theorem setAlertMask (s : State) (ft : Byte) (p : List Byte) : s.HeldFrame (s.setAlertMask ft p) := by
  unfold State.setAlertMask
  split <;> exact ⟨rfl, rfl⟩

/-! ## The resets -/

theorem emptyRing (s : State) : s.HeldFrame s.emptyRing := by
  have lose : ∀ (l : List Slot) (s : State), s.HeldFrame (l.foldl State.losePiece s) := by
    intro l
    induction l with
    | nil => exact refl
    | cons x l ih =>
      intro s
      refine .trans ?_ (ih _)
      unfold State.losePiece
      split
      · exact enter _ _ _
      · rfl
  exact (lose s.tracker.ring s).trans ⟨rfl, rfl⟩

theorem withdrawCleared (s : State) : s.HeldFrame s.withdrawCleared := by
  unfold State.withdrawCleared
  induction s.tracker.ring.filter _ generalizing s with
  | nil => rfl
  | cons x l ih => exact (ih _).after ⟨rfl, rfl⟩

theorem clearLine (s : State) : s.HeldFrame s.clearLine := by
  refine .trans (.trans (.trans (withdrawCleared s) (of_lineFrame (.abandonExchange _))) (emptyRing _)) ?_
  exact ⟨rfl, rfl⟩

end State.HeldFrame

/-- A restart's level causes, made pending one after the other (R168). -/
theorem State.raiseLevels_induct {P : State → Prop} {s : State} (h : P s) (raise : ∀ s x, P s → P (State.raise s x)) :
    P s.raiseLevels := by
  unfold State.raiseLevels
  dsimp only
  have h1 : P (if s.headDown then s.raise .headDown else s) := by
    split
    · exact raise _ _ h
    · exact h
  generalize (if s.headDown then s.raise .headDown else s) = u at h1 ⊢
  have h2 : P (if u.moduleOffline then u.raise .moduleOffline else u) := by
    split
    · exact raise _ _ h1
    · exact h1
  generalize (if u.moduleOffline then u.raise .moduleOffline else u) = v at h2 ⊢
  split
  · exact raise _ _ h2
  · exact h2

/-- A restart leaves the commands waiting, and the memory to the save it stops (R77). -/
theorem State.announceRestart_held (s : State) :
    s.announceRestart.pending = s.pending ∧ s.announceRestart.store.memory = s.store.stopSave.memory := by
  have hl : s.restartBlocks.HeldFrame s.restartBlocks.raiseLevels :=
    State.raiseLevels_induct (P := s.restartBlocks.HeldFrame) (.refl _) fun u x h => h.trans (.raise u x)
  have h := hl.trans (State.HeldFrame.emptyRing _)
  unfold State.announceRestart State.outputsOff
  rw [State.setOutputs_pending, State.setOutputs_store, h.pending, h.memory]
  exact ⟨rfl, rfl⟩

/-! ## Every command -/

/-- The commands that write the image memory: a page write that completes or times out, a restart, and power-on. -/
def writesMemory : Instr → Bool
  | .powerOn _ _ _ => true
  | .pageWriteComplete => true
  | .pageWriteTimeout => true
  | .restartAnnounced => true
  | _ => false

namespace State.HeldFrame

/-- Every other command leaves the commands waiting and the memory as they were. -/
theorem of_after (s : State) {c : Instr} (hc : writesMemory c = false) : s.HeldFrame (s.after c) := by
  cases c with
  | powerOn | pageWriteComplete | pageWriteTimeout | restartAnnounced => cases hc
  | chainForwardCount =>
    rw [State.after_chainForwardCount]
    split
    · exact ⟨rfl, rfl⟩
    · exact (forwardCount _).after ⟨rfl, rfl⟩
  | chainReverseCount =>
    rw [State.after_chainReverseCount]
    split <;> exact ⟨rfl, rfl⟩
  | stopTimerExpiry =>
    rw [State.after_stopTimerExpiry]
    split
    · exact ⟨rfl, rfl⟩
    · rfl
  | inputRawChange i high =>
    rw [State.after_inputRawChange]
    split
    · rfl
    · exact (of_inputFrame (State.InputFrame.rel.rawChanged _ _)).after ⟨rfl, rfl⟩
  | filterTimerExpiry i =>
    rw [State.after_filterTimerExpiry]
    split
    · exact of_inputFrame (State.InputFrame.rel.recognise _ _)
    · rfl
  | segment h kind p =>
    rw [State.after_segment]
    exact (headFrame _ h kind p).after ⟨rfl, rfl⟩
  | solveStart =>
    rw [State.after_solveStart]
    exact startSolve s
  | solveComplete =>
    rw [State.after_solveComplete]
    exact completeSolve s
  | writePattern =>
    rw [State.after_writePattern]
    exact sendPattern s
  | state p =>
    rw [State.after_state]
    exact (takeState _ p).after ⟨rfl, rfl⟩
  | ack p =>
    rw [State.after_ack]
    exact (takeAck _ p).after ⟨rfl, rfl⟩
  | retry p =>
    rw [State.after_retry]
    exact (takeRetry _ p).after ⟨rfl, rfl⟩
  | fault p =>
    rw [State.after_fault]
    exact (takeFault _ p).after ⟨rfl, rfl⟩
  | replyTimeout =>
    rw [State.after_replyTimeout]
    exact replyTimeout s
  | subscribe c ft p =>
    rw [State.after_subscribe]
    exact consoleFrame fun _ _ => by constructor <;> rfl
  | unsubscribe c ft p =>
    rw [State.after_unsubscribe]
    exact consoleFrame fun _ _ => by constructor <;> rfl
  | claim c ft p =>
    rw [State.after_claim]
    refine consoleFrame fun u tag => onPiece ?_
    split
    · rfl
    · exact ⟨rfl, rfl⟩
  | release c ft p =>
    rw [State.after_release]
    exact consoleFrame fun _ _ => onPiece (by constructor <;> rfl)
  | mark c ft p =>
    rw [State.after_mark]
    exact consoleFrame fun _ _ => onPiece (by constructor <;> rfl)
  | forceGrade c ft p =>
    rw [State.after_forceGrade]
    exact consoleFrame fun _ _ => onPiece (by constructor <;> rfl)
  | forceLength c ft p =>
    rw [State.after_forceLength]
    exact consoleFrame fun _ _ => onPiece (by constructor <;> rfl)
  | forceScrap c ft p =>
    rw [State.after_forceScrap]
    exact consoleFrame fun _ _ => onPiece (by constructor <;> rfl)
  | clearOverrides c ft p =>
    rw [State.after_clearOverrides]
    exact consoleFrame fun _ _ => onPiece (by constructor <;> rfl)
  | consoleQueueSend c =>
    rw [State.after_consoleQueueSend]
    exact ⟨rfl, rfl⟩
  | logStart p =>
    rw [State.after_logStart]
    exact (logFrame fun _ => takeLogStart _ _).after ⟨rfl, rfl⟩
  | slice p =>
    rw [State.after_slice]
    exact (logFrame fun _ => takeSlice _ _).after ⟨rfl, rfl⟩
  | logEnd p =>
    rw [State.after_logEnd]
    exact (logFrame fun _ => takeLogEnd _ _).after ⟨rfl, rfl⟩
  | logForwardCount =>
    rw [State.after_logForwardCount]
    split
    · exact ⟨rfl, rfl⟩
    · exact (leaveQueue _).after ⟨rfl, rfl⟩
  | logReverseCount =>
    rw [State.after_logReverseCount]
    split <;> exact ⟨rfl, rfl⟩
  | pulseTimerExpiry o =>
    rw [State.after_pulseTimerExpiry]
    split
    · exact ⟨rfl, rfl⟩
    · rfl
  | beaconPhaseChange o =>
    rw [State.after_beaconPhaseChange]
    split
    · exact ⟨rfl, rfl⟩
    · rfl
  | outputForce ft p =>
    rw [State.after_outputForce]
    exact request fun _ => forceOutput _ _ _
  | outputRelease ft p =>
    rw [State.after_outputRelease]
    exact request fun _ => releaseOutput _ _ _
  | tableRead ft p =>
    rw [State.after_tableRead]
    exact request fun _ => readTable _ _ _
  | tableWrite ft p =>
    rw [State.after_tableWrite]
    exact request fun _ => writeTable _ _ _
  | heldWriteApplied =>
    rw [State.after_heldWriteApplied]
    exact releaseHeld s
  | imageLoad ft p =>
    rw [State.after_imageLoad]
    exact request fun _ => loadImage _ _
  | imageReadTimeout =>
    rw [State.after_imageReadTimeout]
    exact endLoad s _
  | imageLoadEnd =>
    rw [State.after_imageLoadEnd]
    exact endLoad s _
  | imageSave ft p =>
    rw [State.after_imageSave]
    exact request fun _ => saveImage _ _
  | openRun ft p =>
    rw [State.after_openRun]
    exact request fun _ => openRun _ _ _
  | boardCutover ft p =>
    rw [State.after_boardCutover]
    exact request fun _ => cutOver _ _
  | runRelease ft p =>
    rw [State.after_runRelease]
    exact request fun _ => releaseRun _ _ _
  | tallyRead ft p =>
    rw [State.after_tallyRead]
    exact request fun _ => readTally _ _ _
  | identify ft p =>
    rw [State.after_identify]
    exact request fun _ => by constructor <;> rfl
  | status ft p =>
    rw [State.after_status]
    exact request fun _ => readStatus _ _ _
  | pieceQuery ft p =>
    rw [State.after_pieceQuery]
    exact request fun _ => queryPiece _ _ _
  | causes ft p =>
    rw [State.after_causes]
    exact request fun _ => by constructor <;> rfl
  | clearCauses ft p =>
    rw [State.after_clearCauses]
    exact request fun _ => clearCauses _ _ _
  | alertMask ft p =>
    rw [State.after_alertMask]
    exact request fun _ => setAlertMask _ _ _
  | controlLinkSend =>
    rw [State.after_controlLinkSend]
    exact ⟨rfl, rfl⟩
  | lineClear ft p =>
    rw [State.after_lineClear]
    exact request fun _ => .trans (clearLine _) (by constructor <;> rfl)
  | restart ft p =>
    rw [State.after_restart]
    exact request fun _ => by constructor <;> rfl
  | badFrame l b =>
    rw [State.after_badFrame]
    split
    · exact ⟨rfl, rfl⟩
    · rfl
  | frameByteTimeout l b =>
    rw [State.after_frameByteTimeout]
    split
    · exact ⟨rfl, rfl⟩
    · rfl
  | headLinkSend h =>
    rw [State.after_headLinkSend]
    exact ⟨rfl, rfl⟩
  | requestBadKind k ft p =>
    rw [State.after_requestBadKind]
    split
    · rfl
    · exact request fun _ => by constructor <;> rfl
  | consoleFrameBadKind c k ft p =>
    rw [State.after_consoleFrameBadKind]
    split
    · rfl
    · exact consoleFrame fun _ _ => refl _
  | logFrameDiscard k p =>
    rw [State.after_logFrameDiscard]
    split
    · rfl
    · split <;> exact ⟨rfl, rfl⟩
  | busFrameDiscarded k p =>
    rw [State.after_busFrameDiscarded]
    split
    · rfl
    · exact ⟨rfl, rfl⟩

end State.HeldFrame

/-- No command touches the commands that wait. -/
theorem State.after_pending (s : State) (c : Instr) : (s.after c).pending = s.pending := by
  by_cases hc : writesMemory c = false
  · exact (State.HeldFrame.of_after s hc).pending
  · cases c with
    | powerOn | pageWriteComplete => rfl
    | pageWriteTimeout =>
      show s.pageTimedOut.pending = s.pending
      unfold State.pageTimedOut
      split <;> simp
    | restartAnnounced =>
      show (if _ then _ else _ : State).pending = s.pending
      split
      · exact s.announceRestart_held.1
      · rfl
    | _ => exact absurd rfl hc

/-- Every command keeps the canonical form of the image memory. -/
theorem State.after_memoryKept {s : State} (h : s.memoryKept) (c : Instr) : (s.after c).memoryKept := by
  by_cases hc : writesMemory c = false
  · exact (congrArg (fun m => memWf m = true) (State.HeldFrame.of_after s hc).memory).mpr h
  · cases c with
    | powerOn => exact memWf_memoryAtPowerLoss h
    | pageWriteComplete => exact memWf_pageDone h
    | pageWriteTimeout =>
      show memWf s.pageTimedOut.store.memory = true
      unfold State.pageTimedOut
      split
      · simpa using memWf_pageTorn _ _ _ h
      · exact h
    | restartAnnounced =>
      show memWf (if _ then _ else _ : State).store.memory = true
      split
      · rw [s.announceRestart_held.2]
        exact memWf_stopSave h
      · exact h
    | _ => exact absurd rfl hc

/-- Settles O2: every command answers a next state, and none writes to the queue. -/
theorem commandsLeaveTheQueue : Obligations.CommandsLeaveTheQueue := fun c s =>
  ⟨_, exec_eq_after c s, s.after_pending c⟩

/-- Settles O49: the memory is written by whole pages alone, and a page write keeps the form. -/
theorem stepKeepsTheMemoryForm : Obligations.StepKeepsTheMemoryForm := by
  intro s t h hstep
  rcases step_cases hstep with ⟨c, rest, -, rfl⟩ | ⟨-, rfl⟩
  · exact State.after_memoryKept (s := { s with pending := rest }) h c
  · exact h

end Sys2Proof.Machine


/-! PROOF. The step, the chain's counts, the inputs' filters, the lug pulses that make no advance, and the lines that send: each
command whose meaning is one case split on the conditions the rule names. -/

namespace Sys2Proof.Machine

/-! ## The step -/

/-- Settles O1: `step` is that split by definition, and a tick writes the five fields alone that run down. -/
theorem stepTakesFrontCommand : Obligations.StepTakesFrontCommand := by
  refine ⟨fun c s => rfl, fun s h => ⟨s.tick, ?_, rfl, ?_, rfl, rfl, rfl, fun o => ⟨?_, ?_⟩⟩⟩
  · unfold step
    rw [h]
  · rfl
  · simp [State.tick, Output.runDown]
  · simp [State.tick]

/-! ## The chain -/

/-- A forward count that does not bring pos to K+W makes no advance (R4). -/
theorem State.forwardCount_of_lt {s : State} (h : s.tracker.pos + 1 < s.geo.windowEnd) :
    s.forwardCount = s.setTracker fun t => { t.runForward s.geo with pos := t.pos + 1 } := if_neg (Nat.not_le.mpr h)

theorem Tracker.runForward_running {g : Geometry} {t : Tracker} (h : t.line = .running) :
    t.runForward g = { t with stopTimer := some (2 * g.stopTime) } := by simp only [Tracker.runForward, h]

theorem Tracker.runForward_stopped {g : Geometry} {t : Tracker} (h : t.line = .stopped) :
    t.runForward g =
      { t with
        runUp := t.runUp + 1
        line := if g.lugPitch / 16 ≤ t.runUp + 1 then .running else .stopped
        stopTimer := if g.lugPitch / 16 ≤ t.runUp + 1 then some (2 * g.stopTime) else t.stopTimer } := by
  simp only [Tracker.runForward, h, Geometry.runUpGoal]
  split
  · rfl
  · rw [← h]

/-- Settles O24: the line state decides what a count does, and the stop timer whether its expiry is one. -/
theorem countsMoveTheChain : Obligations.CountsMoveTheChain := by
  refine ⟨fun s hl hp => ?running, fun s hl hp => ?stopped, fun s hl => ?reverse, fun s hl => ⟨?_, ?_⟩, fun left s h => ?stop⟩
  case running =>
    rw [exec_eq_after, State.after_chainForwardCount, if_neg (by simp [hl]), State.forwardCount_of_lt (s := s.setTracker (·.turn true)) hp]
    show Host.Outcome.next
      { s with tracker := { (s.tracker.turn true).runForward s.geo with pos := s.tracker.pos + 1 } } = _
    rw [Tracker.runForward_running (t := s.tracker.turn true) hl]
    rfl
  case stopped =>
    rw [exec_eq_after, State.after_chainForwardCount, if_neg (by simp [hl]), State.forwardCount_of_lt (s := s.setTracker (·.turn true)) hp]
    show Host.Outcome.next
      { s with tracker := { (s.tracker.turn true).runForward s.geo with pos := s.tracker.pos + 1 } } = _
    rw [Tracker.runForward_stopped (t := s.tracker.turn true) hl]
    rfl
  case reverse =>
    rw [exec_eq_after, State.after_chainReverseCount, if_neg (by simpa using hl)]
    simp [State.setTracker, Tracker.turn, Tracker.reverseCount, quadrature]
  case refine_1 =>
    rw [exec_eq_after, State.after_chainForwardCount, if_pos (by simp [hl])]
    rfl
  case refine_2 =>
    rw [exec_eq_after, State.after_chainReverseCount, if_pos (by simp [hl])]
    rfl
  case stop =>
    rw [exec_eq_after, State.after_stopTimerExpiry, if_pos (by simp [h])]
    rfl

/-! ## Inputs -/

/-- The filter timer's expiry of an input is the recognition of its change (R152). -/
theorem exec_filterTimerExpiry {s : State} {i : Fin 8} {left : Nat} (h : (s.field.inputs.get i).timer = some left) :
    exec (.filterTimerExpiry i) s =
      .next
        (({ s with
            field :=
              { s.field with
                inputs :=
                  s.field.inputs.set i
                    { s.field.inputs.get i with
                      filtered := rawLevel (s.tables.inputs.get i) (s.field.inputs.get i), timer := none } } } :
            State).announceInput (s.tables.inputs.get i).function
          (rawLevel (s.tables.inputs.get i) (s.field.inputs.get i))) := by
  rw [exec_eq_after, State.after_filterTimerExpiry, if_pos (by simp [h])]
  rfl

/-- A bank in which one thing is replaced twice holds the second. -/
theorem Bank.set_set {n : Nat} {α : Type} (b : Bank n α) (i : Fin n) (x y : α) :
    (b.set i x).set i y = b.set i y := Bank.eq_of_get fun j => by
  by_cases h : j = i <;> simp [h]

section
variable {s : State} {i : Fin 8}

theorem State.rawChanged_of_back
    (h : rawLevel (s.tables.inputs.get i) (s.field.inputs.get i) = (s.field.inputs.get i).filtered) :
    s.rawChanged i = s.setInput i fun x => { x with timer := none } := if_pos (by simpa using h)

theorem State.rawChanged_at_once
    (h : rawLevel (s.tables.inputs.get i) (s.field.inputs.get i) ≠ (s.field.inputs.get i).filtered)
    (h0 : (s.tables.inputs.get i).filter = 0) : s.rawChanged i = s.recognise i :=
  (if_neg (by simpa using h)).trans (if_pos h0)

theorem State.rawChanged_filtered
    (h : rawLevel (s.tables.inputs.get i) (s.field.inputs.get i) ≠ (s.field.inputs.get i).filtered)
    (h0 : (s.tables.inputs.get i).filter ≠ 0) :
    s.rawChanged i = s.setInput i fun x => { x with timer := some (s.tables.inputs.get i).filter } :=
  (if_neg (by simpa using h)).trans (if_neg h0)

end

/-- Settles O28: the raw level after the change, against the filtered state and the filter time, decides. -/
theorem rawChangeRunsTheFilter : Obligations.RawChangeRunsTheFilter := by
  refine ⟨fun i high s h => ?same, fun i high s h => ?other⟩
  case same => rw [exec_eq_after, State.after_inputRawChange, if_pos (by simpa using h)]
  case other =>
    have hx : exec (.inputRawChange i high) s = .next ((s.setInput i fun x => { x with pin := high }).rawChanged i) := by
      rw [exec_eq_after, State.after_inputRawChange, if_neg (by simpa using h)]
    have hget : (s.setInput i fun x => { x with pin := high }).field.inputs.get i =
        { s.field.inputs.get i with pin := high } := by simp
    rw [hx]
    refine ⟨fun hb => ?_, fun hd h0 => ?_, fun hd h0 => ?_⟩
    · rw [State.rawChanged_of_back (s := s.setInput i fun x => { x with pin := high }) (by rw [hget]; exact hb)]
      simp [State.setInput, Bank.modify, Bank.set_set]
    · rw [State.rawChanged_at_once (s := s.setInput i fun x => { x with pin := high }) (by rw [hget]; exact hd) h0, exec_filterTimerExpiry (left := 0) (by simp)]
      simp only [State.recognise, State.setInput, Bank.modify, Bank.set_set, Bank.get_set, if_true]
      rfl
    · rw [State.rawChanged_filtered (s := s.setInput i fun x => { x with pin := high }) (by rw [hget]; exact hd) h0]
      simp [State.setInput, Bank.modify, Bank.set_set]

/-- Settles O29: what the owner of the input's function is told, function by function. -/
theorem filterExpiryIsAnnounced : Obligations.FilterExpiryIsAnnounced := by
  intro i left s h
  rw [exec_filterTimerExpiry h]
  refine ⟨fun hn => ?nothing, fun hr hf => ?eye, fun hr hf => ?inhibit⟩
  case nothing =>
    rcases hn with hn | hn | hn <;> simp only [hn]
    · cases (s.tables.inputs.get i).function <;> rfl
    · rfl
    · rfl
  case eye =>
    rw [hr, hf]
    simp [State.announceInput, State.eyeActive, State.setRing]
  case inhibit =>
    rw [hr, hf]
    refine ⟨_, rfl, (State.raise_isPending _ _).1, ?_, by simp [State.announceInput], ?_⟩
    · simp only [State.announceInput, State.inhibitActive, State.inputActive, State.raise_tables, State.raise_inputs]
      exact List.any_eq_true.mpr ⟨i, List.mem_finRange i, by simp [hf]⟩
    · exact congrArg (fun t : State => { t with field := s.field }) (State.raise_keeps _ .inhibitActive).1

/-! ## Causes and reports asked for (R167, R168) -/

/-- What a report asked for does to the port. -/
theorem ControlPort.report_reportAsked (c : ControlPort) (kind : Byte) (payload : List Byte) :
    c.reportAsked (c.report kind payload) kind payload := by
  have h64 : Config.reportPlaces = 64 := rfl
  unfold ControlPort.reportAsked ControlPort.report
  by_cases hr : c.reports.length < 64
  · simp [ControlPort.offer, h64, hr]
  · by_cases hp : c.pendingCauses.getLsbD Cause.reportOverflow.number.val = true
    · simp [ControlPort.offer, h64, hr, hp, bump_eq]
    · simp only [ControlPort.offer, h64, hr, hp, decide_false, Bool.false_or, if_false, Bool.false_eq_true, ControlPort.pend,
        bump_eq, ControlPort.mk.injEq, true_and, and_true]
      omega

/-- What a raise does to the port. -/
theorem State.raise_causeRaised (s : State) (x : Cause) : s.ctl.causeRaised (s.raise x).ctl x := by
  unfold ControlPort.causeRaised State.raise State.isPending
  split
  · rfl
  · exact ControlPort.report_reportAsked _ _ _

/-- A raise of a clear cause leaves the outputs judged. -/
theorem State.raise_outputsJudged_of_clear {s : State} {x : Cause} (h : s.isPending x = false) :
    (s.raise x).outputsJudged := by
  rw [State.raise, if_neg (by simp [h])]
  exact State.judge_outputsJudged _

/-- Settles O27: the four cases of a lug pulse below the capture region, and the two shared operations on the port. -/
theorem lateAndExtraPulsesMoveNothing : Obligations.LateAndExtraPulsesMoveNothing := by
  refine ⟨fun i left s hf ht hr => ?pulses, fun s => ⟨fun x => ?raise, fun kind payload => ?report⟩⟩
  case raise => exact ⟨s.raise_causeRaised x, (s.raise_keeps x).2, (s.raise_keeps x).1⟩
  case report => exact ⟨s.ctl.report_reportAsked kind payload, State.judge_outputsJudged _, rfl, rfl⟩
  case pulses =>
    intro taken
    have hx : exec (.filterTimerExpiry i) s = .next taken.lugPulse := by
      rw [exec_filterTimerExpiry ht, hf, hr]
      rfl
    rw [hx]
    refine ⟨fun hl => ?_, fun hl hp => ⟨fun hw ha => ?_, fun hn => ⟨fun hpend => ?_, ?_⟩⟩⟩
    · rw [show taken.lugPulse = taken from if_pos (by simpa using hl)]
    all_goals
      have hl' : ¬(taken.tracker.line == .starting) = true := by simpa using hl
      have hp' : ¬ taken.geo.lugPitch - taken.geo.halfWidth ≤ taken.tracker.pos := Nat.not_le.mpr hp
    · rw [State.lugPulse, if_neg hl', if_neg hp', if_pos ⟨hw, ha⟩]
      rfl
    all_goals
      have hn' : ¬(taken.tracker.pos ≤ taken.geo.halfWidth ∧ taken.tracker.lastAdvance = .synthesized false) := hn
    · rw [State.lugPulse, if_neg hl', if_neg hp', if_neg hn', State.raise_of_isPending (s := taken) hpend]
    · rw [State.lugPulse, if_neg hl', if_neg hp', if_neg hn']
      refine ⟨_, rfl, (taken.raise_isPending _).1, taken.raise_causeRaised _,
        State.raise_outputsJudged_of_clear (s := taken),
        (taken.raise_keeps _).2, ?_⟩
      exact congrArg (fun t : State => { t with field := s.field }) (taken.raise_keeps .lugExtra).1

/-! ## Lines that become free -/

/-- Settles O20: each line takes the head of its queue, the control link a reply before a report. -/
theorem freeLinesSendTheOldest : Obligations.FreeLinesSendTheOldest := by
  intro s
  refine ⟨?control, fun c => ?console, fun h => ?head⟩
  case control =>
    rw [exec_eq_after, State.after_controlLinkSend]
    unfold State.setCtl ControlPort.send
    rfl
  case console =>
    rw [exec_eq_after, State.after_consoleQueueSend]
    have hsend : ∀ x : Console, x.send = (match x.queue with
        | f :: fs => { x with sending := some f.frame.wire, queue := fs }
        | [] => { x with sending := none }) := by
      rintro ⟨_, _ | ⟨f, fs⟩, _, _⟩ <;> rfl
    rw [State.setConsole, Bank.modify, hsend] <;> rfl
  case head =>
    rw [exec_eq_after, State.after_headLinkSend]
    have hnext : ∀ x : TriggerLink, x.next = (match x.waiting with
        | tag :: tags =>
          { sending := some (Frame.wire { kind := 0x21, tag := 0, payload := u16 tag }), waiting := tags }
        | [] => { sending := none, waiting := [] }) := by
      rintro ⟨_, _ | ⟨tag, tags⟩⟩ <;> rfl
    rw [State.setScan, Bank.modify, hnext] <;> rfl

/-! ## RESTART -/

/-- A restart is due exactly where one is in process and its reply waits no more (R170). -/
theorem State.restartDue_iff (s : State) :
    s.restartDue = true ↔ s.ctl.inProcess = some .restart ∧ ∀ f ∈ s.ctl.replies, f.kind ≠ 0x92 := by
  simp only [State.restartDue, Bool.and_eq_true, beq_iff_eq, Bool.not_eq_true', List.any_eq_false]
  rfl

/-- Settles O6: RESTART as its owner takes it, and the two conditions of its announcement. -/
theorem restartWaitsForItsReply : Obligations.RestartWaitsForItsReply := by
  refine ⟨fun ft s h => ?taken, fun s h => ?notDue⟩
  case taken =>
    rw [exec_eq_after, State.after_restart]
    exact congrArg _ (State.request_taken h.1 _ _ _ _ _ (.inl h.2))
  case notDue =>
    rw [exec_eq_after, State.after_restartAnnounced, if_neg]
    rw [State.restartDue_iff]
    rintro ⟨hp, hr⟩
    rcases h with h | ⟨f, hf, hk⟩
    · exact h hp
    · exact hr f hf hk

end Sys2Proof.Machine


/-! PROOF. The requests on runs, causes and outputs, the outputs' timers and the log encoder's counts; and the merging of cells. -/

namespace Sys2Proof.Machine

/-! ## A request that the port takes -/

section
variable {s : State} (h : s.serving)
include h

/-- A request that the port takes, as its owner leaves the state. -/
theorem State.request_serving (k ft : Byte) (p : List Byte) (inStarting : Bool) (body : State → State) :
    s.request k ft p true inStarting body = body (s.received .control p) :=
  State.request_taken h.1 _ _ _ _ _ (.inl h.2)

theorem exec_openRun (ft p : Byte) : exec (.openRun ft [p]) s = .next ((s.received .control [p]).openRun ft [p]) := by
  rw [exec_eq_after, State.after_openRun]
  exact congrArg _ (State.request_serving h _ _ _ _ _)

theorem exec_boardCutover (ft : Byte) : exec (.boardCutover ft []) s = .next ((s.received .control []).cutOver ft) := by
  rw [exec_eq_after, State.after_boardCutover]
  exact congrArg _ (State.request_serving h _ _ _ _ _)

theorem exec_runRelease (ft hi lo : Byte) :
    exec (.runRelease ft [hi, lo]) s = .next ((s.received .control [hi, lo]).releaseRun ft [hi, lo]) := by
  rw [exec_eq_after, State.after_runRelease]
  exact congrArg _ (State.request_serving h _ _ _ _ _)

theorem exec_clearCauses (ft : Byte) {p : List Byte} (hp : p.length = 2) :
    exec (.clearCauses ft p) s = .next ((s.received .control p).clearCauses ft p) := by
  have hl : hasLength p 2 = true := by simp [hasLength, hp]
  rw [exec_eq_after, State.after_clearCauses, hl]
  exact congrArg _ (State.request_serving h _ _ _ _ _)

theorem exec_alertMask (ft : Byte) {p : List Byte} (hp : p.length = 2) :
    exec (.alertMask ft p) s = .next ((s.received .control p).setAlertMask ft p) := by
  have hl : hasLength p 2 = true := by simp [hasLength, hp]
  rw [exec_eq_after, State.after_alertMask, hl]
  exact congrArg _ (State.request_serving h _ _ _ _ _)

theorem exec_outputForce (ft n l : Byte) :
    exec (.outputForce ft [n, l]) s = .next ((s.received .control [n, l]).forceOutput ft [n, l]) := by
  rw [exec_eq_after, State.after_outputForce]
  exact congrArg _ (State.request_serving h _ _ _ _ _)

theorem exec_outputRelease (ft n : Byte) :
    exec (.outputRelease ft [n]) s = .next ((s.received .control [n]).releaseOutput ft [n]) := by
  rw [exec_eq_after, State.after_outputRelease]
  exact congrArg _ (State.request_serving h _ _ _ _ _)

end

/-! ## The run table -/

/-- A number below the size of a bank is a place in it. -/
theorem place?_of_lt {n i : Nat} (h : i < n) : place? n i = some ⟨i, h⟩ := dif_pos h

theorem place?_of_not_lt {n i : Nat} (h : ¬ i < n) : place? n i = none := dif_neg h

/-- A byte that was made of a place names that place. -/
theorem place?_u8 {n : Nat} (i : Fin n) (h : n ≤ 256) : place? n (u8 i.val).toNat = some i := by
  have : (u8 i.val).toNat = i.val := by simp [u8]; omega
  rw [this, place?_of_lt i.isLt]

/-- No run in LOGS: no cutover is pending. -/
theorem State.cutoverPending_of_no_logs {s : State} (h : ∀ r ∈ s.runs.records, r.state ≠ .logs) :
    s.cutoverPending = false := by
  unfold State.cutoverPending State.logRun
  cases hf : s.runs.records.find? (·.state.logCurrent) with
  | none => rfl
  | some r => simpa using h r (List.mem_of_find?_eq_some hf)

/-- The one element that a predicate holds of is the one that is found. -/
theorem find?_of_countP_one {α : Type} {p : α → Bool} {l : List α} (h : l.countP p = 1) {x : α} (hx : x ∈ l)
    (hp : p x = true) : l.find? p = some x := by
  rw [List.countP_eq_length_filter] at h
  obtain ⟨y, hy⟩ := List.length_eq_one_iff.mp h
  have hxy : x ∈ l.filter p := List.mem_filter.mpr ⟨hx, hp⟩
  rw [hy, List.mem_singleton] at hxy
  rw [← List.head?_filter, hy, hxy]
  rfl

/-- The log-current run, where the table is kept, is the one run in LOGS or BOTH. -/
theorem State.logRun_of_mem {s : State} (h : s.runsKept) {r : Run} (hr : r ∈ s.runs.records)
    (hc : r.state.logCurrent = true) : s.logRun = some r := by
  obtain ⟨-, -, -, -, hone, -⟩ := h
  exact find?_of_countP_one hone hr hc

theorem State.boardRun_of_mem {s : State} (h : s.runsKept) {r : Run} (hr : r ∈ s.runs.records)
    (hc : r.state.boardCurrent = true) : s.boardRun = some r := by
  obtain ⟨-, -, -, -, -, hone, -⟩ := h
  exact find?_of_countP_one hone hr hc

/-- A run in LOGS is one whose cutover is pending. -/
theorem State.cutoverPending_of_logs {s : State} (h : s.runsKept) {r : Run} (hr : r ∈ s.runs.records)
    (hl : r.state = .logs) : s.cutoverPending = true := by
  simp [State.cutoverPending, State.logRun_of_mem h hr (by simp [hl, RunState.logCurrent]), hl]

/-- Settles O15: the checks of R136 in their order. -/
theorem openRunOpens : Obligations.OpenRunOpens := by
  refine ⟨fun ft p s h hlogs hlen hlast => ?opened, fun ft p s hinv h => ⟨fun hp => ?_, fun hp hlogs => ?_, fun hp hno hfull => ?_⟩⟩
  case opened =>
    rw [exec_openRun h]
    have hroom : s.runs.hasRoom = true := by simp [RunTable.hasRoom, hlen, hlast, Config.runRecords]
    have hcut : (s.received .control [u8 p.val]).cutoverPending = false :=
      State.cutoverPending_of_no_logs (s := s.received .control [u8 p.val]) hlogs
    simp only [State.openRun, place?_u8 p (by decide), hcut, State.received_runs, hroom, Bool.not_true, if_false,
      Bool.false_eq_true, RunTable.openRun]
    have hy : s.runs.records.map Run.yieldLogs =
        s.runs.records.map fun r => if r.state = .both then { r with state := .boards } else r :=
      List.map_congr_left fun r _ => by simp [Run.yieldLogs]
    rw [hy]
    rfl
  · rw [exec_openRun h]
    simp only [State.openRun, place?_of_not_lt (show ¬ p.toNat < 8 by omega)]
    rfl
  · rw [exec_openRun h]
    obtain ⟨r, hr, hl⟩ := hlogs
    have hcut : (s.received .control [p]).cutoverPending = true :=
      State.cutoverPending_of_logs (s := s.received .control [p]) hinv.runs hr hl
    simp only [State.openRun, place?_of_lt (show p.toNat < 8 by omega), hcut, if_true]
    rfl
  · rw [exec_openRun h]
    have hroom : s.runs.hasRoom = false := by
      rcases hfull with hf | hf <;> simp [RunTable.hasRoom, Config.runRecords, hf]
    have hcut : (s.received .control [p]).cutoverPending = false :=
      State.cutoverPending_of_no_logs (s := s.received .control [p]) hno
    simp only [State.openRun, place?_of_lt (show p.toNat < 8 by omega), hcut, State.received_runs, hroom, Bool.not_false,
      if_false, if_true, Bool.false_eq_true]
    rfl

/-- Settles O16: where the table is kept the pending run and the run in BOARDS are the only ones in those states, so the cutover
changes exactly these two. -/
theorem boardCutoverMovesTheBoardEnd : Obligations.BoardCutoverMovesTheBoardEnd := by
  refine ⟨fun ft new old s hinv h hnew hl hold hb => ?moved, fun ft s h hno => ?refused⟩
  case moved =>
    rw [exec_boardCutover h]
    have hcut : (s.received .control []).cutoverPending = true :=
      State.cutoverPending_of_logs (s := s.received .control []) hinv.runs hnew hl
    have hlog : (s.received .control []).logSeq = new.seq := by
      rw [State.logSeq, State.logRun_of_mem (s := s.received .control []) hinv.runs hnew (by simp [hl, RunState.logCurrent])]
      rfl
    have hboard : (s.received .control []).boardSeq = old.seq := by
      rw [State.boardSeq,
        State.boardRun_of_mem (s := s.received .control []) hinv.runs hold (by simp [hb, RunState.boardCurrent])]
      rfl
    have hd : (s.received .control []).drainedState old.seq = if s.openSlots old.seq = 0 then .closed else .draining := by
      simp only [State.drainedState, beq_iff_eq]
      rfl
    have hmap : s.runs.records.map (Run.cutOver (if s.openSlots old.seq = 0 then .closed else .draining)) =
        s.runs.records.map fun r =>
          if r.state = .logs then { r with state := .both }
          else if r.state = .boards then { r with state := if s.openSlots old.seq = 0 then .closed else .draining }
          else r := by
      refine List.map_congr_left fun r _ => ?_
      unfold Run.cutOver
      cases r.state <;> rfl
    have hcode : (if s.openSlots old.seq = 0 then RunState.closed else .draining).code =
        if s.openSlots old.seq = 0 then (4 : Byte) else 3 := by split <;> rfl
    rw [State.cutOver, if_pos hcut, hboard, hd, hlog]
    dsimp only
    rw [hcode, ← hmap]
    rfl
  case refused =>
    rw [exec_boardCutover h, State.cutOver,
      if_neg (by rw [State.cutoverPending_of_no_logs (s := s.received .control []) hno]; simp)]
    rfl

/-- Settles O17: whether a record holds the number, and its state, decide. -/
theorem runReleaseFreesTheRecord : Obligations.RunReleaseFreesTheRecord := by
  intro ft hi lo s h
  have hrun : (s.received .control [hi, lo]).run? (word hi lo) = s.run? (word hi lo) := rfl
  refine ⟨fun r hr hc => ?closed, fun hn => ?none, fun r hr hc => ?other⟩ <;> rw [exec_runRelease h] <;>
    simp only [State.releaseRun, readWord, hrun]
  case closed =>
    have hf : s.runs.records.filter (·.seq != word hi lo) =
        s.runs.records.filter fun q => decide (q.seq ≠ word hi lo) :=
      List.filter_congr fun q _ => by simp [bne]; rfl
    simp only [hr, hc, beq_self_eq_true, if_true, State.setRuns, State.received_runs, hf]
    rfl
  case none =>
    simp only [hn]
    rfl
  case other =>
    simp only [hr, beq_iff_eq, hc, if_false]
    rfl

/-! ## Causes (R168, R169) -/

/-- A mask of causes is read from the two bytes that carry it. -/
theorem readMask_u16 (mask : CauseSet) : readMask (u16 mask.toNat) = some mask := by
  have hlt : mask.toNat < 2 ^ 14 := mask.isLt
  have hw : word (u8 (mask.toNat / 256)) (u8 mask.toNat) = mask.toNat := word_u8 (by omega)
  simp only [readMask, u16, hw, hlt, if_true, BitVec.ofNat_toNat, BitVec.setWidth_eq]

theorem readMask_of_le {hi lo : Byte} (h : 2 ^ 14 ≤ word hi lo) : readMask [hi, lo] = none := by
  simp only [readMask, if_neg (Nat.not_lt.mpr h)]

/-- A reply changes no term of an output. -/
theorem State.reply_outputsJudged {s : State} (h : s.outputsJudged) (f : Frame) : (s.reply f).outputsJudged := fun o => h o

theorem State.ok_outputsJudged {s : State} (h : s.outputsJudged) (kind ft : Byte) (d : List Byte) :
    (s.ok kind ft d).outputsJudged := State.reply_outputsJudged h _

/-- The port changed, the outputs judged and an answer given: the port, the outputs and the receivers alone differ. -/
theorem State.judge_ok_frame (s : State) (p : List Byte) (f : ControlPort → ControlPort) (kind ft : Byte) (d : List Byte) :
    { (((s.received .control p).setCtl f).judge).ok kind ft d with ctl := s.ctl, field := s.field, links := s.links } = s := rfl

/-- Settles O19: both requests write the port and judge the outputs. -/
theorem causesClearedAndMasked : Obligations.CausesClearedAndMasked := by
  refine ⟨fun ft mask s h => ⟨?clear, ?mask⟩, fun ft hi lo s h hm => ⟨?_, ?_⟩⟩
  case clear =>
    rw [exec_clearCauses h ft (p := u16 mask.toNat) rfl]
    simp only [State.clearCauses, readMask_u16]
    exact ⟨_, rfl, rfl, State.ok_outputsJudged (State.judge_outputsJudged _) _ _ _, rfl, State.judge_ok_frame ..⟩
  case mask =>
    rw [exec_alertMask h ft (p := u16 mask.toNat) rfl]
    simp only [State.setAlertMask, readMask_u16]
    exact ⟨_, rfl, rfl, State.ok_outputsJudged (State.judge_outputsJudged _) _ _ _, rfl, State.judge_ok_frame ..⟩
  · rw [exec_clearCauses h ft (p := [hi, lo]) rfl]
    simp only [State.clearCauses, readMask_of_le hm]
    rfl
  · rw [exec_alertMask h ft (p := [hi, lo]) rfl]
    simp only [State.setAlertMask, readMask_of_le hm]
    rfl

/-! ## Outputs (R155 to R158) -/

/-- Where the outputs are judged and one of them is changed, its force, its pulse or its running wave, judging afresh sets that
output's level alone. -/
theorem State.judge_setOutput {s : State} (h : s.outputsJudged) {o : Fin 8} {f : Output → Output}
    (hw : (f (s.field.outputs.get o)).wave.isSome = (s.field.outputs.get o).wave.isSome) :
    (s.setOutput o f).judge =
      { s with
        field :=
          { s.field with
            outputs :=
              s.field.outputs.set o
                { f (s.field.outputs.get o) with
                  level :=
                    outputLevel s.alert (s.callCondition (s.tables.outputs.get o)) (s.tables.outputs.get o)
                      (f (s.field.outputs.get o)) } } } := by
  have hb : (Bank.ofFn fun i => judgeOutput s.alert (s.callCondition (s.tables.outputs.get i)) (s.tables.outputs.get i)
        ((s.field.outputs.modify o f).get i)) =
      s.field.outputs.set o
        { f (s.field.outputs.get o) with
          level :=
            outputLevel s.alert (s.callCondition (s.tables.outputs.get o)) (s.tables.outputs.get o)
              (f (s.field.outputs.get o)) } := by
    refine Bank.eq_of_get fun i => ?_
    rw [Bank.get_ofFn, Bank.get_modify, Bank.get_set]
    by_cases hi : i = o
    · subst hi
      simp only [if_true]
      have hi := (h i).2
      rw [← hw] at hi
      exact judgeOutput_of_judged
        (o := { f (s.field.outputs.get i) with
          level := outputLevel s.alert (s.callCondition (s.tables.outputs.get i)) (s.tables.outputs.get i)
            (f (s.field.outputs.get i)) }) rfl hi
    · simp only [hi, if_false]
      exact judgeOutput_of_judged (h i).1 (h i).2
  exact congrArg (fun outs => ({ s with field := { s.field with outputs := outs } } : State)) hb

/-- A BEACON output alone has a wave that runs. -/
theorem State.function_of_wave {s : State} (h : s.outputsJudged) {o : Fin 8} {w : Wave}
    (hw : (s.field.outputs.get o).wave = some w) : (s.tables.outputs.get o).function = .beacon :=
  ((h o).2.mp (by rw [hw]; rfl)).1

/-- Settles O45: the level after the change is what the force or the function then gives. -/
theorem pulsesAndWavesRun : Obligations.PulsesAndWavesRun := by
  refine fun o s hj => ⟨fun left hp => ?pulse, fun w hw => ?wave⟩
  case pulse =>
    rw [exec_eq_after, State.after_pulseTimerExpiry, if_pos (by simp [hp]), State.judge_setOutput hj rfl]
    have hl := (hj o).1
    congr 6
    simp only [outputLevel, functionLevel, hl]
    cases (s.field.outputs.get o).force <;> cases (s.tables.outputs.get o).function <;> simp
  case wave =>
    have hf := State.function_of_wave hj hw
    rw [exec_eq_after, State.after_beaconPhaseChange, if_pos (by simp [hw]), State.judge_setOutput hj (by simp [hw])]
    have hl := (hj o).1
    have ht : (some w).map (Wave.turn (s.tables.outputs.get o).rate) =
        some
          { on := !w.on
            left :=
              match (s.tables.outputs.get o).rate with
              | .half => 2000
              | .one => 1000
              | .two => 500
              | .four => 250 } := by
      cases hr : (s.tables.outputs.get o).rate <;> simp [Wave.turn, BeaconRate.halfPeriod]
    simp only [hw, ht]
    congr 6
    simp only [outputLevel, functionLevel, hf, hl]
    cases (s.field.outputs.get o).force <;> simp

theorem readOutput_u8 (o : Fin 8) : readOutput (u8 o.val) = some o := place?_u8 o (by decide)

theorem readOutput_of_lt {n : Byte} (h : 7 < n.toNat) : readOutput n = none := place?_of_not_lt (by omega)

theorem readLevel_bool (on : Bool) : readLevel (if on then 1 else 0) = some (if on then .on else .off) := by
  cases on <;> rfl

theorem readLevel_of_lt {l : Byte} (h : 1 < l.toNat) : readLevel l = none := by
  have h0 : l ≠ 0 := by rintro rfl; exact absurd h (by decide)
  have h1 : l ≠ 1 := by rintro rfl; exact absurd h (by decide)
  simp only [readLevel, if_neg h0, if_neg h1]

/-- Settles O46: the force decides the level before the function does. -/
theorem forcesDriveTheOutput : Obligations.ForcesDriveTheOutput := by
  refine ⟨fun o ft s h hj => ⟨fun on => ?force, ?release⟩, fun ft n l s h => ⟨fun hv => ?badForce, fun hn => ?badRelease⟩⟩
  case force =>
    rw [exec_outputForce h]
    simp only [State.forceOutput, readOutput_u8, readLevel_bool]
    rw [State.judge_setOutput (s := s.received .control _) hj rfl]
    cases on <;> rfl
  case release =>
    rw [exec_outputRelease h]
    simp only [State.releaseOutput, readOutput_u8]
    rw [State.judge_setOutput (s := s.received .control _) hj rfl]
    have hl : ∀ (a b : Bool) (e : OutputEntry) (x : Output), outputLevel a b e { x with force := .none } =
        (match e.function with
        | .fire => x.pulse.isSome
        | .kick => x.pulse.isSome
        | .alert => a
        | .beacon => (x.wave.map (·.on)).getD false
        | .graderCall => b
        | .none => false
        | .general => false) := by
      intro a b e x
      simp only [outputLevel, functionLevel]
      cases e.function <;> rfl
    rw [hl]
    rfl
  case badForce =>
    rw [exec_outputForce h]
    rcases hv with hn | hl
    · simp only [State.forceOutput, readOutput_of_lt hn]
      rfl
    · simp only [State.forceOutput, readLevel_of_lt hl]
      cases readOutput n <;> rfl
  case badRelease =>
    rw [exec_outputRelease h]
    simp only [State.releaseOutput, readOutput_of_lt hn]
    rfl

/-! ## The log encoder -/

/-- A countdown has run out. -/
theorem QueuedLog.arrived_eq : QueuedLog.arrived = fun q => decide (q.countdown = 0) := by
  funext q
  simp only [QueuedLog.arrived, beq_eq_decide]

/-- Settles O44: the head of the queue whose countdowns have run out leaves, and a rejected log there asks for the KICK. -/
theorem logCountsMoveTheQueue : Obligations.LogCountsMoveTheQueue := by
  intro s moved forward
  have hfwd : s.tracker.line ≠ .starting → s.after .logForwardCount =
      if (moved.takeWhile fun q => decide (q.countdown = 0)).any (·.rejected) then
        ({ s with lane := forward } : State).pulse .kick
      else { s with lane := forward } := by
    intro hl
    rw [State.after_logForwardCount, if_neg (by simpa using hl), State.leaveQueue, QueuedLog.arrived_eq]
    rfl
  simp only [exec_eq_after]
  refine ⟨fun hl hn => ?_, fun hl hk => ?_, fun hl hq => ?_, fun hl => ⟨?_, ?_⟩⟩
  · rw [hfwd hl, if_neg]
    simpa using hn
  · rw [hfwd hl, if_pos (by simpa using hk)]
    exact ⟨_, rfl, rfl, fun o => (State.pulse_output _ .kick o).2, State.judge_outputsJudged _, rfl, rfl⟩
  · rw [State.after_logReverseCount, if_neg (by simpa using hl)]
    have hm : s.lane.queue.map QueuedLog.reverse =
        s.lane.queue.map fun q => if q.countdown < q.entry then { q with countdown := q.countdown + 1 } else q := by
      refine List.map_congr_left fun q hmem => ?_
      have := hq q hmem
      unfold QueuedLog.reverse
      split
      · rw [Nat.min_eq_left (by omega)]
      · have he : min (q.countdown + 1) q.entry = q.countdown := by omega
        rw [he]
    rw [← hm]
    rfl
  · rw [State.after_logForwardCount, if_pos (by simpa using hl)]
    rfl
  · rw [State.after_logReverseCount, if_pos (by simpa using hl)]
    rfl

/-! ## Merging (R27) -/

theorem CellData.worse_comm (x y : CellData) : x.worse y = y.worse x := by
  simp only [CellData.worse, CellData.mk.injEq]
  exact ⟨Nat.min_comm .., Nat.min_comm .., Nat.max_comm .., Nat.max_comm .., Bool.or_comm .., Bool.or_comm ..⟩

theorem CellData.worse_assoc (x y z : CellData) : (x.worse y).worse z = x.worse (y.worse z) := by
  simp only [CellData.worse, CellData.mk.injEq]
  exact ⟨Nat.min_assoc .., Nat.min_assoc .., Nat.max_assoc .., Nat.max_assoc .., Bool.or_assoc .., Bool.or_assoc ..⟩

/-- Two entries merged one after the other, in either order. -/
theorem mergeCell_right_comm (c d e : Cell) : mergeCell (mergeCell c d) e = mergeCell (mergeCell c e) d := by
  cases c with
  | unseen | empty =>
    cases d <;> cases e <;> simp only [mergeCell, Cell.present.injEq]
    exact CellData.worse_comm ..
  | present x =>
    cases d <;> cases e <;> simp only [mergeCell, Cell.present.injEq]
    rename_i y z
    rw [CellData.worse_assoc, CellData.worse_assoc, y.worse_comm]

/-- Settles O32: the table of R27 is the definition, and the order of entries drops out since two of them commute. -/
theorem mergeKeepsTheWorse : Obligations.MergeKeepsTheWorse :=
  ⟨rfl, fun _ => rfl, rfl, fun _ => rfl, fun _ => rfl, fun _ _ => rfl, fun c _ _ hp =>
    hp.foldl_eq' (fun _ _ _ _ _ => mergeCell_right_comm ..) c⟩

end Sys2Proof.Machine


/-! PROOF. The lug ring by what identifies a slot: which operations keep it, and what an advance makes of it (R9, R10, R12, R13). -/

namespace Sys2Proof.Machine

/-! ## Keys -/

/-- What identifies a slot and places it, with the stations it has been announced at: what no block but the Tracker changes
(section 1.4). -/
structure SlotKey where
  tag : Nat
  offset : Nat
  kind : SlotKind
  run : Nat
  lugSynth : Bool
  eye : Bool
  passed : List Station

/-- The key of a slot. -/
def Slot.key (x : Slot) : SlotKey :=
  { tag := x.tag, offset := x.offset, kind := x.kind, run := x.run, lugSynth := x.lugSynth, eye := x.eye,
    passed := x.passed }

/-- The keys of the ring, oldest slot first. -/
def State.keys (s : State) : List SlotKey := s.tracker.ring.map Slot.key

theorem State.keys_tag (s : State) : s.tracker.ring.map (·.tag) = s.keys.map (·.tag) := by
  simp [State.keys, Slot.key, Function.comp_def]

theorem State.keys_offset (s : State) : s.tracker.ring.map (·.offset) = s.keys.map (·.offset) := by
  simp [State.keys, Slot.key, Function.comp_def]

theorem State.keys_length (s : State) : s.keys.length = s.tracker.ring.length := List.length_map ..

/-- The open slots of a run depend on the keys alone. -/
theorem State.openSlots_keys (s : State) (seq : Nat) :
    s.openSlots seq = s.keys.countP fun k => k.run == seq && k.kind != .empty := by
  rw [State.keys, List.countP_map]
  rfl

theorem State.boardSlots_keys (s : State) (seq : Nat) :
    s.boardSlots seq = s.keys.countP fun k => k.run == seq && k.kind == .board := by
  rw [State.keys, List.countP_map]
  rfl

/-! ## Slots found by their tag -/

theorem Slot.eq_of_tag {ring : List Slot} (h : (ring.map (·.tag)).Nodup) {x y : Slot} (hx : x ∈ ring) (hy : y ∈ ring)
    (ht : x.tag = y.tag) : x = y := List.inj_on_of_nodup_map h hx hy ht

/-- A slot of the ring is found by its tag. -/
theorem State.slot?_of_mem {s : State} (h : (s.tracker.ring.map (·.tag)).Nodup) {x : Slot} (hx : x ∈ s.tracker.ring) :
    s.slot? x.tag = some x := by
  unfold State.slot?
  cases hf : s.tracker.ring.find? (·.tag == x.tag) with
  | none => exact absurd (List.find?_eq_none.mp hf x hx) (by simp)
  | some y =>
    have hy := List.find?_some hf
    exact congrArg some (Slot.eq_of_tag h (List.mem_of_find?_eq_some hf) hx (by simpa using hy))

theorem State.slot?_eq_none {s : State} {tag : Nat} : s.slot? tag = none ↔ ∀ x ∈ s.tracker.ring, x.tag ≠ tag := by
  simp [State.slot?, List.find?_eq_none]

/-! ## Operations on one slot -/

/-- An operation on one slot that keeps its key keeps every key. -/
theorem map_key_changeSlot (tag : Nat) {f : Slot → Slot} (hf : ∀ x, (f x).key = x.key) (ring : List Slot) :
    (changeSlot tag f ring).map Slot.key = ring.map Slot.key := by
  unfold changeSlot
  rw [List.map_map]
  refine List.map_congr_left fun x _ => ?_
  show (if x.tag == tag then f x else x).key = x.key
  split
  · exact hf x
  · rfl

theorem State.updateSlot_keys (s : State) (tag : Nat) {f : Slot → Slot} (hf : ∀ x, (f x).key = x.key) :
    (s.updateSlot tag f).keys = s.keys := map_key_changeSlot tag hf _

@[simp] theorem Slot.flagProfile_key (x : Slot) : x.flagProfile.key = x.key := by
  unfold Slot.flagProfile
  split <;> rfl

@[simp] theorem Slot.handOver_key (x : Slot) : x.handOver.key = x.key := by
  unfold Slot.handOver
  split <;> rfl

@[simp] theorem Slot.closeScan_key (st : ScanStatus) (x : Slot) : (x.closeScan st).key = x.key := by
  unfold Slot.closeScan
  rw [Slot.handOver_key, Slot.flagProfile_key]
  rfl

@[simp] theorem Slot.deadline_key (x : Slot) : x.deadline.key = x.key := by
  unfold Slot.deadline
  dsimp only
  split
  · rw [Slot.closeScan_key]
    rfl
  · rfl

@[simp] theorem Slot.mergeSegment_key (e : HeadEntry) (h : Fin 4) (g : SegmentData) (x : Slot) :
    (x.mergeSegment e h g).key = x.key := by
  simp only [Slot.mergeSegment, apply_ite Slot.key, Slot.closeScan_key, ite_self]
  rfl

/-! ## What an operation does to the keys and the runs -/

/-- The keys of the ring and the run records are as before: all that the run table's relations look at. -/
structure State.SameKeys (s t : State) : Prop where
  keys : t.keys = s.keys
  runs : t.runs = s.runs

namespace State.SameKeys
variable {s t u : State}

@[refl] theorem refl (s : State) : s.SameKeys s := ⟨rfl, rfl⟩

@[trans] theorem trans (h : s.SameKeys t) (k : t.SameKeys u) : s.SameKeys u :=
  ⟨k.keys.trans h.keys, k.runs.trans h.runs⟩

/-- The same with the later part of a chain first. -/
theorem after (k : t.SameKeys u) (h : s.SameKeys t) : s.SameKeys u := h.trans k

/-- An operation that leaves the ring and the runs alone. -/
theorem of_eq (hr : t.tracker.ring = s.tracker.ring) (h : t.runs = s.runs) : s.SameKeys t :=
  ⟨congrArg (List.map Slot.key) hr, h⟩

theorem tags (h : s.SameKeys t) : t.tracker.ring.map (·.tag) = s.tracker.ring.map (·.tag) := by
  rw [State.keys_tag, State.keys_tag, h.keys]

theorem openSlots (h : s.SameKeys t) (seq : Nat) : t.openSlots seq = s.openSlots seq := by
  rw [State.openSlots_keys, State.openSlots_keys, h.keys]

theorem boardSlots (h : s.SameKeys t) (seq : Nat) : t.boardSlots seq = s.boardSlots seq := by
  rw [State.boardSlots_keys, State.boardSlots_keys, h.keys]

theorem updateSlot (s : State) (tag : Nat) {f : Slot → Slot} (hf : ∀ x, (f x).key = x.key := by intro _; rfl) :
    s.SameKeys (s.updateSlot tag f) := ⟨s.updateSlot_keys tag hf, rfl⟩

theorem raise (s : State) (x : Cause) : s.SameKeys (s.raise x) := of_eq (by simp) (by simp)

theorem abandonExchange (s : State) : s.SameKeys s.abandonExchange := by
  refine ⟨?_, by simp⟩
  show s.abandonExchange.tracker.ring.map Slot.key = _
  rw [s.abandonExchange_eq.1]
  cases s.saw.exchange with
  | none => rfl
  | some ex => exact map_key_changeSlot ex.tag (f := (·.setCommit _)) (fun _ => rfl) _

theorem beginModule (s : State) (tag timeout i : Nat) : s.SameKeys (s.beginModule tag timeout i) :=
  of_eq (by simp) (by simp)

theorem arriveSD (s : State) (x : Slot) : s.SameKeys (s.arriveSD x) := by
  have h : s.SameKeys ((s.updateSlot x.tag Slot.deadline).setScan fun i =>
      { i with heads := missHeads x.scan s.scan.heads }) := ⟨s.updateSlot_keys _ Slot.deadline_key, rfl⟩
  unfold State.arriveSD
  dsimp only
  split
  · exact h.trans (raise _ _)
  · exact h

theorem arriveGW (s : State) (x : Slot) : s.SameKeys (s.arriveGW x) := by
  have h := updateSlot s x.tag (f := fun y => { y with console := { y.console with window := .open } })
  unfold State.arriveGW
  dsimp only
  split <;> exact ⟨h.keys, h.runs⟩

theorem raiseCommit (s : State) (x : Slot) : s.SameKeys (s.raiseCommit x) := by
  unfold State.raiseCommit
  split
  · exact raise _ _
  · split
    · exact raise _ _
    · rfl

theorem commitPiece (s : State) (x : Slot) : s.SameKeys (s.commitPiece x) := by
  unfold State.commitPiece
  exact (beginModule _ _ _ _).after ((abandonExchange _).after ((raiseCommit _ x).after (updateSlot s _)))

theorem arriveCM (s : State) (x : Slot) : s.SameKeys (s.arriveCM x) := by
  have hclose : ∀ u : State, u.SameKeys (u.closeWindow x).judge := by
    intro u
    have h := updateSlot u x.tag
      (f := fun y => { y with console := { y.console with window := .closed, holder := none } })
    unfold State.closeWindow
    dsimp only
    split <;> exact ⟨h.keys, h.runs⟩
  refine (hclose _).after ?_
  split
  · have h : s.SameKeys (s.endSolving x) := 
      (updateSlot s x.tag (f := (·.setSolve SolveRecord.close))).trans (of_eq rfl rfl)
    exact (commitPiece _ x).after h
  · rfl

theorem trimPiece (s : State) (tag : Nat) : s.SameKeys (s.trimPiece tag) := by
  have h : s.SameKeys (s.endExchangeOf tag) := by
    unfold State.endExchangeOf
    split
    · exact abandonExchange s
    · rfl
  rw [State.trimPiece_eq]
  split
  · exact h
  · dsimp only
    split
    · exact (raise _ _).after ((updateSlot _ _).after h)
    · exact (updateSlot _ _).after h

theorem arriveTR (s : State) (x : Slot) : s.SameKeys (s.arriveTR x) := by
  have hp : s.SameKeys (s.pulse .fire) := ⟨rfl, rfl⟩
  unfold State.arriveTR
  dsimp only
  split
  · exact hp.trans (trimPiece _ _)
  · exact hp

/-- A slot announced before EX keeps the keys and the runs. -/
theorem announce (s : State) {st : Station} (h : st ≠ .ex) (x : Slot) : s.SameKeys (s.announce st x) := by
  cases st with
  | sd => exact arriveSD s x
  | gw => exact arriveGW s x
  | cm => exact arriveCM s x
  | tr => exact arriveTR s x
  | ex => exact absurd rfl h

end State.SameKeys

/-! ## Arrivals before EX -/

/-- A slot due at a station: it has come to it and was not announced there before (R13). -/
def SlotKey.due (g : Geometry) (st : Station) (k : SlotKey) : Bool :=
  decide (g.station st ≤ k.offset) && !k.passed.contains st

/-- The stations passed after the announcement of a slot at one that it is due at (R13). -/
def SlotKey.arrive (g : Geometry) (st : Station) (k : SlotKey) : SlotKey :=
  if k.due g st then { k with passed := k.passed ++ [st] } else k

/-- A slot announced at a station before EX where it is due: the keys of the others stay, and so do the runs. -/
theorem State.arriveAt_keys {s : State} (hn : (s.tracker.ring.map (·.tag)).Nodup) (tag : Nat) {st : Station} (h : st ≠ .ex) :
    (s.arriveAt tag st).keys = (s.keys.map fun k => if k.tag = tag then k.arrive s.geo st else k)
      ∧ (s.arriveAt tag st).runs = s.runs := by
  unfold State.arriveAt
  split
  · next hs =>
    refine ⟨((List.map_congr_left fun k hk => ?_).trans (List.map_id _)).symm, rfl⟩
    obtain ⟨x, hx, rfl⟩ := List.mem_map.mp hk
    exact if_neg (State.slot?_eq_none.mp hs x hx)
  · next x hs =>
    obtain ⟨hx, ht⟩ := State.slot?_some hs
    have hkey : ∀ y ∈ s.tracker.ring, y.tag = tag → y = x := fun y hy hyt => Slot.eq_of_tag hn hy hx (hyt.trans ht.symm)
    split
    · next hd =>
      have hsame := State.SameKeys.announce (s.updateSlot tag fun y => { y with passed := y.passed ++ [st] }) h
        { x with passed := x.passed ++ [st] }
      refine ⟨hsame.keys.trans ?_, hsame.runs⟩
      show (changeSlot tag _ s.tracker.ring).map Slot.key = (s.tracker.ring.map Slot.key).map _
      rw [changeSlot, List.map_map, List.map_map]
      refine List.map_congr_left fun y hy => ?_
      by_cases hyt : y.tag = tag
      · have hdue : y.key.due s.geo st = true := by
          rw [hkey y hy hyt]
          exact Bool.and_eq_true_iff.mpr ⟨decide_eq_true hd.1, hd.2⟩
        simp [Function.comp, hyt, SlotKey.arrive, hdue, show y.key.tag = tag from hyt]
        rfl
      · simp [Function.comp, hyt, show y.key.tag ≠ tag from hyt]
    · next hd =>
      refine ⟨((List.map_congr_left fun k hk => ?_).trans (List.map_id _)).symm, rfl⟩
      obtain ⟨y, hy, rfl⟩ := List.mem_map.mp hk
      by_cases hyt : y.key.tag = tag
      · have hdue : y.key.due s.geo st = false := by
          rw [hkey y hy hyt]
          refine Bool.eq_false_iff.mpr fun h' => hd ?_
          obtain ⟨ho, hp⟩ := Bool.and_eq_true_iff.mp h'
          exact ⟨of_decide_eq_true ho, hp⟩
        simp [hyt, SlotKey.arrive, hdue]
      · exact if_neg hyt

/-! ## The arrival at EX -/

/-- The state whose slot is about to leave: a BOARD piece has entered its tally and made its report (R141, R143). -/
def State.exited (s : State) (x : Slot) : State := if x.kind == .board then s.exitPiece x else s

theorem State.arriveEX_eq (s : State) (x : Slot) : s.arriveEX x = ((s.exited x).removeSlot x.tag).closeDrained := rfl

@[simp] theorem State.exited_tracker (s : State) (x : Slot) : (s.exited x).tracker = s.tracker := by
  unfold State.exited State.exitPiece
  split
  · split <;> simp
  · rfl

/-- The ring after an arrival at EX is the ring without that slot. -/
@[simp] theorem State.arriveEX_ring (s : State) (x : Slot) :
    (s.arriveEX x).tracker.ring = s.tracker.ring.filter (·.tag != x.tag) := by
  rw [State.arriveEX_eq]
  show (s.exited x).tracker.ring.filter _ = _
  rw [State.exited_tracker]

/-- A slot announced at EX leaves the ring; where it has not come to EX, nothing happens. -/
theorem State.arriveAt_ex_ring {s : State} (hn : (s.tracker.ring.map (·.tag)).Nodup)
    (hex : ∀ x ∈ s.tracker.ring, Station.ex ∉ x.passed) (tag : Nat) :
    (s.arriveAt tag .ex).tracker.ring =
      s.tracker.ring.filter fun x => !(x.tag == tag && decide (s.geo.ex ≤ x.offset)) := by
  unfold State.arriveAt
  split
  · next h =>
    refine (List.filter_eq_self.mpr fun x hx => ?_).symm
    simp [State.slot?_eq_none.mp h x hx]
  · next x h =>
    obtain ⟨hx, ht⟩ := State.slot?_some h
    split
    · next hd =>
      obtain ⟨hd, -⟩ := hd
      show ((s.updateSlot tag _).arriveEX _).tracker.ring = _
      rw [State.arriveEX_ring]
      show (changeSlot tag _ s.tracker.ring).filter (·.tag != x.tag) = _
      have hfix : ∀ y ∈ s.tracker.ring.filter (·.tag != tag),
          (if y.tag == tag then { y with passed := y.passed ++ [Station.ex] } else y) = y := by
        intro y hy
        have : y.tag ≠ tag := by simpa using (List.mem_filter.mp hy).2
        simp [this]
      have hcongr : s.tracker.ring.filter (fun y => !(y.tag == tag && decide (s.geo.ex ≤ y.offset))) =
          s.tracker.ring.filter (·.tag != tag) := by
        refine List.filter_congr fun y hy => ?_
        by_cases hyt : y.tag = tag
        · rw [Slot.eq_of_tag hn hy hx (hyt.trans ht.symm)]
          have hd' : s.geo.ex ≤ x.offset := hd
          simp [ht, hd']
        · simp [hyt, bne]
      rw [hcongr, ht, changeSlot, List.filter_map]
      have htag : ((fun y : Slot => y.tag != tag) ∘ fun y : Slot =>
          if y.tag == tag then { y with passed := y.passed ++ [Station.ex] } else y) = fun y => y.tag != tag := by
        funext y
        simp only [Function.comp]
        split <;> rfl
      rw [htag, List.map_congr_left hfix, List.map_id']
    · next hd =>
      have hnot : ¬ s.geo.ex ≤ x.offset := by
        intro h'
        exact hd ⟨h', by simpa using hex x hx⟩
      refine (List.filter_eq_self.mpr fun y hy => ?_).symm
      by_cases hyt : y.tag = tag
      · rw [Slot.eq_of_tag hn hy hx (hyt.trans ht.symm)]
        simp [hnot]
      · simp [hyt]

/-- The keys after an announcement at EX. -/
theorem State.arriveAt_ex_keys {s : State} (hn : (s.tracker.ring.map (·.tag)).Nodup)
    (hex : ∀ x ∈ s.tracker.ring, Station.ex ∉ x.passed) (tag : Nat) :
    (s.arriveAt tag .ex).keys = s.keys.filter fun k => !(k.tag == tag && decide (s.geo.ex ≤ k.offset)) := by
  rw [State.keys, State.arriveAt_ex_ring hn hex, State.keys, List.filter_map]
  rfl

/-! ## All the arrivals of an advance -/

/-- The stations before EX that a slot has been announced at, after all its arrivals of one advance (R13). -/
def SlotKey.arriveAll (g : Geometry) (k : SlotKey) : SlotKey :=
  (((k.arrive g .sd).arrive g .gw).arrive g .cm).arrive g .tr

/-- An arrival changes nothing but the stations passed. -/
theorem SlotKey.arrive_eq (g : Geometry) (st : Station) (k : SlotKey) :
    k.arrive g st = { k with passed := (k.arrive g st).passed } := by
  unfold SlotKey.arrive
  split <;> rfl

@[simp] theorem SlotKey.arrive_tag (g : Geometry) (st : Station) (k : SlotKey) : (k.arrive g st).tag = k.tag :=
  (congrArg SlotKey.tag (k.arrive_eq g st) :)
@[simp] theorem SlotKey.arrive_offset (g : Geometry) (st : Station) (k : SlotKey) : (k.arrive g st).offset = k.offset :=
  (congrArg SlotKey.offset (k.arrive_eq g st) :)
@[simp] theorem SlotKey.arrive_kind (g : Geometry) (st : Station) (k : SlotKey) : (k.arrive g st).kind = k.kind :=
  (congrArg SlotKey.kind (k.arrive_eq g st) :)
@[simp] theorem SlotKey.arrive_run (g : Geometry) (st : Station) (k : SlotKey) : (k.arrive g st).run = k.run :=
  (congrArg SlotKey.run (k.arrive_eq g st) :)
@[simp] theorem SlotKey.arrive_lugSynth (g : Geometry) (st : Station) (k : SlotKey) : (k.arrive g st).lugSynth = k.lugSynth :=
  (congrArg SlotKey.lugSynth (k.arrive_eq g st) :)
@[simp] theorem SlotKey.arrive_eye (g : Geometry) (st : Station) (k : SlotKey) : (k.arrive g st).eye = k.eye :=
  (congrArg SlotKey.eye (k.arrive_eq g st) :)

/-- After an announcement at a station, a station is passed where it was, or is the one due. -/
theorem SlotKey.mem_arrive {g : Geometry} {st st' : Station} {k : SlotKey} :
    st' ∈ (k.arrive g st).passed ↔ st' ∈ k.passed ∨ (st' = st ∧ g.station st ≤ k.offset) := by
  unfold SlotKey.arrive SlotKey.due
  by_cases h : g.station st ≤ k.offset <;> by_cases hm : st ∈ k.passed
  · simp only [h, decide_true, List.contains_iff_mem.mpr hm, Bool.not_true, Bool.and_false, Bool.false_eq_true, if_false]
    exact ⟨.inl, fun h' => h'.elim id fun ⟨e, _⟩ => e ▸ hm⟩
  · simp [h, hm]
  · simp [h]
  · simp [h]

@[simp] theorem SlotKey.arriveAll_tag (g : Geometry) (k : SlotKey) : (k.arriveAll g).tag = k.tag := by simp [SlotKey.arriveAll]
@[simp] theorem SlotKey.arriveAll_offset (g : Geometry) (k : SlotKey) : (k.arriveAll g).offset = k.offset := by
  simp [SlotKey.arriveAll]
@[simp] theorem SlotKey.arriveAll_kind (g : Geometry) (k : SlotKey) : (k.arriveAll g).kind = k.kind := by
  simp [SlotKey.arriveAll]
@[simp] theorem SlotKey.arriveAll_run (g : Geometry) (k : SlotKey) : (k.arriveAll g).run = k.run := by simp [SlotKey.arriveAll]
@[simp] theorem SlotKey.arriveAll_lugSynth (g : Geometry) (k : SlotKey) : (k.arriveAll g).lugSynth = k.lugSynth := by
  simp [SlotKey.arriveAll]
@[simp] theorem SlotKey.arriveAll_eye (g : Geometry) (k : SlotKey) : (k.arriveAll g).eye = k.eye := by simp [SlotKey.arriveAll]

theorem SlotKey.mem_arriveAll {g : Geometry} {st : Station} {k : SlotKey} :
    st ∈ (k.arriveAll g).passed ↔ st ∈ k.passed ∨ (st ≠ .ex ∧ g.station st ≤ k.offset) := by
  simp only [SlotKey.arriveAll, SlotKey.mem_arrive, SlotKey.arrive_offset]
  cases st <;> simp

/-- No slot of the ring has been announced at EX, and no two have one tag: so it is between the arrivals of an advance. -/
structure State.RingApart (s : State) : Prop where
  tags : (s.tracker.ring.map (·.tag)).Nodup
  inLine : ∀ x ∈ s.tracker.ring, Station.ex ∉ x.passed

theorem State.ringApart_iff (s : State) : s.RingApart ↔ (s.keys.map (·.tag)).Nodup ∧ ∀ k ∈ s.keys, Station.ex ∉ k.passed := by
  constructor
  · rintro ⟨ht, hx⟩
    rw [State.keys_tag] at ht
    refine ⟨ht, fun k hk => ?_⟩
    obtain ⟨x, hm, rfl⟩ := List.mem_map.mp hk
    exact hx x hm
  · rintro ⟨ht, hx⟩
    refine ⟨by rwa [State.keys_tag], fun x hm => hx _ (List.mem_map_of_mem hm)⟩

/-- The keys after one slot has been announced at every station before EX that it is due at. -/
theorem State.RingApart.of_arrive {s t : State} (h : s.RingApart) {tag : Nat} {st : Station} (hst : st ≠ .ex)
    (hk : t.keys = s.keys.map fun k => if k.tag = tag then k.arrive s.geo st else k) : t.RingApart := by
  obtain ⟨ht, hx⟩ := s.ringApart_iff.mp h
  refine t.ringApart_iff.mpr ⟨?_, fun k hk' => ?_⟩
  · rw [hk, List.map_map]
    have : (fun k : SlotKey => k.tag) ∘ (fun k => if k.tag = tag then k.arrive s.geo st else k) = fun k => k.tag := by
      funext k
      simp only [Function.comp]
      split <;> simp
    rwa [this]
  · rw [hk] at hk'
    obtain ⟨j, hj, rfl⟩ := List.mem_map.mp hk'
    split
    · rw [SlotKey.mem_arrive]
      rintro (h' | ⟨h', -⟩)
      · exact hx j hj h'
      · exact hst h'.symm
    · exact hx j hj

theorem State.RingApart.arriveAt {s : State} (h : s.RingApart) (tag : Nat) (st : Station) : (s.arriveAt tag st).RingApart := by
  by_cases hst : st = .ex
  · subst hst
    obtain ⟨ht, hx⟩ := s.ringApart_iff.mp h
    refine (State.ringApart_iff _).mpr ?_
    rw [State.arriveAt_ex_keys h.tags h.inLine]
    exact ⟨ht.sublist (List.filter_sublist.map _), fun k hk => hx k (List.mem_of_mem_filter hk)⟩
  · exact h.of_arrive hst (State.arriveAt_keys h.tags tag hst).1

theorem State.arriveAt_geo (s : State) (tag : Nat) (st : Station) : (s.arriveAt tag st).geo = s.geo :=
  (State.LineFrame.arriveAt s tag st).geo

/-- The keys after one slot's arrivals (R13). -/
theorem State.arriveAll_keys {s : State} (h : s.RingApart) (tag : Nat) :
    (s.arriveAll tag).keys =
      (s.keys.map fun k => if k.tag = tag then k.arriveAll s.geo else k).filter fun k =>
        !(k.tag == tag && decide (s.geo.ex ≤ k.offset)) := by
  have h1 := h.arriveAt tag .sd
  have h2 := h1.arriveAt tag .gw
  have h3 := h2.arriveAt tag .cm
  have h4 := h3.arriveAt tag .tr
  show ((((((s.arriveAt tag .sd).arriveAt tag .gw).arriveAt tag .cm).arriveAt tag .tr).arriveAt tag .ex).keys) = _
  rw [State.arriveAt_ex_keys h4.tags h4.inLine, (State.arriveAt_keys h3.tags tag (st := .tr) nofun).1,
    (State.arriveAt_keys h2.tags tag (st := .cm) nofun).1, (State.arriveAt_keys h1.tags tag (st := .gw) nofun).1,
    (State.arriveAt_keys h.tags tag (st := .sd) nofun).1]
  simp only [State.arriveAt_geo, List.map_map]
  congr 1
  refine List.map_congr_left fun k _ => ?_
  by_cases hk : k.tag = tag
  · simp [Function.comp, hk, SlotKey.arriveAll]
  · simp [Function.comp, hk]

theorem State.RingApart.arriveAll {s : State} (h : s.RingApart) (tag : Nat) : (s.arriveAll tag).RingApart :=
  ((((h.arriveAt tag .sd).arriveAt tag .gw).arriveAt tag .cm).arriveAt tag .tr).arriveAt tag .ex

theorem State.arriveAll_geo (s : State) (tag : Nat) : (s.arriveAll tag).geo = s.geo := (State.LineFrame.arriveAll s tag).geo

/-- The keys after the arrivals of the slots with these tags. -/
theorem State.arriveAll_foldl_keys {s : State} (h : s.RingApart) {tags : List Nat} (hn : tags.Nodup) :
    (tags.foldl State.arriveAll s).RingApart
      ∧ (tags.foldl State.arriveAll s).keys =
        (s.keys.map fun k => if k.tag ∈ tags then k.arriveAll s.geo else k).filter fun k =>
          !(decide (k.tag ∈ tags) && decide (s.geo.ex ≤ k.offset)) := by
  induction tags generalizing s with
  | nil => simp [h]
  | cons tag tags ih =>
    obtain ⟨hni, hn'⟩ := List.nodup_cons.mp hn
    obtain ⟨hr, hk⟩ := ih (h.arriveAll tag) hn'
    refine ⟨hr, hk.trans ?_⟩
    rw [State.arriveAll_keys h, State.arriveAll_geo]
    simp only [List.filter_map, List.map_map, List.filter_filter]
    have hmap : (fun k : SlotKey => if k.tag ∈ tags then k.arriveAll s.geo else k) ∘
        (fun k => if k.tag = tag then k.arriveAll s.geo else k) =
        fun k => if k.tag ∈ tag :: tags then k.arriveAll s.geo else k := by
      funext k
      by_cases hk : k.tag = tag
      · simp [Function.comp, hk, hni]
      · simp [Function.comp, hk]
    rw [hmap]
    congr 1
    refine List.filter_congr fun k _ => ?_
    by_cases hk : k.tag = tag
    · simp [Function.comp, hk, hni]
    · by_cases hm : k.tag ∈ tags <;> simp [Function.comp, hk, hm]

/-- The keys after every slot has been announced (R9, R13): those at EX are gone, the others have passed the stations they have
reached. -/
theorem State.announced_keys {s : State} (h : s.RingApart) :
    s.announced.RingApart
      ∧ s.announced.keys = (s.keys.filter fun k => decide (k.offset < s.geo.ex)).map (SlotKey.arriveAll s.geo) := by
  obtain ⟨hr, hk⟩ := State.arriveAll_foldl_keys h h.tags
  refine ⟨hr, hk.trans ?_⟩
  have hmem : ∀ k ∈ s.keys, k.tag ∈ s.tracker.ring.map (·.tag) := by
    intro k hk
    rw [State.keys_tag]
    exact List.mem_map_of_mem hk
  have hm : (s.keys.map fun k => if k.tag ∈ s.tracker.ring.map (·.tag) then k.arriveAll s.geo else k) =
      s.keys.map (SlotKey.arriveAll s.geo) := List.map_congr_left fun k hk => if_pos (hmem k hk)
  rw [hm, List.filter_map]
  congr 1
  refine List.filter_congr fun k hk => ?_
  simp only [Function.comp, SlotKey.arriveAll_tag, SlotKey.arriveAll_offset, hmem k hk, decide_true, Bool.true_and]
  by_cases hlt : k.offset < s.geo.ex
  · simp [hlt]
  · simp [hlt, Nat.not_lt.mp hlt]

end Sys2Proof.Machine



/-! PROOF. The lug ring before and after an advance: its order, its tags and the new slot (R9, R10, R12). -/

namespace Sys2Proof.Machine

/-! ## Falling offsets and consecutive tags -/

/-- A falling list cut at a bound is an end of the list: the lugs nearer the feed. -/
theorem filter_lt_eq_drop {α : Type} (f : α → Nat) (e : Nat) {l : List α} (h : (l.map f).Pairwise (· > ·)) :
    l.filter (fun x => decide (f x < e)) = l.drop (l.length - (l.filter fun x => decide (f x < e)).length) := by
  induction l with
  | nil => rfl
  | cons a l ih =>
    obtain ⟨ha, hl⟩ := List.pairwise_cons.mp h
    by_cases hlt : f a < e
    · have hall : ∀ x ∈ a :: l, decide (f x < e) = true := by
        intro x hx
        rcases List.mem_cons.mp hx with rfl | hx
        · exact decide_eq_true hlt
        · exact decide_eq_true ((ha _ (List.mem_map_of_mem hx)).trans hlt)
      rw [List.filter_eq_self.mpr hall]
      simp
    · have hle : (l.filter fun x => decide (f x < e)).length ≤ l.length := List.length_filter_le ..
      rw [List.filter_cons_of_neg (by simpa using hlt), List.length_cons,
        show l.length + 1 - (l.filter fun x => decide (f x < e)).length =
          (l.length - (l.filter fun x => decide (f x < e)).length) + 1 by omega, List.drop_succ_cons]
      exact ih hl

/-- A falling list of numbers below a bound is no longer than the bound. -/
theorem length_le_of_falling {l : List Nat} (h : l.Pairwise (· > ·)) {n : Nat} (hn : ∀ x ∈ l, x < n) : l.length ≤ n := by
  have hnd : l.Nodup := h.imp (fun h => (Nat.ne_of_lt h).symm)
  have hsub : l ⊆ List.range n := fun x hx => List.mem_range.mpr (hn x hx)
  simpa using (hnd.subperm hsub).length_le

theorem tagBefore_injective {next n i j : Nat} (hn : n ≤ 65536) (hi : i < n) (hj : j < n)
    (h : tagBefore next n i = tagBefore next n j) : i = j := by
  unfold tagBefore at h
  omega

/-- Tags in sequence differ. -/
theorem tagBefore_nodup (next : Nat) {n : Nat} (hn : n ≤ 65536) : ((List.range n).map (tagBefore next n)).Nodup :=
  List.Nodup.map_on (fun _ hi _ hj h => tagBefore_injective hn (List.mem_range.mp hi) (List.mem_range.mp hj) h)
    List.nodup_range

/-- The last `m` of `n` tags in sequence. -/
theorem drop_tagBefore (next : Nat) {n m : Nat} (hm : m ≤ n) (hn : n ≤ 65536) :
    ((List.range n).map (tagBefore next n)).drop (n - m) = (List.range m).map (tagBefore next m) := by
  refine List.ext_getElem (by simp; omega) fun i h1 h2 => ?_
  have hi : i < m := by simpa using h2
  simp only [List.getElem_drop, List.getElem_map, List.getElem_range, tagBefore]
  congr 1
  omega

/-- Tags in sequence with the next tag behind them. -/
theorem tagBefore_snoc {next m : Nat} (hnext : next < 65536) (hm : m < 65536) :
    (List.range m).map (tagBefore next m) ++ [next] =
      (List.range (m + 1)).map (tagBefore ((next + 1) % 65536) (m + 1)) := by
  rw [List.range_succ, List.map_append]
  congr 1
  · refine List.map_congr_left fun i hi => ?_
    have := List.mem_range.mp hi
    unfold tagBefore
    omega
  · show [next] = [tagBefore ((next + 1) % 65536) (m + 1) m]
    unfold tagBefore
    congr 1
    omega

/-- The next tag is none of the tags in sequence before it. -/
theorem next_not_mem_tagBefore {next n : Nat} (hnext : next < 65536) (hn : n < 65536) :
    next ∉ (List.range n).map (tagBefore next n) := by
  simp only [List.mem_map, List.mem_range, not_exists, not_and]
  intro i hi h
  unfold tagBefore at h
  omega

/-! ## What the ring's invariant gives -/

section
variable {s : State} (h : s.ringKept)
include h

theorem State.ringKept.length_le : s.tracker.ring.length ≤ 31 := by
  obtain ⟨hfall, hall, -, -⟩ := h
  have := length_le_of_falling hfall (n := 31) fun n hn => by
    obtain ⟨x, hx, rfl⟩ := List.mem_map.mp hn
    exact Nat.lt_succ_of_le (hall x hx).1
  simpa using this

theorem State.ringKept.nodup : (s.tracker.ring.map (·.tag)).Nodup := by
  have hl := State.ringKept.length_le h
  obtain ⟨-, -, htags, -⟩ := h
  rw [htags]
  exact tagBefore_nodup _ (hl.trans (by decide))

theorem State.ringKept.next_fresh : s.tracker.nextTag ∉ s.tracker.ring.map (·.tag) := by
  have hl := State.ringKept.length_le h
  obtain ⟨-, -, htags, hnext⟩ := h
  rw [htags]
  exact next_not_mem_tagBefore hnext (by omega)

theorem State.ringKept.slot?_of_mem {x : Slot} (hx : x ∈ s.tracker.ring) : s.slot? x.tag = some x :=
  State.slot?_of_mem h.nodup hx

theorem State.ringKept.eq_of_tag {x y : Slot} (hx : x ∈ s.tracker.ring) (hy : y ∈ s.tracker.ring) (ht : x.tag = y.tag) :
    x = y := Slot.eq_of_tag h.nodup hx hy ht

end

/-- Slots at one offset of a ring in order are one slot. -/
theorem Slot.eq_of_offset {ring : List Slot} (h : (ring.map (·.offset)).Pairwise (· > ·)) {x y : Slot} (hx : x ∈ ring)
    (hy : y ∈ ring) (ho : x.offset = y.offset) : x = y :=
  List.inj_on_of_nodup_map (h.imp fun h => (Nat.ne_of_lt h).symm) hx hy ho

/-! ## The ring moved on (R9, R12) -/

/-- The key of a slot one lug further, its kind fixed where it was not. -/
def Slot.movedKey (x : Slot) : SlotKey :=
  { x.key with offset := x.offset + 1, kind := if x.kind = .undecided then x.fixedKind else x.kind }

theorem Slot.fixedKind_ne_undecided (x : Slot) : x.fixedKind ≠ .undecided := by
  unfold Slot.fixedKind
  split <;> decide

theorem Slot.fixKind_key (x : Slot) : x.fixKind.key = { x.key with kind := x.fixedKind } := by
  unfold Slot.fixKind
  rw [Slot.handOver_key, Slot.flagProfile_key]
  rfl

/-- A slot one lug further. -/
def Slot.further (x : Slot) : Slot := { x with offset := x.offset + 1 }

theorem State.moveRing_ring (s : State) : s.moveRing.tracker.ring = s.tracker.ring.map Slot.further := rfl

/-- The slot whose kind an advance fixes is the one at offset 0, where there is one (R12). -/
theorem State.arriving_eq {s : State} (h : s.ringKept) {x : Slot} :
    s.moveRing.arriving = some x ↔ ∃ y ∈ s.tracker.ring, y.offset = 0 ∧ y.further = x := by
  obtain ⟨hfall, hall, -, -⟩ := h
  have hprop : ∀ y ∈ s.tracker.ring, (y.further.offset == 1 && y.further.kind == .undecided) = decide (y.offset = 0) := by
    intro y hy
    have hk := (hall y hy).2.2
    by_cases h0 : y.offset = 0
    · simp [Slot.further, h0, hk.mpr h0]
    · simp [Slot.further, h0]
  unfold State.arriving
  rw [State.moveRing_ring]
  constructor
  · intro hf
    obtain ⟨y, hy, rfl⟩ := List.mem_map.mp (List.mem_of_find?_eq_some hf)
    have hp := List.find?_some hf
    exact ⟨y, hy, by simpa [hprop y hy] using hp, rfl⟩
  · rintro ⟨y, hy, h0, rfl⟩
    cases hf : (s.tracker.ring.map Slot.further).find? fun x => x.offset == 1 && x.kind == .undecided with
    | none =>
      have := List.find?_eq_none.mp hf _ (List.mem_map_of_mem hy)
      simp [hprop y hy, h0] at this
    | some z =>
      obtain ⟨w, hw, rfl⟩ := List.mem_map.mp (List.mem_of_find?_eq_some hf)
      have hp := List.find?_some hf
      have hw0 : w.offset = 0 := by simpa [hprop w hw] using hp
      rw [Slot.eq_of_offset hfall hw hy (hw0.trans h0.symm)]

/-- The ring after it has moved on: the slot at offset 1 has its kind, the others are one lug further. -/
theorem State.movedOn_ring {s : State} (h : s.ringKept) :
    s.movedOn.tracker.ring = s.tracker.ring.map fun x => if x.offset = 0 then x.further.fixKind else x.further := by
  unfold State.movedOn
  split
  · next x hx =>
    obtain ⟨y, hy, h0, rfl⟩ := (State.arriving_eq h).mp hx
    have hring : (s.moveRing.fixKind y.further).tracker.ring = changeSlot y.tag Slot.fixKind s.moveRing.tracker.ring := by
      unfold State.fixKind
      dsimp only
      split
      · rw [State.enter_tracker]
        rfl
      · rfl
    rw [hring, State.moveRing_ring, changeSlot, List.map_map]
    refine List.map_congr_left fun z hz => ?_
    by_cases hz0 : z.offset = 0
    · have : z = y := Slot.eq_of_offset h.1 hz hy (hz0.trans h0.symm)
      simp [Function.comp, this, h0, Slot.further]
    · have hne : z.tag ≠ y.tag := fun ht => hz0 (by rw [h.eq_of_tag hz hy ht]; exact h0)
      simp [Function.comp, hz0, Slot.further, hne]
  · next hnone =>
    rw [State.moveRing_ring]
    refine List.map_congr_left fun z hz => ?_
    rw [if_neg]
    intro h0
    rw [(State.arriving_eq h).mpr ⟨z, hz, h0, rfl⟩] at hnone
    cases hnone

theorem State.movedOn_keys {s : State} (h : s.ringKept) : s.movedOn.keys = s.tracker.ring.map Slot.movedKey := by
  rw [State.keys, State.movedOn_ring h, List.map_map]
  refine List.map_congr_left fun x hx => ?_
  obtain ⟨-, hall, -, -⟩ := h
  have hk := (hall x hx).2.2
  by_cases h0 : x.offset = 0
  · simp only [Function.comp, if_pos h0, Slot.fixKind_key, Slot.movedKey, if_pos (hk.mpr h0)]
    rfl
  · simp only [Function.comp, h0, if_false, Slot.movedKey, show x.kind ≠ .undecided from fun h => h0 (hk.mp h)]
    rfl

theorem State.movedOn_ringApart {s : State} (h : s.ringKept) : s.movedOn.RingApart := by
  have hn := h.nodup
  obtain ⟨-, hall, -, -⟩ := id h
  refine (State.ringApart_iff _).mpr ?_
  rw [State.movedOn_keys h, List.map_map]
  refine ⟨hn, fun k hk => ?_⟩
  obtain ⟨x, hx, rfl⟩ := List.mem_map.mp hk
  exact (hall x hx).2.1

theorem State.movedOn_geo (s : State) : s.movedOn.geo = s.geo := (State.LineFrame.movedOn s).geo

/-! ## The ring after an advance -/

/-- The keys that the new slot joins. -/
theorem State.beforeCreate_keys {s : State} (h : s.ringKept) :
    s.beforeCreate.keys =
      ((s.tracker.ring.filter fun x => decide (x.offset + 1 < s.geo.ex)).map fun x => x.movedKey.arriveAll s.geo) := by
  rw [(State.announced_keys (State.movedOn_ringApart h)).2, State.movedOn_keys h, State.movedOn_geo, List.filter_map,
    List.map_map]
  rfl

theorem State.advance_ring (s : State) (synth : Bool) :
    (s.advance synth).tracker.ring = s.beforeCreate.tracker.ring ++ [s.beforeCreate.newSlot synth] := rfl

theorem State.advance_keys {s : State} (h : s.ringKept) (synth : Bool) :
    (s.advance synth).keys =
      ((s.tracker.ring.filter fun x => decide (x.offset + 1 < s.geo.ex)).map fun x => x.movedKey.arriveAll s.geo)
        ++ [(s.beforeCreate.newSlot synth).key] := by
  rw [State.keys, State.advance_ring, List.map_append, ← State.keys, State.beforeCreate_keys h]
  rfl

theorem State.beforeCreate_nextTag (s : State) : s.beforeCreate.tracker.nextTag = s.tracker.nextTag :=
  (State.LineFrame.beforeCreate s).nextTag

@[simp] theorem State.advance_nextTag (s : State) (synth : Bool) :
    (s.advance synth).tracker.nextTag = (s.tracker.nextTag + 1) % 65536 := by
  show (s.beforeCreate.tracker.nextTag + 1) % 65536 = _
  rw [State.beforeCreate_nextTag]

/-- The ring's invariant in terms of the keys. -/
theorem State.ringKept_iff_keys (s : State) :
    s.ringKept ↔ (s.keys.map (·.offset)).Pairwise (· > ·)
      ∧ (∀ k ∈ s.keys, k.offset ≤ 30 ∧ Station.ex ∉ k.passed ∧ (k.kind = .undecided ↔ k.offset = 0))
      ∧ s.keys.map (·.tag) = (List.range s.keys.length).map (tagBefore s.tracker.nextTag s.keys.length)
      ∧ s.tracker.nextTag < 65536 := by
  unfold State.ringKept
  rw [State.keys_offset, State.keys_tag, State.keys_length]
  refine and_congr Iff.rfl (and_congr ⟨fun h k hk => ?_, fun h x hx => h _ (List.mem_map_of_mem hx)⟩ Iff.rfl)
  obtain ⟨x, hx, rfl⟩ := List.mem_map.mp hk
  exact h x hx

/-- Every station is before the end of the line, and they stand in their order (R15). -/
theorem Geometry.valid_stations {g : Geometry} (h : g.valid = true) :
    1 ≤ g.sd ∧ g.sd < g.gw ∧ g.gw < g.cm ∧ g.cm + 2 ≤ g.ex ∧ g.ex ≤ 31 := by
  simp only [Geometry.valid, within, Bool.and_eq_true, decide_eq_true_eq] at h
  omega

/-- The lug pitch and the half-width of the capture window (R15). -/
theorem Geometry.valid_lug {g : Geometry} (h : g.valid = true) : 64 ≤ g.lugPitch ∧ 1 ≤ g.halfWidth ∧ 4 * g.halfWidth ≤ g.lugPitch := by
  simp only [Geometry.valid, within, Bool.and_eq_true, decide_eq_true_eq] at h
  omega

/-- An advance keeps the ring's invariant. -/
theorem State.advance_ringKept {s : State} (hg : s.geo.valid = true) (h : s.ringKept) (synth : Bool) :
    (s.advance synth).ringKept := by
  obtain ⟨-, -, -, hex2, hex⟩ := Geometry.valid_stations hg
  have hlen := h.length_le
  obtain ⟨hfall, hall, htags, hnext⟩ := id h
  have hkeys := State.advance_keys h synth
  have hlen' : (s.tracker.ring.filter fun x => decide (x.offset + 1 < s.geo.ex)).length ≤ s.tracker.ring.length :=
    List.length_filter_le ..
  have hfall1 : (s.tracker.ring.map fun x => x.offset + 1).Pairwise (· > ·) := by
    rw [List.pairwise_map] at hfall ⊢
    exact hfall.imp fun h => Nat.succ_lt_succ h
  refine (State.ringKept_iff_keys _).mpr ⟨?falling, ?each, ?tags, ?next⟩
  case falling =>
    rw [hkeys, List.map_append, List.map_map]
    refine List.pairwise_append.mpr ⟨?_, List.pairwise_singleton .., ?_⟩
    · rw [List.pairwise_map] at hfall1 ⊢
      exact (hfall1.filter _).imp fun h => by simpa [Function.comp, Slot.movedKey] using h
    · intro a ha b hb
      obtain ⟨x, -, rfl⟩ := List.mem_map.mp ha
      have hb0 : b = 0 := by simpa [Slot.key, State.newSlot] using hb
      simp [hb0, Slot.movedKey]
  case each =>
    intro k hk
    rw [hkeys, List.mem_append, List.mem_singleton] at hk
    rcases hk with hk | rfl
    · obtain ⟨x, hx, rfl⟩ := List.mem_map.mp hk
      obtain ⟨hx, hlt⟩ := List.mem_filter.mp hx
      have hlt' : x.offset + 1 < s.geo.ex := of_decide_eq_true hlt
      obtain ⟨-, hpass, -⟩ := hall x hx
      refine ⟨?_, ?_, ?_⟩
      · simp only [SlotKey.arriveAll_offset, Slot.movedKey]
        omega
      · rw [SlotKey.mem_arriveAll]
        rintro (h' | ⟨h', -⟩)
        · exact hpass h'
        · exact h' rfl
      · simp only [SlotKey.arriveAll_kind, SlotKey.arriveAll_offset, Slot.movedKey, Nat.add_eq_zero_iff, one_ne_zero, and_false,
          iff_false]
        split
        · exact x.fixedKind_ne_undecided
        · next hk => exact hk
    · exact ⟨Nat.zero_le _, nofun, by simp [Slot.key, State.newSlot]⟩
  case tags =>
    rw [hkeys, State.advance_nextTag]
    have hdrop := filter_lt_eq_drop (fun x : Slot => x.offset + 1) s.geo.ex hfall1
    have htag : ((s.tracker.ring.filter fun x => decide (x.offset + 1 < s.geo.ex)).map
        fun x => x.movedKey.arriveAll s.geo).map (·.tag) =
        (List.range (s.tracker.ring.filter fun x => decide (x.offset + 1 < s.geo.ex)).length).map
          (tagBefore s.tracker.nextTag (s.tracker.ring.filter fun x => decide (x.offset + 1 < s.geo.ex)).length) := by
      have h1 : (fun k : SlotKey => k.tag) ∘ (fun x : Slot => x.movedKey.arriveAll s.geo) = fun x => x.tag := by
        funext x
        simp [Slot.movedKey, Slot.key]
      rw [List.map_map, h1, ← drop_tagBefore s.tracker.nextTag hlen' (hlen.trans (by decide)), ← htags, ← List.map_drop,
        ← hdrop]
    have hnew : (s.beforeCreate.newSlot synth).key.tag = s.tracker.nextTag := State.beforeCreate_nextTag s
    rw [List.map_append, htag, List.length_append, List.length_map]
    show _ ++ [(s.beforeCreate.newSlot synth).key.tag] = _
    rw [hnew]
    exact tagBefore_snoc hnext (by omega)
  case next =>
    rw [State.advance_nextTag]
    omega

end Sys2Proof.Machine


/-! PROOF. The run table through tally entries and through the closing of drained runs (R134 to R146). -/

namespace Sys2Proof.Machine

/-! ## One run's counters (R146) -/

/-- What a list of increases adds to a counter. -/
def gain (l : List (Counter × Nat)) (c : Counter) : Nat := (l.map fun p => if p.1 = c then p.2 else 0).sum

@[simp] theorem gain_nil (c : Counter) : gain [] c = 0 := rfl

@[simp] theorem gain_cons (p : Counter × Nat) (l : List (Counter × Nat)) (c : Counter) :
    gain (p :: l) c = (if p.1 = c then p.2 else 0) + gain l c := by simp [gain]

@[simp] theorem gain_append (l l' : List (Counter × Nat)) (c : Counter) : gain (l ++ l') c = gain l c + gain l' c := by
  simp [gain]

@[simp] theorem gain_countIf (b : Bool) (d c : Counter) : gain (countIf b d) c = if b = true ∧ d = c then 1 else 0 := by
  cases b <;> simp [countIf]

theorem Run.count_saturated (r : Run) (c : Counter) (n : Nat) :
    (r.count c n).saturated = true ↔
      r.saturated = true ∨ (r.tally.get c < Config.tallyMax ∧ Config.tallyMax ≤ r.tally.get c + n) := by
  simp only [Run.count, Bool.or_eq_true, Bool.and_eq_true, decide_eq_true_eq, beq_iff_eq]
  refine or_congr Iff.rfl (and_congr Iff.rfl ?_)
  omega

/-- An increase keeps every counter within its maximum and marks the run where one stops there. -/
theorem Run.countersKept_count {r : Run} (h : r.countersKept) (c : Counter) (n : Nat) : (r.count c n).countersKept := by
  intro d
  obtain ⟨hle, hlt⟩ := h d
  have hs := r.count_saturated c n
  rw [Run.get_count]
  by_cases hd : d = c
  · subst hd
    simp only [if_true]
    refine ⟨Nat.min_le_right .., fun hf => ?_⟩
    have hnot := mt hs.mpr (by simpa using hf)
    have hr : r.saturated = false := by simpa using fun h' => hnot (.inl h')
    have hlt' := hlt hr
    have : ¬Config.tallyMax ≤ r.tally.get d + n := fun h' => hnot (.inr ⟨hlt', h'⟩)
    omega
  · simp only [hd, if_false]
    refine ⟨hle, fun hf => hlt ?_⟩
    simpa using fun h' => mt hs.mpr (by simpa using hf) (.inl h')

theorem Run.countersKept_countAll {r : Run} (h : r.countersKept) (l : List (Counter × Nat)) : (r.countAll l).countersKept := by
  induction l generalizing r with
  | nil => exact h
  | cons p l ih => exact ih (Run.countersKept_count h p.1 p.2)

/-- No increase lowers a counter. -/
theorem Run.le_get_countAll {r : Run} (h : r.countersKept) (l : List (Counter × Nat)) (c : Counter) :
    r.tally.get c ≤ (r.countAll l).tally.get c := by
  induction l generalizing r with
  | nil => exact Nat.le_refl _
  | cons p l ih =>
    refine Nat.le_trans ?_ (ih (Run.countersKept_count h p.1 p.2))
    rw [Run.get_count]
    have := (h p.1).1
    split
    · next e =>
      subst e
      omega
    · exact Nat.le_refl _

/-- Where the saturated mark stays clear, each counter has gained what the list adds to it. -/
theorem Run.get_countAll_of_unsaturated {r : Run} (h : r.countersKept) {l : List (Counter × Nat)}
    (hs : (r.countAll l).saturated = false) :
    r.saturated = false ∧ ∀ c, (r.countAll l).tally.get c = r.tally.get c + gain l c := by
  induction l generalizing r with
  | nil => exact ⟨hs, fun c => by simp [Run.countAll]⟩
  | cons p l ih =>
    obtain ⟨hp, hc⟩ := ih (Run.countersKept_count h p.1 p.2) hs
    have hnot := mt (r.count_saturated p.1 p.2).mpr (by simpa using hp)
    have hr : r.saturated = false := by simpa using fun h' => hnot (.inl h')
    have hlt := (h p.1).2 hr
    have hroom : ¬Config.tallyMax ≤ r.tally.get p.1 + p.2 := fun h' => hnot (.inr ⟨hlt, h'⟩)
    refine ⟨hr, fun c => ?_⟩
    have hc' : (r.countAll (p :: l)).tally.get c = (r.count p.1 p.2).tally.get c + gain l c := hc c
    rw [hc', Run.get_count, gain_cons]
    by_cases e : p.1 = c
    · subst e
      simp only [if_true]
      omega
    · simp only [e, Ne.symm e, if_false]
      omega

@[simp] theorem Run.countAll_seq (l : List (Counter × Nat)) (r : Run) : (r.countAll l).seq = r.seq := (r.countAll_keeps l).1
@[simp] theorem Run.countAll_product (l : List (Counter × Nat)) (r : Run) : (r.countAll l).product = r.product :=
  (r.countAll_keeps l).2.1
@[simp] theorem Run.countAll_state (l : List (Counter × Nat)) (r : Run) : (r.countAll l).state = r.state :=
  (r.countAll_keeps l).2.2.1

/-! ## The table -/

/-- What holds of the run table alone, whatever the ring holds (R134, R135, R146). -/
structure State.RunTableKept (s : State) : Prop where
  rising : (s.runs.records.map (·.seq)).Pairwise (· < ·)
  each : ∀ r ∈ s.runs.records, 1 ≤ r.seq ∧ r.seq ≤ s.runs.lastIssued ∧ r.countersKept
  lastIssued : s.runs.lastIssued ≤ 65535
  length : s.runs.records.length ≤ 16
  logCurrent : s.runs.records.countP (·.state.logCurrent) = 1
  boardCurrent : s.runs.records.countP (·.state.boardCurrent) = 1
  order : s.boardSeq ≤ s.logSeq

/-- A DRAINING run has an open slot and a CLOSED one none (R137, R138). -/
def State.runsDrained (s : State) : Prop :=
  ∀ r ∈ s.runs.records, (r.state = .draining → s.openSlots r.seq ≠ 0) ∧ (r.state = .closed → s.openSlots r.seq = 0)

/-- The run of every open slot exists (R138). -/
def State.slotsHaveRuns (s : State) : Prop := ∀ x ∈ s.tracker.ring, x.kind ≠ .empty → (s.run? x.run).isSome

theorem State.runsKept_iff (s : State) : s.runsKept ↔ s.RunTableKept ∧ s.runsDrained ∧ s.slotsHaveRuns := by
  constructor
  · rintro ⟨h1, h2, h3, h4, h5, h6, h7, h8, h9⟩
    exact ⟨⟨h1, h2, h3, h4, h5, h6, h7⟩, h8, h9⟩
  · rintro ⟨⟨h1, h2, h3, h4, h5, h6, h7⟩, h8, h9⟩
    exact ⟨h1, h2, h3, h4, h5, h6, h7, h8, h9⟩

/-- A change of every run that keeps its number and whether it is log-current and board-current. -/
structure KeepsCurrent (f : Run → Run) : Prop where
  seq : ∀ r, (f r).seq = r.seq
  log : ∀ r, (f r).state.logCurrent = r.state.logCurrent
  board : ∀ r, (f r).state.boardCurrent = r.state.boardCurrent

theorem KeepsCurrent.map_seq {f : Run → Run} (hf : KeepsCurrent f) (l : List Run) : (l.map f).map (·.seq) = l.map (·.seq) := by
  rw [List.map_map]
  exact List.map_congr_left fun r _ => hf.seq r

theorem State.run?_map {s t : State} {f : Run → Run} (hf : KeepsCurrent f) (hr : t.runs.records = s.runs.records.map f)
    (seq : Nat) : t.run? seq = (s.run? seq).map f := by
  unfold State.run?
  rw [hr, List.find?_map]
  congr 2
  funext r
  simp [Function.comp, hf.seq]

theorem State.logSeq_map {s t : State} {f : Run → Run} (hf : KeepsCurrent f) (hr : t.runs.records = s.runs.records.map f) :
    t.logSeq = s.logSeq := by
  have hp : (fun r : Run => r.state.logCurrent) ∘ f = fun r => r.state.logCurrent := funext hf.log
  simp only [State.logSeq, State.logRun, hr, List.find?_map, hp, Option.map_map]
  congr 2
  exact funext hf.seq

theorem State.boardSeq_map {s t : State} {f : Run → Run} (hf : KeepsCurrent f) (hr : t.runs.records = s.runs.records.map f) :
    t.boardSeq = s.boardSeq := by
  have hp : (fun r : Run => r.state.boardCurrent) ∘ f = fun r => r.state.boardCurrent := funext hf.board
  simp only [State.boardSeq, State.boardRun, hr, List.find?_map, hp, Option.map_map]
  congr 2
  exact funext hf.seq

/-- Such a change of every run keeps the table, where it keeps the counters. -/
theorem State.RunTableKept.of_map {s t : State} (h : s.RunTableKept) (hl : t.runs.lastIssued = s.runs.lastIssued)
    {f : Run → Run} (hr : t.runs.records = s.runs.records.map f) (hf : KeepsCurrent f)
    (hc : ∀ r, r.countersKept → (f r).countersKept) : t.RunTableKept where
  rising := by
    rw [hr, hf.map_seq]
    exact h.rising
  each r hm := by
    rw [hr] at hm
    obtain ⟨q, hq, rfl⟩ := List.mem_map.mp hm
    obtain ⟨h1, h2, h3⟩ := h.each q hq
    rw [hf.seq, hl]
    exact ⟨h1, h2, hc q h3⟩
  lastIssued := hl ▸ h.lastIssued
  length := by
    rw [hr, List.length_map]
    exact h.length
  logCurrent := by
    rw [hr, List.countP_map]
    exact (congrArg (fun p => s.runs.records.countP p) (funext hf.log)).trans h.logCurrent
  boardCurrent := by
    rw [hr, List.countP_map]
    exact (congrArg (fun p => s.runs.records.countP p) (funext hf.board)).trans h.boardCurrent
  order := by
    rw [State.boardSeq_map hf hr, State.logSeq_map hf hr]
    exact h.order

/-- Runs of one number are one run. -/
theorem State.RunTableKept.eq_of_seq {s : State} (h : s.RunTableKept) {r q : Run} (hr : r ∈ s.runs.records)
    (hq : q ∈ s.runs.records) (e : r.seq = q.seq) : r = q :=
  List.inj_on_of_nodup_map (h.rising.imp Nat.ne_of_lt) hr hq e

theorem State.run?_some {s : State} {seq : Nat} {r : Run} (h : s.run? seq = some r) : r ∈ s.runs.records ∧ r.seq = seq :=
  ⟨List.mem_of_find?_eq_some h, by simpa using List.find?_some h⟩

theorem State.RunTableKept.run?_of_mem {s : State} (h : s.RunTableKept) {r : Run} (hr : r ∈ s.runs.records) :
    s.run? r.seq = some r := by
  cases hf : s.run? r.seq with
  | none => exact absurd (List.find?_eq_none.mp hf r hr) (by simp)
  | some q =>
    obtain ⟨hq, e⟩ := State.run?_some hf
    rw [h.eq_of_seq hq hr e]

/-- There is a board-current run. -/
theorem State.RunTableKept.boardRun {s : State} (h : s.RunTableKept) :
    ∃ r ∈ s.runs.records, r.state.boardCurrent = true ∧ s.boardRun = some r ∧ s.boardSeq = r.seq := by
  have hpos : 0 < s.runs.records.countP (·.state.boardCurrent) := by rw [h.boardCurrent]; decide
  obtain ⟨q, hq, hb⟩ := List.countP_pos_iff.mp hpos
  cases hf : s.boardRun with
  | none => exact absurd hb (List.find?_eq_none.mp hf q hq)
  | some r =>
    exact ⟨r, List.mem_of_find?_eq_some hf, List.find?_some (p := fun r : Run => r.state.boardCurrent) hf, rfl, by
      rw [State.boardSeq, hf]; rfl⟩

/-- There is a log-current run. -/
theorem State.RunTableKept.logRun {s : State} (h : s.RunTableKept) :
    ∃ r ∈ s.runs.records, r.state.logCurrent = true ∧ s.logRun = some r ∧ s.logSeq = r.seq := by
  have hpos : 0 < s.runs.records.countP (·.state.logCurrent) := by rw [h.logCurrent]; decide
  obtain ⟨q, hq, hb⟩ := List.countP_pos_iff.mp hpos
  cases hf : s.logRun with
  | none => exact absurd hb (List.find?_eq_none.mp hf q hq)
  | some r =>
    exact ⟨r, List.mem_of_find?_eq_some hf, List.find?_some (p := fun r : Run => r.state.logCurrent) hf, rfl, by
      rw [State.logSeq, hf]; rfl⟩

/-! ## Tally entries and the closing of drained runs -/

theorem changeRun_keepsCurrent (seq : Nat) (l : List (Counter × Nat)) :
    KeepsCurrent fun r => if r.seq == seq then r.countAll l else r where
  seq r := by split <;> simp
  log r := by split <;> simp
  board r := by split <;> simp

theorem closeIfDrained_keepsCurrent (ring : List Slot) : KeepsCurrent (Run.closeIfDrained ring) where
  seq r := by unfold Run.closeIfDrained; split <;> rfl
  log r := by
    unfold Run.closeIfDrained
    split
    · next h =>
      have : r.state = .draining := by simpa using (Bool.and_eq_true_iff.mp h).1
      simp [this, RunState.logCurrent]
    · rfl
  board r := by
    unfold Run.closeIfDrained
    split
    · next h =>
      have : r.state = .draining := by simpa using (Bool.and_eq_true_iff.mp h).1
      simp [this, RunState.boardCurrent]
    · rfl

theorem Run.closeIfDrained_tally (ring : List Slot) (r : Run) :
    (r.closeIfDrained ring).tally = r.tally ∧ (r.closeIfDrained ring).saturated = r.saturated
      ∧ (r.closeIfDrained ring).product = r.product := by
  unfold Run.closeIfDrained
  split <;> exact ⟨rfl, rfl, rfl⟩

section
variable {s t : State}

theorem State.runsKept.enter (h : s.runsKept) (seq : Nat) (l : List (Counter × Nat)) : (s.enter seq l).runsKept := by
  obtain ⟨htab, hdrain, hslots⟩ := s.runsKept_iff.mp h
  have hrec : (s.enter seq l).runs.records = s.runs.records.map fun r => if r.seq == seq then r.countAll l else r := by
    rw [State.enter_runs]
    rfl
  have hf := changeRun_keepsCurrent seq l
  refine (State.runsKept_iff _).mpr ⟨htab.of_map (by simp) hrec hf fun r hr => ?_, fun r hr => ?_, fun x hx hk => ?_⟩
  · split
    · exact Run.countersKept_countAll hr l
    · exact hr
  · have hopen : ∀ q, (s.enter seq l).openSlots q = s.openSlots q := fun q => by simp [State.openSlots]
    rw [hrec] at hr
    obtain ⟨q, hq, rfl⟩ := List.mem_map.mp hr
    rw [hopen, hf.seq]
    have := hdrain q hq
    split <;> simpa using this
  · rw [State.run?_map hf hrec, Option.isSome_map]
    rw [State.enter_tracker] at hx
    exact hslots x hx hk

/-- The runs as before, and every slot open in the run it was: the run table's relations too. -/
theorem State.runsKept.of_open (h : s.runsKept) (hr : t.runs = s.runs)
    (hp : (t.tracker.ring.map fun x => (x.run, x.kind != .empty)) = s.tracker.ring.map fun x => (x.run, x.kind != .empty)) :
    t.runsKept := by
  obtain ⟨htab, hdrain, hslots⟩ := s.runsKept_iff.mp h
  have hid : t.runs.records = s.runs.records.map id := by rw [hr, List.map_id]
  have hopen : ∀ q, t.openSlots q = s.openSlots q := by
    intro q
    have hcount : ∀ u : State, u.openSlots q =
        (u.tracker.ring.map fun x => (x.run, x.kind != .empty)).countP fun p => p.1 == q && p.2 := by
      intro u
      rw [List.countP_map]
      rfl
    rw [hcount, hcount, hp]
  refine t.runsKept_iff.mpr ⟨htab.of_map (by rw [hr]) hid ⟨fun _ => rfl, fun _ => rfl, fun _ => rfl⟩ fun _ h => h, ?_, ?_⟩
  · intro r hm
    rw [hr] at hm
    rw [hopen]
    exact hdrain r hm
  · intro x hx hk
    have hmem : (x.run, x.kind != .empty) ∈ s.tracker.ring.map fun x => (x.run, x.kind != .empty) :=
      hp ▸ List.mem_map_of_mem (f := fun x : Slot => (x.run, x.kind != .empty)) hx
    obtain ⟨y, hy, e⟩ := List.mem_map.mp hmem
    obtain ⟨he1, he2⟩ := Prod.mk.inj e
    have hyk : y.kind ≠ .empty := bne_iff_ne.mp (he2.trans (bne_iff_ne.mpr hk))
    have := hslots y hy hyk
    unfold State.run? at this ⊢
    rwa [hr, ← he1]

/-- The run and the kind of every slot and the runs as before: the run table's relations too. -/
theorem State.runsKept.of_places (h : s.runsKept) (hr : t.runs = s.runs)
    (hp : (t.tracker.ring.map fun x => (x.run, x.kind)) = s.tracker.ring.map fun x => (x.run, x.kind)) : t.runsKept := by
  refine h.of_open hr ?_
  have hcount : ∀ u : State, (u.tracker.ring.map fun x => (x.run, x.kind != .empty)) =
      (u.tracker.ring.map fun x => (x.run, x.kind)).map fun p => (p.1, p.2 != .empty) := by
    intro u
    rw [List.map_map]
    rfl
  rw [hcount, hcount, hp]

/-- Slots leave the ring or cease to be open, and the drained runs are closed: the run table's relations hold after it. -/
theorem State.runsKept.of_closeDrained (h : s.runsKept) (hr : t.runs = s.runs)
    (hopen : ∀ q, t.openSlots q ≤ s.openSlots q)
    (hslots : ∀ x ∈ t.tracker.ring, x.kind ≠ .empty → ∃ y ∈ s.tracker.ring, y.kind ≠ .empty ∧ y.run = x.run) :
    t.closeDrained.runsKept := by
  obtain ⟨htab, hdrain, hhave⟩ := s.runsKept_iff.mp h
  have hf := closeIfDrained_keepsCurrent t.tracker.ring
  have hrec : t.closeDrained.runs.records = s.runs.records.map (Run.closeIfDrained t.tracker.ring) := by
    rw [State.closeDrained_runs, hr]
  refine (State.runsKept_iff _).mpr ⟨htab.of_map (by simp [hr]) hrec hf fun r hc c => ?_, fun r hm => ?_, fun x hx hk => ?_⟩
  · obtain ⟨ht, hs, -⟩ := r.closeIfDrained_tally t.tracker.ring
    rw [ht, hs]
    exact hc c
  · rw [hrec] at hm
    obtain ⟨q, hq, rfl⟩ := List.mem_map.mp hm
    rw [hf.seq]
    show _ ∧ (_ → t.openSlots q.seq = 0)
    have hd := hdrain q hq
    have hle := hopen q.seq
    unfold Run.closeIfDrained
    split
    · next hc =>
      obtain ⟨-, h0⟩ := Bool.and_eq_true_iff.mp hc
      exact ⟨nofun, fun _ => beq_iff_eq.mp h0⟩
    · next hc =>
      refine ⟨fun hst h0 => hc ?_, fun hst => by have := hd.2 hst; omega⟩
      have h0' : t.tracker.ring.countP (Slot.openIn q.seq) = 0 := h0
      simp [hst, h0']
  · obtain ⟨y, hy, hyk, hyr⟩ := hslots x hx hk
    rw [State.run?_map hf hrec, Option.isSome_map, ← hyr]
    exact hhave y hy hyk

end

end Sys2Proof.Machine


/-! PROOF. A slot's records between commands (R13, R30, R32, R50, R56, R82, R88, R99), and the ring after each arrival. -/

namespace Sys2Proof.Machine

/-! ## A sound slot -/

/-- What holds of a slot between commands, where the engine solves the piece with this tag. -/
structure Slot.Sound (solving : Option Nat) (x : Slot) : Prop where
  window : x.console.window = windowAt x.passed
  holder : x.console.holder.isSome → x.console.window = .open
  undecided : x.kind = .undecided → x.passed = []
  gw : Station.gw ∈ x.passed → Station.sd ∈ x.passed
  cm : Station.cm ∈ x.passed → Station.gw ∈ x.passed
  tr : Station.tr ∈ x.passed → Station.cm ∈ x.passed
  closed : Station.sd ∈ x.passed → x.scan.status ≠ .open
  solve : x.solve.isSome ↔ x.kind = .board ∧ x.scan.status ≠ .open
  handedOver : x.scan.handedOver = x.solve.isSome
  commit : x.commit.isSome ↔ x.kind = .board ∧ Station.cm ∈ x.passed
  status : ∀ r ∈ x.solve, (r.status = .closed ↔ Station.cm ∈ x.passed) ∧ (r.status = .solving ↔ solving = some x.tag)

/-- The tag of the piece being solved. -/
def State.solving (s : State) : Option Nat := s.solver.engine.map (·.tag)

theorem State.slotKept_iff (s : State) (x : Slot) : s.slotKept x ↔ x.Sound s.solving := by
  constructor
  · rintro ⟨h1, h2, h3, h4, h5, h6, h7, h8, h9, h10, h11⟩
    exact ⟨h1, h2, h3, h4, h5, h6, h7, h8, h9, h10, h11⟩
  · rintro ⟨h1, h2, h3, h4, h5, h6, h7, h8, h9, h10, h11⟩
    exact ⟨h1, h2, h3, h4, h5, h6, h7, h8, h9, h10, h11⟩

/-- Every slot is sound, and the piece being solved is in the ring. -/
theorem State.slotsKept_iff (s : State) :
    s.slotsKept ↔ (∀ x ∈ s.tracker.ring, x.Sound s.solving)
      ∧ ∀ tag, s.solving = some tag → ∃ x ∈ s.tracker.ring, x.tag = tag ∧ x.solve.isSome := by
  refine and_congr (forall₂_congr fun x _ => s.slotKept_iff x) ?_
  unfold State.solving
  cases s.solver.engine with
  | none => simp
  | some j => simp

theorem Slot.Sound.kind_board {e : Option Nat} {x : Slot} (h : x.Sound e) {c : CommitRecord} (hc : x.commit = some c) :
    x.kind = .board ∧ Station.cm ∈ x.passed := h.commit.mp (by simp [hc])

/-- A slot whose other records are as before, the engine at another piece. -/
theorem Slot.Sound.of_solving {e e' : Option Nat} {x : Slot} (h : x.Sound e) (he : e' = some x.tag ↔ e = some x.tag) :
    x.Sound e' :=
  { h with status := fun r hr => ⟨(h.status r hr).1, (h.status r hr).2.trans he.symm⟩ }

/-- A change of the commit record alone keeps a slot sound. -/
theorem Slot.Sound.setCommit {e : Option Nat} {x : Slot} (h : x.Sound e) (f : CommitRecord → CommitRecord) :
    (x.setCommit f).Sound e :=
  { h with commit := by simpa [Slot.setCommit] using h.commit }

/-! ## Closing a scan and handing over -/

/-- The hand-over: a new solve record where the scan of a BOARD slot is closed and none was made yet (R32, R50). -/
theorem Slot.handOver_eq (x : Slot) :
    x.handOver =
      { x with
        solve := if x.kind = .board ∧ x.scan.status ≠ .open ∧ x.scan.handedOver = false then some .new else x.solve
        scan := { x.scan with
          handedOver := x.scan.handedOver || decide (x.kind = .board ∧ x.scan.status ≠ .open) } } := by
  obtain ⟨tag, offset, kind, eye, run, synth, passed, ⟨cells, expected, last, status, dl, extent, part, np, handed⟩, solve, console,
    commit⟩ := x
  cases kind <;> cases status <;> cases handed <;> rfl

theorem Slot.flagProfile_eq (x : Slot) :
    x.flagProfile =
      x.setScan fun r =>
        { r with
          noProfile := r.noProfile || decide (x.kind = .board ∧ x.scan.status ≠ .open ∧ x.scan.extent = none) } := by
  obtain ⟨tag, offset, kind, eye, run, synth, passed, ⟨cells, expected, last, status, dl, extent, part, np, handed⟩, solve, console,
    commit⟩ := x
  cases kind <;> cases status <;> cases extent <;> cases np <;> rfl

/-- A scan closed (R29, R30, R32, R33). -/
theorem Slot.closeScan_eq (st : ScanStatus) (hst : st ≠ .open) (x : Slot) :
    x.closeScan st =
      { x with
        solve := if x.kind = .board ∧ x.scan.handedOver = false then some .new else x.solve
        scan := { x.scan with
          status := st
          extent := extentOf x.scan.cells
          scanPartial := x.scan.scanPartial || st == .closedPartial
          noProfile := x.scan.noProfile || decide (x.kind = .board ∧ extentOf x.scan.cells = none)
          handedOver := x.scan.handedOver || decide (x.kind = .board) } } := by
  unfold Slot.closeScan
  rw [Slot.flagProfile_eq, Slot.handOver_eq]
  simp [Slot.setScan, hst]

/-- A sound slot whose scan is open has no solve record, and so is not being solved. -/
theorem Slot.Sound.solve_none {e : Option Nat} {x : Slot} (h : x.Sound e) (ho : x.scan.status = .open) : x.solve = none := by
  have := mt h.solve.mp (fun hb => hb.2 ho)
  simpa using this

theorem Slot.Sound.cm_not_mem {e : Option Nat} {x : Slot} (h : x.Sound e) (hg : Station.gw ∉ x.passed) :
    Station.cm ∉ x.passed := fun hc => hg (h.cm hc)

theorem Slot.Sound.tr_not_mem {e : Option Nat} {x : Slot} (h : x.Sound e) (hg : Station.cm ∉ x.passed) :
    Station.tr ∉ x.passed := fun hc => hg (h.tr hc)

/-- The closing of an open scan keeps a slot sound that the engine is not at. -/
theorem Slot.Sound.closeScan {e : Option Nat} {x : Slot} (h : x.Sound e) (ho : x.scan.status = .open) (he : e ≠ some x.tag)
    {st : ScanStatus} (hst : st ≠ .open) : (x.closeScan st).Sound e := by
  have hs := h.solve_none ho
  have hh : x.scan.handedOver = false := by rw [h.handedOver, hs]; rfl
  have hcm : Station.cm ∉ x.passed := fun hc => h.closed (h.gw (h.cm hc)) ho
  rw [Slot.closeScan_eq st hst]
  refine { window := h.window, holder := h.holder, undecided := h.undecided, gw := h.gw, cm := h.cm, tr := h.tr,
           closed := fun _ => hst, solve := ?_, handedOver := ?_, commit := h.commit, status := fun r hr => ?_ }
  · by_cases hk : x.kind = .board <;> simp [hk, hs, hst, hh]
  · by_cases hk : x.kind = .board <;> simp [hk, hs, hh]
  · simp only [hs, Option.mem_def, Option.ite_none_right_eq_some, Option.some.injEq] at hr
    obtain ⟨-, rfl⟩ := hr
    exact ⟨⟨nofun, fun hc => absurd hc hcm⟩, ⟨nofun, fun h' => absurd h' he⟩⟩

/-! ## One station passed -/

/-- A station added to those passed (R13). -/
def Slot.pass (st : Station) (x : Slot) : Slot := { x with passed := x.passed ++ [st] }

@[simp] theorem Slot.mem_pass {st st' : Station} {x : Slot} : st' ∈ (x.pass st).passed ↔ st' ∈ x.passed ∨ st' = st := by
  simp [Slot.pass]

/-- A due slot announced: the station passed, then its owner told (R13, R14). -/
theorem State.arriveAt_of_due {s : State} {tag : Nat} {st : Station} {x : Slot} (hs : s.slot? tag = some x)
    (hd : s.geo.station st ≤ x.offset) (hp : st ∉ x.passed) :
    s.arriveAt tag st = (s.updateSlot tag (Slot.pass st)).announce st (x.pass st) := by
  unfold State.arriveAt
  rw [hs]
  exact if_pos ⟨hd, by simpa using hp⟩

theorem State.arriveAt_of_not_due {s : State} {tag : Nat} {st : Station}
    (h : ∀ x, s.slot? tag = some x → st ∉ x.passed → x.offset < s.geo.station st) : s.arriveAt tag st = s := by
  unfold State.arriveAt
  split
  · rfl
  · next x hx =>
    refine if_neg ?_
    rintro ⟨hd, hp⟩
    have := h x hx (by simpa using hp)
    omega

/-- Changes of one slot, one after the other. -/
theorem changeSlot_changeSlot (tag : Nat) {f g : Slot → Slot} (hf : ∀ x, (f x).tag = x.tag) (ring : List Slot) :
    changeSlot tag g (changeSlot tag f ring) = changeSlot tag (g ∘ f) ring := by
  unfold changeSlot
  rw [List.map_map]
  refine List.map_congr_left fun x _ => ?_
  by_cases h : x.tag = tag <;> simp [Function.comp, h, hf]

/-! ## SD -/

/-- The slot after its arrival at SD: its deadline passed, its scan closed (R30). -/
def Slot.atSD (x : Slot) : Slot := (x.pass .sd).deadline

@[simp] theorem Slot.pass_tag (st : Station) (x : Slot) : (x.pass st).tag = x.tag := rfl

theorem Slot.deadline_tag (x : Slot) : x.deadline.tag = x.tag := congrArg SlotKey.tag x.deadline_key

theorem State.arriveSD_ring (s : State) (x : Slot) :
    (s.arriveSD x).tracker.ring = changeSlot x.tag Slot.deadline s.tracker.ring := by
  unfold State.arriveSD
  dsimp only
  split
  · rw [State.raise_tracker]
    rfl
  · rfl

/-- What an arrival at SD leaves as it was, beside the ring: the solver, the consoles, the exchange, the runs. -/
theorem State.arriveSD_keeps (s : State) (x : Slot) :
    (s.arriveSD x).solver = s.solver ∧ (s.arriveSD x).consoles = s.consoles ∧ (s.arriveSD x).saw = s.saw
      ∧ (s.arriveSD x).scan.heads = missHeads x.scan s.scan.heads := by
  unfold State.arriveSD
  dsimp only
  split
  · refine ⟨?_, ?_, ?_, ?_⟩ <;> simp
  · exact ⟨rfl, rfl, rfl, rfl⟩

/-- The deadline and the station passed act on different records. -/
theorem Slot.atSD_eq (x : Slot) : x.atSD = x.deadline.pass .sd := by
  unfold Slot.atSD Slot.deadline
  by_cases ho : x.scan.status = .open
  · have ho' : (x.pass .sd).scan.status = .open := ho
    simp only [ho, ho', beq_self_eq_true, if_true]
    rw [Slot.closeScan_eq _ (by decide), Slot.closeScan_eq _ (by decide)]
    rfl
  · have ho' : ¬(x.pass .sd).scan.status = .open := ho
    simp only [beq_iff_eq, ho, ho', if_false]
    rfl

/-- The deadline closes an open scan, and keeps a slot sound. -/
theorem Slot.Sound.deadline {e : Option Nat} {x : Slot} (h : x.Sound e) (he : x.solve = none → e ≠ some x.tag) :
    x.deadline.Sound e ∧ x.deadline.scan.status ≠ .open := by
  have hmark : (x.setScan fun r => { r with deadlinePassed := true }).Sound e := { h with }
  unfold Slot.deadline
  by_cases ho : x.scan.status = .open
  · rw [ho]
    have hc := hmark.closeScan (st := .closedPartial) ho (he (h.solve_none ho)) nofun
    refine ⟨hc, ?_⟩
    show ((x.setScan _).closeScan .closedPartial).scan.status ≠ .open
    rw [Slot.closeScan_eq _ (by decide)]
    nofun
  · have hif : ¬(x.scan.status == ScanStatus.open) = true := by simpa using ho
    simp only [hif]
    exact ⟨hmark, ho⟩

/-- A slot announced at SD with its scan closed, or at TR after CM, stays sound. -/
theorem Slot.Sound.pass {e : Option Nat} {x : Slot} (h : x.Sound e) (hk : x.kind ≠ .undecided) {st : Station}
    (hst : (st = .sd ∧ x.scan.status ≠ .open) ∨ (st = .tr ∧ Station.cm ∈ x.passed)) : (x.pass st).Sound e := by
  have hcm : Station.cm ∈ x.passed ++ [st] ↔ Station.cm ∈ x.passed := by
    rcases hst with ⟨rfl, -⟩ | ⟨rfl, -⟩ <;> simp
  have hgw : Station.gw ∈ x.passed ++ [st] ↔ Station.gw ∈ x.passed := by
    rcases hst with ⟨rfl, -⟩ | ⟨rfl, -⟩ <;> simp
  have hwin : windowAt (x.passed ++ [st]) = windowAt x.passed := by simp only [windowAt, hcm, hgw]
  have hclosed : Station.sd ∈ x.passed ++ [st] → x.scan.status ≠ .open := by
    rcases hst with ⟨rfl, ho⟩ | ⟨rfl, hc⟩
    · exact fun _ => ho
    · exact fun _ => h.closed (h.gw (h.cm hc))
  have htr : Station.tr ∈ x.passed ++ [st] → Station.cm ∈ x.passed ++ [st] := by
    rw [hcm]
    rcases hst with ⟨rfl, -⟩ | ⟨rfl, hc⟩
    · simpa using h.tr
    · exact fun _ => hc
  exact
    { h with
      window := h.window.trans hwin.symm
      undecided := fun h' => absurd h' hk
      gw := fun h' => List.mem_append_left _ (h.gw (hgw.mp h'))
      cm := fun h' => hgw.mpr (h.cm (hcm.mp h'))
      tr := htr
      closed := hclosed
      commit := h.commit.trans (and_congr Iff.rfl hcm.symm)
      status := fun r hr => ⟨(h.status r hr).1.trans hcm.symm, (h.status r hr).2⟩ }

/-- A sound slot after its arrival at SD. -/
theorem Slot.Sound.atSD {e : Option Nat} {x : Slot} (h : x.Sound e) (hk : x.kind ≠ .undecided)
    (he : x.solve = none → e ≠ some x.tag) : x.atSD.Sound e := by
  obtain ⟨hd, ho⟩ := h.deadline he
  rw [Slot.atSD_eq]
  exact hd.pass (fun h' => hk ((congrArg SlotKey.kind x.deadline_key).symm.trans h')) (.inl ⟨rfl, ho⟩)

/-! ## GW -/

/-- The slot after its arrival at GW: its window OPEN (R82). -/
def Slot.atGW (x : Slot) : Slot := { x.pass .gw with console := { x.console with window := .open } }

theorem State.arriveGW_ring (s : State) (x : Slot) :
    (s.arriveGW x).tracker.ring =
      changeSlot x.tag (fun y => { y with console := { y.console with window := .open } }) s.tracker.ring := by
  unfold State.arriveGW
  dsimp only
  split <;> rfl

/-- What an arrival at GW leaves as it was; the consoles subscribed are offered the piece (R83). -/
theorem State.arriveGW_keeps (s : State) (x : Slot) :
    (s.arriveGW x).solver = s.solver ∧ (s.arriveGW x).saw = s.saw ∧ (s.arriveGW x).scan = s.scan ∧ (s.arriveGW x).ctl = s.ctl
      ∧ (s.arriveGW x).consoles =
          if x.kind = .board then s.consoles.map fun c => if c.subscribed then c.offerSlot x else c else s.consoles := by
  unfold State.arriveGW
  dsimp only
  split
  · next hk => exact ⟨rfl, rfl, rfl, rfl, (if_pos (by simpa using hk)).symm⟩
  · next hk => exact ⟨rfl, rfl, rfl, rfl, (if_neg (by simpa using hk)).symm⟩

theorem Slot.Sound.atGW {e : Option Nat} {x : Slot} (h : x.Sound e) (hk : x.kind ≠ .undecided)
    (hsd : Station.sd ∈ x.passed) (hgw : Station.gw ∉ x.passed) : x.atGW.Sound e := by
  have hcm := h.cm_not_mem hgw
  have hcm' : Station.cm ∈ x.passed ++ [Station.gw] ↔ Station.cm ∈ x.passed := by simp
  exact
    { h with
      window := by simp [Slot.atGW, Slot.pass, windowAt, hcm]
      holder := fun _ => rfl
      undecided := fun h' => absurd h' hk
      gw := fun _ => List.mem_append_left _ hsd
      cm := fun h' => absurd (hcm'.mp h') hcm
      tr := fun h' => absurd (by simpa [Slot.atGW, Slot.pass] using h') (h.tr_not_mem hcm)
      closed := fun _ => h.closed hsd
      commit := h.commit.trans (and_congr Iff.rfl hcm'.symm)
      status := fun r hr => ⟨(h.status r hr).1.trans hcm'.symm, (h.status r hr).2⟩ }

/-! ## CM -/

/-- The result of a module in flight set at the piece of an exchange that ends (R112). -/
def Slot.abandonedBy (ex : Option Exchange) (x : Slot) : Slot :=
  match ex with
  | none => x
  | some ex =>
    if x.tag = ex.tag then x.setCommit fun c => { c with results := c.results.set ex.module .abandoned } else x

theorem State.abandonExchange_ring (s : State) :
    s.abandonExchange.tracker.ring = s.tracker.ring.map (Slot.abandonedBy s.saw.exchange) := by
  rw [s.abandonExchange_eq.1]
  cases s.saw.exchange with
  | none => exact (List.map_id _).symm
  | some ex =>
    refine List.map_congr_left fun x _ => ?_
    simp only [Slot.abandonedBy, beq_iff_eq]

/-- An abandoned exchange changes the commit record of its piece alone. -/
theorem Slot.abandonedBy_eq (ex : Option Exchange) (x : Slot) :
    ∃ f : Bank 2 ModuleResult → Bank 2 ModuleResult, x.abandonedBy ex = x.setCommit fun c => { c with results := f c.results } := by
  have hid : x = x.setCommit fun c => { c with results := id c.results } := by simp [Slot.setCommit]
  cases ex with
  | none => exact ⟨id, hid⟩
  | some ex =>
    by_cases h : x.tag = ex.tag
    · exact ⟨fun r => r.set ex.module .abandoned, if_pos h⟩
    · exact ⟨id, (if_neg h).trans hid⟩

@[simp] theorem Slot.abandonedBy_tag (ex : Option Exchange) (x : Slot) : (x.abandonedBy ex).tag = x.tag := by
  obtain ⟨f, h⟩ := x.abandonedBy_eq ex
  rw [h]
  rfl

theorem Slot.Sound.abandonedBy {e : Option Nat} {x : Slot} (h : x.Sound e) (ex : Option Exchange) : (x.abandonedBy ex).Sound e := by
  obtain ⟨f, hf⟩ := x.abandonedBy_eq ex
  rw [hf]
  exact h.setCommit _

/-- All solving ended and the decision fixed (R56, R99). -/
def Slot.committed (c : CommitRecord) (x : Slot) : Slot := { x with solve := x.solve.map SolveRecord.close, commit := some c }

/-- The window closed and the claim ended (R82, R88). -/
def Slot.withdrawn (x : Slot) : Slot := { x with console := { x.console with window := .closed, holder := none } }

theorem State.raiseCommit_keeps (s : State) (x : Slot) :
    (s.raiseCommit x).tracker = s.tracker ∧ (s.raiseCommit x).solver = s.solver ∧ (s.raiseCommit x).saw = s.saw
      ∧ (s.raiseCommit x).consoles = s.consoles ∧ (s.raiseCommit x).scan = s.scan := by
  unfold State.raiseCommit
  split
  · refine ⟨?_, ?_, ?_, ?_, ?_⟩ <;> simp
  · split
    · refine ⟨?_, ?_, ?_, ?_, ?_⟩ <;> simp
    · exact ⟨rfl, rfl, rfl, rfl, rfl⟩

/-- The ring after a BOARD piece's commit: the exchange in flight abandoned, its own record made. -/
theorem State.commitPiece_ring (s : State) (x : Slot) :
    (s.commitPiece x).tracker.ring =
      s.tracker.ring.map fun y =>
        (if y.tag = x.tag then { y with commit := some (s.decision x) } else y).abandonedBy s.saw.exchange := by
  obtain ⟨htr, -, hsaw, -⟩ :=
    (s.updateSlot x.tag fun y => { y with commit := some (s.decision x) }).raiseCommit_keeps x
  unfold State.commitPiece
  dsimp only
  rw [State.beginModule_tracker, State.abandonExchange_ring, htr, hsaw]
  show (changeSlot x.tag _ s.tracker.ring).map _ = _
  rw [changeSlot, List.map_map]
  refine List.map_congr_left fun y _ => ?_
  simp only [Function.comp, beq_iff_eq]
  rfl

theorem State.commitPiece_keeps (s : State) (x : Slot) :
    (s.commitPiece x).solver = s.solver ∧ (s.commitPiece x).consoles = s.consoles ∧ (s.commitPiece x).scan = s.scan := by
  obtain ⟨-, h1, -, h2, h3⟩ :=
    (s.updateSlot x.tag fun y => { y with commit := some (s.decision x) }).raiseCommit_keeps x
  unfold State.commitPiece
  refine ⟨?_, ?_, ?_⟩ <;> simp [h1, h2, h3]

theorem State.closeWindow_ring (s : State) (x : Slot) :
    (s.closeWindow x).tracker.ring = changeSlot x.tag Slot.withdrawn s.tracker.ring := by
  unfold State.closeWindow
  dsimp only
  split <;> rfl

/-- What the closing of a window leaves as it was; a BOARD piece is withdrawn at the consoles subscribed (R84). -/
theorem State.closeWindow_keeps (s : State) (x : Slot) :
    (s.closeWindow x).solver = s.solver ∧ (s.closeWindow x).saw = s.saw ∧ (s.closeWindow x).scan = s.scan
      ∧ (s.closeWindow x).ctl = s.ctl
      ∧ (s.closeWindow x).consoles =
          if x.kind = .board then
            s.consoles.map fun c => if c.subscribed then c.withdraw x.tag (withdrawFrame x.tag .commit) else c
          else s.consoles := by
  unfold State.closeWindow
  dsimp only
  split
  · next hk => exact ⟨rfl, rfl, rfl, rfl, (if_pos (by simpa using hk)).symm⟩
  · next hk => exact ⟨rfl, rfl, rfl, rfl, (if_neg (by simpa using hk)).symm⟩

theorem State.endSolving_decision (s : State) (x : Slot) : (s.endSolving x).decision x = s.decision x := rfl

/-- The ring after a BOARD piece's arrival at CM (R14, R56, R88, R99, R112). -/
theorem State.arriveCM_ring {s : State} {x : Slot} (hk : x.kind = .board) :
    (s.arriveCM x).tracker.ring =
      s.tracker.ring.map fun y =>
        if y.tag = x.tag then ((y.committed (s.decision x)).abandonedBy s.saw.exchange).withdrawn
        else y.abandonedBy s.saw.exchange := by
  unfold State.arriveCM
  rw [State.judge_tracker, State.closeWindow_ring, if_pos (by simpa using hk), State.commitPiece_ring, changeSlot]
  show ((changeSlot x.tag _ s.tracker.ring).map _).map _ = _
  rw [changeSlot, List.map_map, List.map_map, State.endSolving_decision]
  refine List.map_congr_left fun y _ => ?_
  by_cases h : y.tag = x.tag
  · have h1 : (y.setSolve SolveRecord.close).tag = x.tag := h
    have h2 : (({ y.setSolve SolveRecord.close with commit := some (s.decision x) } : Slot).abandonedBy
        (s.endSolving x).saw.exchange).tag = x.tag := by rw [Slot.abandonedBy_tag]; exact h
    have hb : (y.tag == x.tag) = true := by simpa using h
    simp only [Function.comp, if_pos hb]
    rw [if_pos h1, if_pos (beq_iff_eq.mpr h2), if_pos h]
    rfl
  · have h2 : ¬(y.abandonedBy (s.endSolving x).saw.exchange).tag = x.tag := by rwa [Slot.abandonedBy_tag]
    simp only [Function.comp, h, beq_iff_eq, if_false, h2]
    rfl

/-- The ring after another slot's arrival at CM: its window closed (R82). -/
theorem State.arriveCM_ring_of_not_board {s : State} {x : Slot} (hk : x.kind ≠ .board) :
    (s.arriveCM x).tracker.ring = changeSlot x.tag Slot.withdrawn s.tracker.ring := by
  unfold State.arriveCM
  rw [State.judge_tracker, State.closeWindow_ring, if_neg (by simpa using hk)]

theorem State.arriveCM_solving (s : State) (x : Slot) :
    (s.arriveCM x).solving = if x.kind = .board ∧ s.solving = some x.tag then none else s.solving := by
  unfold State.arriveCM State.solving
  rw [State.judge_solver, ((State.closeWindow_keeps _ x).1)]
  by_cases hk : x.kind = .board
  · rw [if_pos (by simpa using hk), ((State.commitPiece_keeps _ x).1)]
    show ((if ((s.solver.engine.map fun j => j.tag == x.tag).getD false) then none else s.solver.engine).map _) = _
    cases s.solver.engine with
    | none => simp
    | some j => by_cases h : j.tag = x.tag <;> simp [hk, h]
  · rw [if_neg (by simpa using hk)]
    simp [hk]

/-- A sound BOARD piece after its arrival at CM. -/
theorem Slot.Sound.atCM {e : Option Nat} {x : Slot} (h : x.Sound e) (hk : x.kind = .board) (hgw : Station.gw ∈ x.passed)
    (c : CommitRecord) (ex : Option Exchange) {e' : Option Nat} (he : e' ≠ some x.tag) :
    ((((x.pass .cm).committed c).abandonedBy ex).withdrawn).Sound e' := by
  obtain ⟨f, hf⟩ := ((x.pass .cm).committed c).abandonedBy_eq ex
  rw [hf]
  have hcm : Station.cm ∈ x.passed ++ [Station.cm] := by simp
  refine { window := by simp [Slot.withdrawn, Slot.setCommit, Slot.committed, Slot.pass, windowAt], holder := nofun,
           undecided := fun h' => ?_, gw := fun _ => List.mem_append_left _ (h.gw hgw), cm := fun _ => List.mem_append_left _ hgw,
           tr := fun _ => hcm, closed := fun _ => h.closed (h.gw hgw), solve := ?_, handedOver := ?_,
           commit := ⟨fun _ => ⟨hk, hcm⟩, fun _ => rfl⟩, status := fun r hr => ?_ }
  · exact absurd (hk.symm.trans h') nofun
  · have := h.solve
    simpa [Slot.withdrawn, Slot.setCommit, Slot.committed, Slot.pass] using this
  · have := h.handedOver
    simpa [Slot.withdrawn, Slot.setCommit, Slot.committed, Slot.pass] using this
  · have hr' : r ∈ x.solve.map SolveRecord.close := hr
    obtain ⟨q, -, rfl⟩ := Option.mem_map.mp hr'
    exact ⟨⟨fun _ => hcm, fun _ => rfl⟩, ⟨nofun, fun h' => absurd h' he⟩⟩

/-- A sound EMPTY slot after its arrival at CM. -/
theorem Slot.Sound.atCM_of_not_board {e : Option Nat} {x : Slot} (h : x.Sound e) (hk : x.kind ≠ .undecided)
    (hb : x.kind ≠ .board) (hgw : Station.gw ∈ x.passed) : ((x.pass .cm).withdrawn).Sound e := by
  have hs : x.solve = none := by
    have := mt h.solve.mp fun h' => hb h'.1
    simpa using this
  exact
    { h with
      window := by simp [Slot.withdrawn, Slot.pass, windowAt]
      holder := nofun
      undecided := fun h' => absurd h' hk
      gw := fun _ => List.mem_append_left _ (h.gw hgw)
      cm := fun _ => List.mem_append_left _ hgw
      tr := fun _ => by simp [Slot.withdrawn, Slot.pass]
      closed := fun _ => h.closed (h.gw hgw)
      commit := ⟨fun h' => absurd (h.commit.mp h').1 hb, fun h' => absurd h'.1 hb⟩
      status := fun r hr => by
        have hr' : r ∈ x.solve := hr
        simp [hs] at hr' }

/-! ## TR -/

/-- The exchange that ends with a piece's arrival at TR: its own (R112). -/
def State.exchangeOf (s : State) (tag : Nat) : Option Exchange :=
  if s.saw.exchange.map (·.tag) = some tag then s.saw.exchange else none

theorem State.endExchangeOf_keeps (s : State) (tag : Nat) :
    (s.endExchangeOf tag).tracker.ring = s.tracker.ring.map (Slot.abandonedBy (s.exchangeOf tag))
      ∧ (s.endExchangeOf tag).saw = { s.saw with exchange := if s.saw.exchange.map (·.tag) = some tag then none else s.saw.exchange }
      ∧ (s.endExchangeOf tag).solver = s.solver ∧ (s.endExchangeOf tag).consoles = s.consoles := by
  unfold State.endExchangeOf State.exchangeOf
  split
  · next h =>
    have h' : s.saw.exchange.map (·.tag) = some tag := by simpa using h
    rw [if_pos h', if_pos h']
    exact ⟨s.abandonExchange_ring, s.abandonExchange_saw, by simp, by simp⟩
  · next h =>
    have h' : ¬s.saw.exchange.map (·.tag) = some tag := by simpa using h
    rw [if_neg h', if_neg h']
    exact ⟨(List.map_id _).symm, rfl, rfl, rfl⟩

/-- The ring, the exchange and the solver after the trim station has judged a BOARD piece (R112, R113). -/
theorem State.trimPiece_keeps (s : State) (tag : Nat) :
    (∃ missed : Bool, (s.trimPiece tag).tracker.ring =
        changeSlot tag (·.setCommit (CommitRecord.trim missed)) (s.tracker.ring.map (Slot.abandonedBy (s.exchangeOf tag)))
        ∨ (s.trimPiece tag).tracker.ring = s.tracker.ring.map (Slot.abandonedBy (s.exchangeOf tag)))
      ∧ (s.trimPiece tag).saw = { s.saw with exchange := if s.saw.exchange.map (·.tag) = some tag then none else s.saw.exchange }
      ∧ (s.trimPiece tag).solver = s.solver ∧ (s.trimPiece tag).consoles = s.consoles := by
  obtain ⟨hring, hsaw, hsol, hcon⟩ := s.endExchangeOf_keeps tag
  rw [State.trimPiece_eq]
  split
  · exact ⟨⟨false, .inr hring⟩, hsaw, hsol, hcon⟩
  · next c hc =>
    dsimp only
    refine ⟨⟨(s.endExchangeOf tag).exchangeIncomplete c, .inl ?_⟩, ?_⟩
    · rw [← hring]
      split
      · rw [State.raise_tracker]
        rfl
      · rfl
    · split
      · rw [State.raise_saw, State.raise_solver, State.raise_consoles]
        exact ⟨hsaw, hsol, hcon⟩
      · exact ⟨hsaw, hsol, hcon⟩

end Sys2Proof.Machine


/-! PROOF. What holds between the arrivals of an advance, and that every arrival keeps it. -/

namespace Sys2Proof.Machine

/-! ## Queues -/

/-- The send queues and the report queue stay within their bounds (R80, R167). -/
structure State.QueuesFrame (s t : State) : Prop where
  consoles : ∀ c : Fin 4, (s.consoles.get c).offersWaiting ≤ 32 →
    (t.consoles.get c).repliesWaiting = (s.consoles.get c).repliesWaiting ∧ (t.consoles.get c).offersWaiting ≤ 32
  reports : t.ctl.reports.length ≤ max s.ctl.reports.length 64

namespace State.QueuesFrame
variable {s t u : State}

@[refl] theorem refl (s : State) : s.QueuesFrame s := ⟨fun _ h => ⟨rfl, h⟩, Nat.le_max_left ..⟩

@[trans] theorem trans (h : s.QueuesFrame t) (k : t.QueuesFrame u) : s.QueuesFrame u where
  consoles c hc := by
    obtain ⟨h1, h2⟩ := h.consoles c hc
    obtain ⟨k1, k2⟩ := k.consoles c h2
    exact ⟨k1.trans h1, k2⟩
  reports := by
    have h1 := h.reports
    have h2 := k.reports
    omega

theorem after (k : t.QueuesFrame u) (h : s.QueuesFrame t) : s.QueuesFrame u := h.trans k

theorem of_eq (hc : t.consoles = s.consoles) (hr : t.ctl.reports = s.ctl.reports) : s.QueuesFrame t :=
  ⟨fun c h => by rw [hc]; exact ⟨rfl, h⟩, by rw [hr]; exact Nat.le_max_left ..⟩

theorem raise (s : State) (x : Cause) : s.QueuesFrame (s.raise x) :=
  ⟨fun c h => by simpa using h, (s.raise_port x).2.2.2.2.2⟩

theorem enter (s : State) (seq : Nat) (l : List (Counter × Nat)) : s.QueuesFrame (s.enter seq l) :=
  ⟨fun c h => by simpa using h, (s.enter_port seq l).2.2.2.2.2⟩

theorem report (s : State) (k : Byte) (p : List Byte) : s.QueuesFrame (s.report k p) :=
  ⟨fun _ h => ⟨rfl, h⟩, (s.ctl.report_keeps k p).2.2.2.2.2.2⟩

/-- A frame offered to the consoles subscribed keeps the bounds where it does so at each. -/
theorem tellSubscribers (s : State) {f : Console → Console}
    (hf : ∀ c : Console, c.offersWaiting ≤ 32 → (f c).repliesWaiting = c.repliesWaiting ∧ (f c).offersWaiting ≤ 32) :
    s.QueuesFrame (s.tellSubscribers f) where
  consoles c h := by
    show ((s.consoles.map fun c => if c.subscribed then f c else c).get c).repliesWaiting = _ ∧
      ((s.consoles.map fun c => if c.subscribed then f c else c).get c).offersWaiting ≤ 32
    rw [Bank.get_map]
    split
    · exact hf _ h
    · exact ⟨rfl, h⟩
  reports := Nat.le_max_left ..

end State.QueuesFrame

theorem Console.offerSlot_counts (x : Slot) {c : Console} (h : c.offersWaiting ≤ 32) :
    (c.offerSlot x).repliesWaiting = c.repliesWaiting ∧ (c.offerSlot x).offersWaiting ≤ 32 := by
  unfold Console.offerSlot
  split
  · exact Console.propose_counts _ _ h
  · exact ⟨rfl, h⟩

namespace State.QueuesFrame

theorem propose (s : State) (x : Slot) : s.QueuesFrame (s.propose x) :=
  tellSubscribers s fun _ h => Console.offerSlot_counts x h

theorem withdraw (s : State) (tag : Nat) (r : WithdrawReason) : s.QueuesFrame (s.withdraw tag r) :=
  tellSubscribers s fun _ h =>
    have hc := Console.withdraw_counts tag (withdrawFrame tag r) h
    ⟨hc.1, hc.2.1⟩

theorem arriveSD (s : State) (x : Slot) : s.QueuesFrame (s.arriveSD x) := by
  unfold State.arriveSD
  dsimp only
  split
  · exact (raise _ _).after (of_eq rfl rfl)
  · exact of_eq rfl rfl

theorem arriveGW (s : State) (x : Slot) : s.QueuesFrame (s.arriveGW x) := by
  have h0 : s.QueuesFrame (s.updateSlot x.tag fun y => { y with console := { y.console with window := .open } }) :=
    of_eq rfl rfl
  unfold State.arriveGW
  dsimp only
  split
  · exact ((propose _ x).after h0).trans (of_eq rfl rfl)
  · exact of_eq rfl rfl

theorem raiseCommit (s : State) (x : Slot) : s.QueuesFrame (s.raiseCommit x) := by
  unfold State.raiseCommit
  split
  · exact raise _ _
  · split
    · exact raise _ _
    · rfl

theorem commitPiece (s : State) (x : Slot) : s.QueuesFrame (s.commitPiece x) := by
  have h0 : s.QueuesFrame (s.updateSlot x.tag fun y => { y with commit := some (s.decision x) }) := of_eq rfl rfl
  have h1 := (raiseCommit _ x).after h0
  unfold State.commitPiece
  exact h1.trans (of_eq (by simp) (by simp))

theorem closeWindow (s : State) (x : Slot) : s.QueuesFrame (s.closeWindow x) := by
  have h0 : s.QueuesFrame (s.updateSlot x.tag Slot.withdrawn) := of_eq rfl rfl
  unfold State.closeWindow
  dsimp only
  split
  · exact (withdraw _ x.tag .commit).after h0
  · exact h0

theorem arriveCM (s : State) (x : Slot) : s.QueuesFrame (s.arriveCM x) := by
  have h0 : s.QueuesFrame (s.endSolving x) := of_eq rfl rfl
  have h1 : s.QueuesFrame (if x.kind == .board then (s.endSolving x).commitPiece x else s) := by
    split
    · exact (commitPiece _ x).after h0
    · rfl
  exact ((closeWindow _ x).after h1).trans (of_eq rfl rfl)

theorem trimPiece (s : State) (tag : Nat) : s.QueuesFrame (s.trimPiece tag) := by
  have h : s.QueuesFrame (s.endExchangeOf tag) := by
    unfold State.endExchangeOf
    split
    · exact of_eq (by simp) (by simp)
    · rfl
  rw [State.trimPiece_eq]
  split
  · exact h
  · dsimp only
    split
    · exact (raise _ _).after (h.trans (of_eq rfl rfl))
    · exact h.trans (of_eq rfl rfl)

theorem arriveTR (s : State) (x : Slot) : s.QueuesFrame (s.arriveTR x) := by
  have h : s.QueuesFrame (s.pulse .fire) := of_eq rfl rfl
  unfold State.arriveTR
  dsimp only
  split
  · exact (trimPiece _ _).after h
  · exact h

theorem exited (s : State) (x : Slot) : s.QueuesFrame (s.exited x) := by
  unfold State.exited State.exitPiece
  split
  · split
    · exact (report _ _ _).after (enter _ _ _)
    · rfl
  · rfl

theorem arriveEX (s : State) (x : Slot) : s.QueuesFrame (s.arriveEX x) :=
  (exited s x).trans (of_eq rfl rfl)

theorem announce (s : State) (st : Station) (x : Slot) : s.QueuesFrame (s.announce st x) := by
  cases st with
  | sd => exact arriveSD s x
  | gw => exact arriveGW s x
  | cm => exact arriveCM s x
  | tr => exact arriveTR s x
  | ex => exact arriveEX s x

theorem arriveAt (s : State) (tag : Nat) (st : Station) : s.QueuesFrame (s.arriveAt tag st) := by
  unfold State.arriveAt
  split
  · rfl
  · split
    · exact (announce _ _ _).after (of_eq rfl rfl : s.QueuesFrame (s.updateSlot tag _))
    · rfl

end State.QueuesFrame

/-- The queues' bounds along the line, where the replies, the request in process and the Lane are as before. -/
theorem State.queuesKept.of_line {s t : State} (h : s.queuesKept) (hq : s.QueuesFrame t) (hl : s.LineFrame t) : t.queuesKept := by
  obtain ⟨hrep, hans, hcon, hlane, hcount⟩ := h
  have hr := hq.reports
  refine ⟨by omega, by rw [hl.replies, hl.inProcess]; exact hans, fun c => ?_, by rw [hl.lane]; exact hlane, by
    rw [hl.lane]; exact hcount⟩
  obtain ⟨h1, h2⟩ := hq.consoles c (hcon c).2
  exact ⟨h1 ▸ (hcon c).1, h2⟩

/-! ## Rings changed slot by slot -/

section
variable {s t : State} {g : Slot → Slot}

theorem State.slotsKept.of_map (h : s.slotsKept) (hr : t.tracker.ring = s.tracker.ring.map g)
    (hg : ∀ x ∈ s.tracker.ring, (g x).Sound t.solving) (hs : ∀ tag, t.solving = some tag → s.solving = some tag)
    (hk : ∀ x ∈ s.tracker.ring, (g x).tag = x.tag ∧ (x.solve.isSome → (g x).solve.isSome)) : t.slotsKept := by
  obtain ⟨-, hin⟩ := s.slotsKept_iff.mp h
  refine t.slotsKept_iff.mpr ⟨fun y hy => ?_, fun tag ht => ?_⟩
  · rw [hr] at hy
    obtain ⟨x, hx, rfl⟩ := List.mem_map.mp hy
    exact hg x hx
  · obtain ⟨x, hx, htag, hsol⟩ := hin tag (hs tag ht)
    obtain ⟨h1, h2⟩ := hk x hx
    exact ⟨g x, hr ▸ List.mem_map_of_mem hx, h1.trans htag, h2 hsol⟩

/-- The exchange in flight is one before, and its piece still has its record and is between CM and TR. -/
theorem State.exchangeKept.of_map (h : s.exchangeKept) (hr : t.tracker.ring = s.tracker.ring.map g)
    (he : ∀ ex ∈ t.saw.exchange, ∃ ex' ∈ s.saw.exchange, ex'.tag = ex.tag)
    (hk : ∀ x ∈ s.tracker.ring, ∀ ex ∈ t.saw.exchange, x.tag = ex.tag → x.commit.isSome → Station.cm ∈ x.passed →
      Station.tr ∉ x.passed →
      (g x).tag = x.tag ∧ (g x).commit.isSome ∧ Station.cm ∈ (g x).passed ∧ Station.tr ∉ (g x).passed) : t.exchangeKept := by
  intro ex hex
  obtain ⟨ex', hex', htag⟩ := he ex hex
  obtain ⟨x, hx, hxt, hc, hcm, htr⟩ := h ex' hex'
  obtain ⟨h1, h2, h3, h4⟩ := hk x hx ex hex (hxt.trans htag) hc hcm htr
  exact ⟨g x, hr ▸ List.mem_map_of_mem hx, h1.trans (hxt.trans htag), h2, h3, h4⟩

/-- The claims of a console by the holders of the slots. -/
theorem State.claims_length (s : State) (c : Fin 4) :
    (s.claims c).length = s.tracker.ring.countP fun x => x.console.holder == some c := by
  rw [State.claims, List.length_map, List.countP_eq_length_filter]

/-- No claim is added: each slot's holder is as before or none. -/
theorem State.claimsKept.of_map (h : s.claimsKept) (hr : t.tracker.ring = s.tracker.ring.map g)
    (hh : ∀ x ∈ s.tracker.ring, (g x).console.holder = x.console.holder ∨ (g x).console.holder = none) : t.claimsKept := by
  intro c
  have hs := h c
  rw [State.claims_length] at hs ⊢
  rw [hr, List.countP_map]
  refine Nat.le_trans (List.countP_mono_left fun x hx hc => ?_) hs
  rcases hh x hx with e | e
  · simpa [Function.comp, e] using hc
  · simp [Function.comp, e] at hc

end

/-! ## Between arrivals -/

/-- What holds between the arrivals of an advance: every kind is fixed, and all but the ring's order and its youngest slot is as
between commands. -/
structure State.Moving (s : State) : Prop where
  apart : s.RingApart
  decided : ∀ x ∈ s.tracker.ring, x.kind ≠ .undecided
  slots : s.slotsKept
  exchange : s.exchangeKept
  claims : s.claimsKept
  queues : s.queuesKept
  runs : s.runsKept

/-- The station before a station (R15). -/
def Station.before : Station → Option Station
  | .sd => none
  | .gw => some .sd
  | .cm => some .gw
  | .tr => some .cm
  | .ex => some .tr

/-- The slot with a tag, where it has come to a station, was announced at the one before. -/
def State.inOrder (s : State) (tag : Nat) (st : Station) : Prop :=
  ∀ x ∈ s.tracker.ring, x.tag = tag → s.geo.station st ≤ x.offset → ∀ p ∈ st.before, p ∈ x.passed

section
variable {s : State} {tag : Nat} {x : Slot}

/-- Where every slot's kind is fixed, arrivals before EX keep the kinds. -/
theorem State.Moving.decided_arriveAt (h : s.Moving) (tag : Nat) (st : Station) :
    ∀ y ∈ (s.arriveAt tag st).tracker.ring, y.kind ≠ .undecided := by
  intro y hy
  by_cases hst : st = .ex
  · subst hst
    rw [State.arriveAt_ex_ring h.apart.tags h.apart.inLine] at hy
    exact h.decided y (List.mem_of_mem_filter hy)
  · have hk : y.key ∈ (s.arriveAt tag st).keys := List.mem_map_of_mem hy
    rw [(State.arriveAt_keys h.apart.tags tag hst).1] at hk
    obtain ⟨k, hk, e⟩ := List.mem_map.mp hk
    obtain ⟨z, hz, rfl⟩ := List.mem_map.mp hk
    have hz' : (if z.key.tag = tag then z.key.arrive s.geo st else z.key).kind = z.kind := by
      split
      · rw [SlotKey.arrive_kind]
        rfl
      · rfl
    have hkind : y.kind = z.kind := (congrArg SlotKey.kind e).symm.trans hz'
    rw [hkind]
    exact h.decided z hz

theorem State.Moving.runs_arriveAt (h : s.Moving) (tag : Nat) {st : Station} (hst : st ≠ .ex) : (s.arriveAt tag st).runsKept := by
  obtain ⟨hk, hr⟩ := State.arriveAt_keys h.apart.tags tag hst
  refine h.runs.of_places hr ?_
  have hkey : ∀ u : State, (u.tracker.ring.map fun x => (x.run, x.kind)) = u.keys.map fun k => (k.run, k.kind) := by
    intro u
    rw [State.keys, List.map_map]
    rfl
  rw [hkey, hkey, hk, List.map_map]
  refine List.map_congr_left fun k _ => ?_
  simp only [Function.comp]
  split <;> simp

/-- What an arrival before EX has to be shown to keep. -/
theorem State.Moving.of_arriveAt (h : s.Moving) {st : Station} (hst : st ≠ .ex) (hslots : (s.arriveAt tag st).slotsKept)
    (hex : (s.arriveAt tag st).exchangeKept) (hcl : (s.arriveAt tag st).claimsKept) : (s.arriveAt tag st).Moving where
  apart := h.apart.arriveAt tag st
  decided := h.decided_arriveAt tag st
  slots := hslots
  exchange := hex
  claims := hcl
  queues := h.queues.of_line (State.QueuesFrame.arriveAt s tag st) (State.LineFrame.arriveAt s tag st)
  runs := h.runs_arriveAt tag hst

theorem State.Moving.sound (h : s.Moving) {y : Slot} (hy : y ∈ s.tracker.ring) : y.Sound s.solving :=
  (s.slotsKept_iff.mp h.slots).1 y hy

/-- The piece being solved has a solve record. -/
theorem State.Moving.solving_ne (h : s.Moving) {y : Slot} (hy : y ∈ s.tracker.ring) (hn : y.solve = none) :
    s.solving ≠ some y.tag := by
  intro he
  obtain ⟨z, hz, ht, hs⟩ := (s.slotsKept_iff.mp h.slots).2 _ he
  rw [Slot.eq_of_tag h.apart.tags hz hy ht, hn] at hs
  cases hs

theorem newSolve_isSome {p : Prop} [Decidable p] {r : Option SolveRecord} (h : r.isSome) :
    (if p then some SolveRecord.new else r).isSome := by
  split
  · rfl
  · exact h

/-- The arrival at SD. -/
theorem State.Moving.arriveAt_sd (h : s.Moving) (tag : Nat) : (s.arriveAt tag .sd).Moving := by
  by_cases hd : ∃ x, s.slot? tag = some x ∧ Station.sd ∉ x.passed ∧ s.geo.station .sd ≤ x.offset
  · obtain ⟨x, hx, hp, ho⟩ := hd
    have heq := State.arriveAt_of_due hx ho hp
    obtain ⟨hm, htag⟩ := State.slot?_some hx
    have hring : (s.arriveAt tag .sd).tracker.ring = s.tracker.ring.map fun y => if y.tag == tag then y.atSD else y := by
      rw [heq]
      show ((s.updateSlot tag _).arriveSD _).tracker.ring = _
      rw [State.arriveSD_ring, Slot.pass_tag, htag]
      exact changeSlot_changeSlot tag (f := Slot.pass .sd) (fun _ => rfl) _
    obtain ⟨hsol, hcon, hsaw, -⟩ := (s.updateSlot tag (Slot.pass .sd)).arriveSD_keeps (x.pass .sd)
    have hsolving : (s.arriveAt tag .sd).solving = s.solving := by
      rw [heq]
      exact congrArg (fun e : Solver => e.engine.map (·.tag)) hsol
    have hexch : (s.arriveAt tag .sd).saw.exchange = s.saw.exchange := by
      rw [heq]
      exact congrArg SawBus.exchange hsaw
    have hat : ∀ y : Slot, y.atSD.tag = y.tag ∧ y.atSD.console = y.console ∧ y.atSD.commit = y.commit
        ∧ y.atSD.passed = y.passed ++ [.sd] ∧ (y.solve.isSome → y.atSD.solve.isSome) := by
      intro y
      rw [Slot.atSD_eq]
      unfold Slot.deadline
      dsimp only
      split
      · rw [Slot.closeScan_eq _ (by decide)]
        exact ⟨rfl, rfl, rfl, rfl, fun h => newSolve_isSome h⟩
      · exact ⟨rfl, rfl, rfl, rfl, id⟩
    refine h.of_arriveAt nofun ?_ ?_ ?_
    · refine h.slots.of_map hring (fun y hy => ?_) (fun _ => by rw [hsolving]; exact id) fun y hy => ?_
      · rw [hsolving]
        split
        · exact (h.sound hy).atSD (h.decided y hy) (h.solving_ne hy)
        · exact h.sound hy
      · split
        · exact ⟨(hat y).1, (hat y).2.2.2.2⟩
        · exact ⟨rfl, id⟩
    · refine h.exchange.of_map hring (fun ex hex => ⟨ex, hexch ▸ hex, rfl⟩) fun y hy ex _ ht hc hcm htr => ?_
      obtain ⟨h1, -, h2, h3, -⟩ := hat y
      split
      · exact ⟨h1, h2 ▸ hc, by rw [h3]; exact List.mem_append_left _ hcm, by rw [h3]; simpa using htr⟩
      · exact ⟨rfl, hc, hcm, htr⟩
    · refine h.claims.of_map hring fun y hy => .inl ?_
      split
      · rw [(hat y).2.1]
      · rfl
  · rw [State.arriveAt_of_not_due fun x hx hp => ?_]
    · exact h
    · exact Nat.lt_of_not_le fun ho => hd ⟨x, hx, hp, ho⟩

/-- The arrival at GW, SD passed. -/
theorem State.Moving.arriveAt_gw (h : s.Moving) (hin : s.inOrder tag .gw) : (s.arriveAt tag .gw).Moving := by
  by_cases hd : ∃ x, s.slot? tag = some x ∧ Station.gw ∉ x.passed ∧ s.geo.station .gw ≤ x.offset
  · obtain ⟨x, hx, hp, ho⟩ := hd
    have heq := State.arriveAt_of_due hx ho hp
    obtain ⟨hm, htag⟩ := State.slot?_some hx
    have hone : ∀ y ∈ s.tracker.ring, y.tag = tag → y = x := fun y hy ht =>
      Slot.eq_of_tag h.apart.tags hy hm (ht.trans htag.symm)
    have hring : (s.arriveAt tag .gw).tracker.ring = s.tracker.ring.map fun y => if y.tag == tag then y.atGW else y := by
      rw [heq]
      show ((s.updateSlot tag _).arriveGW _).tracker.ring = _
      rw [State.arriveGW_ring, Slot.pass_tag, htag]
      exact changeSlot_changeSlot tag (f := Slot.pass .gw) (fun _ => rfl) _
    obtain ⟨hsol, hsaw, -⟩ := (s.updateSlot tag (Slot.pass .gw)).arriveGW_keeps (x.pass .gw)
    have hsolving : (s.arriveAt tag .gw).solving = s.solving := by
      rw [heq]
      exact congrArg (fun e : Solver => e.engine.map (·.tag)) hsol
    have hexch : (s.arriveAt tag .gw).saw.exchange = s.saw.exchange := by
      rw [heq]
      exact congrArg SawBus.exchange hsaw
    refine h.of_arriveAt nofun ?_ ?_ ?_
    · refine h.slots.of_map hring (fun y hy => ?_) (fun _ => by rw [hsolving]; exact id) fun y hy => ?_
      · rw [hsolving]
        split
        · next ht =>
          have ht' : y.tag = tag := by simpa using ht
          have hyx := hone y hy ht'
          exact (h.sound hy).atGW (h.decided y hy) (hin y hy ht' (hyx ▸ ho) _ rfl) (hyx ▸ hp)
        · exact h.sound hy
      · split
        · exact ⟨rfl, id⟩
        · exact ⟨rfl, id⟩
    · refine h.exchange.of_map hring (fun ex hex => ⟨ex, hexch ▸ hex, rfl⟩) fun y hy ex _ ht hc hcm htr => ?_
      split
      · exact ⟨rfl, hc, List.mem_append_left _ hcm, by simpa [Slot.atGW, Slot.pass] using htr⟩
      · exact ⟨rfl, hc, hcm, htr⟩
    · refine h.claims.of_map hring fun y hy => .inl ?_
      split <;> rfl
  · rw [State.arriveAt_of_not_due fun x hx hp => ?_]
    · exact h
    · exact Nat.lt_of_not_le fun ho => hd ⟨x, hx, hp, ho⟩

end

end Sys2Proof.Machine


/-! PROOF. The arrivals at CM, TR and EX keep what holds between arrivals, and so does the whole round of them. -/

namespace Sys2Proof.Machine

section
variable {s : State} {tag : Nat} {x : Slot}

/-! ## CM -/

/-- The exchange after an arrival at CM: that of a piece which is no BOARD is not touched; a BOARD piece begins its own. -/
theorem State.arriveCM_exchange (s : State) (x : Slot) :
    (x.kind = .board → ∀ ex ∈ (s.arriveCM x).saw.exchange, ex.tag = x.tag)
      ∧ (x.kind ≠ .board → (s.arriveCM x).saw = s.saw) := by
  unfold State.arriveCM
  rw [State.judge_saw, (State.closeWindow_keeps _ x).2.1]
  constructor
  · intro hk
    rw [if_pos (by simpa using hk)]
    exact State.beginModule_exchange _ _ _ _
  · intro hk
    rw [if_neg (by simpa using hk)]

/-- A BOARD piece's slot after CM, the other slots after it. -/
def Slot.atCM (tag : Nat) (c : CommitRecord) (ex : Option Exchange) (y : Slot) : Slot :=
  if y.tag = tag then (((y.pass .cm).committed c).abandonedBy ex).withdrawn else y.abandonedBy ex

theorem Slot.atCM_tag (tag : Nat) (c : CommitRecord) (ex : Option Exchange) (y : Slot) : (y.atCM tag c ex).tag = y.tag := by
  unfold Slot.atCM
  split
  · exact Slot.abandonedBy_tag ex ((y.pass .cm).committed c)
  · exact Slot.abandonedBy_tag ex y

/-- The ring after the arrival of a BOARD slot at CM. -/
theorem State.arriveAt_cm_ring (hx : s.slot? tag = some x) (hp : Station.cm ∉ x.passed) (ho : s.geo.station .cm ≤ x.offset)
    (hk : x.kind = .board) :
    (s.arriveAt tag .cm).tracker.ring =
      s.tracker.ring.map
        (Slot.atCM tag ((s.updateSlot tag (Slot.pass .cm)).decision (x.pass .cm)) s.saw.exchange) := by
  obtain ⟨-, htag⟩ := State.slot?_some hx
  rw [State.arriveAt_of_due hx ho hp]
  show (State.arriveCM _ (x.pass .cm)).tracker.ring = _
  rw [State.arriveCM_ring (x := x.pass .cm) hk]
  show (changeSlot tag (Slot.pass .cm) s.tracker.ring).map _ = _
  rw [changeSlot, List.map_map, Slot.pass_tag, htag]
  refine List.map_congr_left fun y _ => ?_
  by_cases hy : y.tag = tag
  · simp only [Function.comp, hy, beq_self_eq_true, if_true, Slot.pass_tag, Slot.atCM]
    rfl
  · simp only [Function.comp, hy, beq_iff_eq, if_false, Slot.atCM]
    rfl

/-- What abandoning an exchange keeps of a slot. -/
theorem Slot.abandonedBy_keeps (ex : Option Exchange) (y : Slot) :
    (y.abandonedBy ex).console = y.console ∧ (y.abandonedBy ex).solve = y.solve ∧ (y.abandonedBy ex).passed = y.passed
      ∧ (y.abandonedBy ex).commit.isSome = y.commit.isSome := by
  obtain ⟨f, hf⟩ := y.abandonedBy_eq ex
  rw [hf]
  exact ⟨rfl, rfl, rfl, by simp [Slot.setCommit]⟩

/-- The arrival of a BOARD piece at CM, GW passed. -/
theorem State.Moving.arriveAt_cm_board (h : s.Moving) (hx : s.slot? tag = some x) (hp : Station.cm ∉ x.passed)
    (ho : s.geo.station .cm ≤ x.offset) (hgw : Station.gw ∈ x.passed) (hk : x.kind = .board) : (s.arriveAt tag .cm).Moving := by
  obtain ⟨hm, htag⟩ := State.slot?_some hx
  have hone : ∀ y ∈ s.tracker.ring, y.tag = tag → y = x := fun y hy ht =>
    Slot.eq_of_tag h.apart.tags hy hm (ht.trans htag.symm)
  have hring := State.arriveAt_cm_ring hx hp ho hk
  have heq := State.arriveAt_of_due hx ho hp
  have hsolving : (s.arriveAt tag .cm).solving = if s.solving = some tag then none else s.solving := by
    rw [heq]
    refine ((s.updateSlot tag (Slot.pass .cm)).arriveCM_solving (x.pass .cm)).trans ?_
    rw [Slot.pass_tag, htag]
    exact if_congr (and_iff_right hk) rfl rfl
  have hexch : ∀ ex ∈ (s.arriveAt tag .cm).saw.exchange, ex.tag = tag := by
    rw [heq]
    exact fun ex hex => (((s.updateSlot tag (Slot.pass .cm)).arriveCM_exchange (x.pass .cm)).1 hk ex hex).trans htag
  have hne : (s.arriveAt tag .cm).solving ≠ some tag := by
    rw [hsolving]
    split
    · nofun
    · assumption
  have hother : ∀ t, t ≠ tag → ((s.arriveAt tag .cm).solving = some t ↔ s.solving = some t) := by
    intro t ht
    rw [hsolving]
    split
    · next he => exact ⟨nofun, fun h' => absurd (Option.some.inj (h'.symm.trans he)) ht⟩
    · rfl
  refine h.of_arriveAt nofun ?_ ?_ ?_
  · refine h.slots.of_map hring (fun y hy => ?_) (fun t ht => ?_) fun y hy => ⟨Slot.atCM_tag _ _ _ y, fun hs => ?_⟩
    · unfold Slot.atCM
      split
      · next hy' =>
        obtain rfl := hone y hy hy'
        exact (h.sound hy).atCM hk hgw _ _ (hy' ▸ hne)
      · next hy' => exact ((h.sound hy).of_solving (hother _ hy')).abandonedBy _
    · exact (hother t fun e => hne (e ▸ ht)).mp ht
    · unfold Slot.atCM
      split
      · show (((y.pass .cm).committed _).abandonedBy _).solve.isSome
        rw [(Slot.abandonedBy_keeps _ _).2.1]
        show (y.solve.map SolveRecord.close).isSome
        simpa using hs
      · rwa [(Slot.abandonedBy_keeps _ _).2.1]
  · intro ex hex
    have hxt : (x.atCM tag ((s.updateSlot tag (Slot.pass .cm)).decision (x.pass .cm)) s.saw.exchange) =
        (((x.pass .cm).committed ((s.updateSlot tag (Slot.pass .cm)).decision (x.pass .cm))).abandonedBy s.saw.exchange).withdrawn :=
      if_pos htag
    obtain ⟨-, -, hpass, hcom⟩ := Slot.abandonedBy_keeps s.saw.exchange
      ((x.pass .cm).committed ((s.updateSlot tag (Slot.pass .cm)).decision (x.pass .cm)))
    refine ⟨_, hring ▸ List.mem_map_of_mem hm, ?_, ?_, ?_, ?_⟩
    · rw [Slot.atCM_tag, htag, hexch ex hex]
    · rw [hxt]
      exact hcom.trans rfl
    · rw [hxt]
      show Station.cm ∈ (Slot.abandonedBy _ _).passed
      rw [hpass]
      exact List.mem_append_right _ (by simp)
    · rw [hxt]
      show Station.tr ∉ (Slot.abandonedBy _ _).passed
      rw [hpass]
      simpa [Slot.committed, Slot.pass] using (h.sound hm).tr_not_mem hp
  · refine h.claims.of_map hring fun y hy => ?_
    unfold Slot.atCM
    split
    · exact .inr rfl
    · rw [(Slot.abandonedBy_keeps _ _).1]
      exact .inl rfl

/-- The arrival of another slot at CM, GW passed. -/
theorem State.Moving.arriveAt_cm_of_not_board (h : s.Moving) (hx : s.slot? tag = some x) (hp : Station.cm ∉ x.passed)
    (ho : s.geo.station .cm ≤ x.offset) (hgw : Station.gw ∈ x.passed) (hk : x.kind ≠ .board) :
    (s.arriveAt tag .cm).Moving := by
  obtain ⟨hm, htag⟩ := State.slot?_some hx
  have hone : ∀ y ∈ s.tracker.ring, y.tag = tag → y = x := fun y hy ht =>
    Slot.eq_of_tag h.apart.tags hy hm (ht.trans htag.symm)
  have heq := State.arriveAt_of_due hx ho hp
  have hring : (s.arriveAt tag .cm).tracker.ring =
      s.tracker.ring.map fun y => if y.tag == tag then (y.pass .cm).withdrawn else y := by
    rw [heq]
    show (State.arriveCM _ (x.pass .cm)).tracker.ring = _
    rw [State.arriveCM_ring_of_not_board (x := x.pass .cm) hk, Slot.pass_tag, htag]
    exact changeSlot_changeSlot tag (f := Slot.pass .cm) (fun _ => rfl) _
  have hsolving : (s.arriveAt tag .cm).solving = s.solving := by
    rw [heq]
    refine ((s.updateSlot tag (Slot.pass .cm)).arriveCM_solving (x.pass .cm)).trans ?_
    exact if_neg fun h' => hk h'.1
  have hexch : (s.arriveAt tag .cm).saw.exchange = s.saw.exchange := by
    rw [heq]
    exact congrArg SawBus.exchange (((s.updateSlot tag (Slot.pass .cm)).arriveCM_exchange (x.pass .cm)).2 hk)
  refine h.of_arriveAt nofun ?_ ?_ ?_
  · refine h.slots.of_map hring (fun y hy => ?_) (fun _ => by rw [hsolving]; exact id) fun y hy => ?_
    · rw [hsolving]
      split
      · next hy' =>
        obtain rfl := hone y hy (by simpa using hy')
        exact (h.sound hy).atCM_of_not_board (h.decided y hy) hk hgw
      · exact h.sound hy
    · split <;> exact ⟨rfl, id⟩
  · refine h.exchange.of_map hring (fun ex hex => ⟨ex, hexch ▸ hex, rfl⟩) fun y hy ex _ ht hc hcm htr => ?_
    split
    · exact ⟨rfl, hc, List.mem_append_left _ hcm, by simpa [Slot.withdrawn, Slot.pass] using htr⟩
    · exact ⟨rfl, hc, hcm, htr⟩
  · refine h.claims.of_map hring fun y hy => ?_
    split
    · exact .inr rfl
    · exact .inl rfl

theorem State.Moving.arriveAt_cm (h : s.Moving) (hin : s.inOrder tag .cm) : (s.arriveAt tag .cm).Moving := by
  by_cases hd : ∃ x, s.slot? tag = some x ∧ Station.cm ∉ x.passed ∧ s.geo.station .cm ≤ x.offset
  · obtain ⟨x, hx, hp, ho⟩ := hd
    obtain ⟨hm, htag⟩ := State.slot?_some hx
    have hgw : Station.gw ∈ x.passed := hin x hm htag ho _ rfl
    by_cases hk : x.kind = .board
    · exact h.arriveAt_cm_board hx hp ho hgw hk
    · exact h.arriveAt_cm_of_not_board hx hp ho hgw hk
  · rw [State.arriveAt_of_not_due fun x hx hp => ?_]
    · exact h
    · exact Nat.lt_of_not_le fun ho => hd ⟨x, hx, hp, ho⟩

/-! ## TR -/

/-- A slot after the trim station has judged the one with this tag, or left its commit record. -/
def Slot.atTR (tag : Nat) (ex : Option Exchange) (f : CommitRecord → CommitRecord) (y : Slot) : Slot :=
  if y.tag = tag then ((y.pass .tr).abandonedBy ex).setCommit f else y.abandonedBy ex

theorem Slot.atTR_keeps (tag : Nat) (ex : Option Exchange) (f : CommitRecord → CommitRecord) (y : Slot) :
    (y.atTR tag ex f).tag = y.tag ∧ (y.atTR tag ex f).console = y.console ∧ (y.atTR tag ex f).solve = y.solve
      ∧ (y.atTR tag ex f).commit.isSome = y.commit.isSome
      ∧ (y.atTR tag ex f).passed = if y.tag = tag then y.passed ++ [.tr] else y.passed := by
  unfold Slot.atTR
  split
  · obtain ⟨h1, h2, h3, h4⟩ := (y.pass .tr).abandonedBy_keeps ex
    exact ⟨Slot.abandonedBy_tag ex (y.pass .tr), h1, h2, Option.isSome_map.trans h4, h3⟩
  · obtain ⟨h1, h2, h3, h4⟩ := y.abandonedBy_keeps ex
    exact ⟨Slot.abandonedBy_tag ex y, h1, h2, h4, h3⟩

theorem Slot.setCommit_id (y : Slot) : y.setCommit id = y := by simp [Slot.setCommit]

/-- What the arrival of a due slot at TR leaves. -/
theorem State.arriveAt_tr_keeps (hx : s.slot? tag = some x) (hp : Station.tr ∉ x.passed) (ho : s.geo.station .tr ≤ x.offset) :
    (∃ ex f, (f = id ∨ ∃ missed, f = CommitRecord.trim missed)
        ∧ (s.arriveAt tag .tr).tracker.ring = s.tracker.ring.map (Slot.atTR tag ex f))
      ∧ (s.arriveAt tag .tr).solver = s.solver ∧ (s.arriveAt tag .tr).consoles = s.consoles
      ∧ (s.arriveAt tag .tr).saw.exchange =
          if x.kind = .board ∧ s.saw.exchange.map (·.tag) = some tag then none else s.saw.exchange := by
  obtain ⟨-, htag⟩ := State.slot?_some hx
  rw [State.arriveAt_of_due hx ho hp]
  show (∃ ex f, _ ∧ (State.arriveTR _ (x.pass .tr)).tracker.ring = _) ∧ (State.arriveTR _ (x.pass .tr)).solver = _
    ∧ (State.arriveTR _ (x.pass .tr)).consoles = _ ∧ (State.arriveTR _ (x.pass .tr)).saw.exchange = _
  unfold State.arriveTR
  rw [Slot.pass_tag, htag]
  by_cases hk : x.kind = .board
  · rw [if_pos (beq_iff_eq.mpr hk : ((x.pass .tr).kind == .board) = true)]
    obtain ⟨⟨missed, hring⟩, hsaw, hsol, hcon⟩ := ((s.updateSlot tag (Slot.pass .tr)).pulse .fire).trimPiece_keeps tag
    refine ⟨?_, hsol, hcon, ?_⟩
    · have hu : ((s.updateSlot tag (Slot.pass .tr)).pulse .fire).tracker.ring = changeSlot tag (Slot.pass .tr) s.tracker.ring :=
        rfl
      rw [hu] at hring
      rcases hring with hring | hring
      · refine ⟨s.exchangeOf tag, CommitRecord.trim missed, .inr ⟨missed, rfl⟩, hring.trans ?_⟩
        rw [changeSlot, changeSlot, List.map_map, List.map_map]
        refine List.map_congr_left fun y _ => ?_
        by_cases hy : y.tag = tag
        · have hb : (y.tag == tag) = true := beq_iff_eq.mpr hy
          simp only [Function.comp, if_true, Slot.abandonedBy_tag, Slot.pass_tag, Slot.atTR, hy, beq_self_eq_true]
          rfl
        · have hb : ¬(y.tag == tag) = true := mt beq_iff_eq.mp hy
          simp only [Function.comp, hb, Bool.false_eq_true, Slot.abandonedBy_tag, Slot.atTR, hy, if_false]
          rfl
      · refine ⟨s.exchangeOf tag, id, .inl rfl, hring.trans ?_⟩
        rw [changeSlot, List.map_map]
        refine List.map_congr_left fun y _ => ?_
        by_cases hy : y.tag = tag
        · have hb : (y.tag == tag) = true := beq_iff_eq.mpr hy
          simp only [Function.comp, if_true, Slot.atTR, hy, Slot.setCommit_id, beq_self_eq_true]
          rfl
        · have hb : ¬(y.tag == tag) = true := mt beq_iff_eq.mp hy
          simp only [Function.comp, hb, Bool.false_eq_true, Slot.atTR, hy, if_false]
          rfl
    · rw [hsaw]
      exact if_congr (and_iff_right hk).symm rfl rfl
  · rw [if_neg (mt beq_iff_eq.mp hk : ¬((x.pass .tr).kind == .board) = true)]
    refine ⟨⟨none, id, .inl rfl, ?_⟩, rfl, rfl, (if_neg fun h' => hk h'.1).symm⟩
    show changeSlot tag (Slot.pass .tr) s.tracker.ring = _
    refine List.map_congr_left fun y _ => ?_
    by_cases hy : y.tag = tag
    · have hb : (y.tag == tag) = true := beq_iff_eq.mpr hy
      rw [if_pos hb, Slot.atTR, if_pos hy, Slot.setCommit_id]
      rfl
    · have hb : ¬(y.tag == tag) = true := mt beq_iff_eq.mp hy
      simp only [hb, Slot.atTR, hy, if_false]
      rfl

theorem Slot.Sound.atTR {e : Option Nat} {y : Slot} (h : y.Sound e) (hk : y.kind ≠ .undecided)
    (hcm : y.tag = tag → Station.cm ∈ y.passed) (ex : Option Exchange) (f : CommitRecord → CommitRecord) :
    (y.atTR tag ex f).Sound e := by
  unfold Slot.atTR
  split
  · next hy => exact ((h.pass hk (.inr ⟨rfl, hcm hy⟩)).abandonedBy ex).setCommit f
  · exact h.abandonedBy ex

/-- The arrival at TR, CM passed. -/
theorem State.Moving.arriveAt_tr (h : s.Moving) (hin : s.inOrder tag .tr) : (s.arriveAt tag .tr).Moving := by
  by_cases hd : ∃ x, s.slot? tag = some x ∧ Station.tr ∉ x.passed ∧ s.geo.station .tr ≤ x.offset
  · obtain ⟨x, hx, hp, ho⟩ := hd
    obtain ⟨⟨ex, f, -, hring⟩, hsol, -, hexch⟩ := State.arriveAt_tr_keeps hx hp ho
    obtain ⟨hm, htag⟩ := State.slot?_some hx
    have hone : ∀ y ∈ s.tracker.ring, y.tag = tag → y = x := fun y hy ht =>
      Slot.eq_of_tag h.apart.tags hy hm (ht.trans htag.symm)
    have hsolving : (s.arriveAt tag .tr).solving = s.solving := congrArg (fun e : Solver => e.engine.map SolveJob.tag) hsol
    refine h.of_arriveAt nofun ?_ ?_ ?_
    · refine h.slots.of_map hring (fun y hy => ?_) (fun _ => by rw [hsolving]; exact id) fun y _ => ?_
      · rw [hsolving]
        exact (h.sound hy).atTR (h.decided y hy) (fun ht => hin y hy ht (hone y hy ht ▸ ho) _ rfl) ex f
      · obtain ⟨h1, -, h3, -⟩ := y.atTR_keeps tag ex f
        exact ⟨h1, fun hs => h3 ▸ hs⟩
    · refine h.exchange.of_map hring (fun e he => ?_) fun y hy e he ht hc hcm htr => ?_
      · rw [hexch] at he
        split at he
        · cases he
        · exact ⟨e, he, rfl⟩
      · obtain ⟨h1, -, -, h4, h5⟩ := y.atTR_keeps tag ex f
        have hne : y.tag ≠ tag := by
          intro hy'
          have hk := ((h.sound hy).commit.mp hc).1
          rw [hexch] at he
          split at he
          · cases he
          · next hn =>
            have he' : s.saw.exchange = some e := he
            exact hn ⟨hone y hy hy' ▸ hk, by rw [he', Option.map_some, ← ht, hy']⟩
        rw [if_neg hne] at h5
        exact ⟨h1, h4 ▸ hc, h5 ▸ hcm, h5 ▸ htr⟩
    · refine h.claims.of_map hring fun y hy => .inl ?_
      rw [(y.atTR_keeps tag ex f).2.1]
  · rw [State.arriveAt_of_not_due fun x hx hp => ?_]
    · exact h
    · exact Nat.lt_of_not_le fun ho => hd ⟨x, hx, hp, ho⟩

/-! ## EX -/

theorem State.exited_keeps (s : State) (x : Slot) :
    (s.exited x).solver = s.solver ∧ (s.exited x).saw = s.saw ∧ (s.exited x).consoles = s.consoles := by
  unfold State.exited State.exitPiece
  split
  · split
    · refine ⟨?_, ?_, ?_⟩ <;> simp
    · exact ⟨rfl, rfl, rfl⟩
  · exact ⟨rfl, rfl, rfl⟩

theorem State.runsKept.exited (h : s.runsKept) (x : Slot) : (s.exited x).runsKept := by
  unfold State.exited State.exitPiece
  split
  · split
    · exact (h.enter _ _).of_places rfl rfl
    · exact h
  · exact h

/-- The arrival of a due slot at EX. -/
theorem State.arriveAt_ex_keeps (hx : s.slot? tag = some x) (hp : Station.ex ∉ x.passed) (ho : s.geo.station .ex ≤ x.offset) :
    (s.arriveAt tag .ex).solver = s.solver ∧ (s.arriveAt tag .ex).saw = s.saw ∧ (s.arriveAt tag .ex).consoles = s.consoles := by
  rw [State.arriveAt_of_due hx ho hp]
  obtain ⟨h1, h2, h3⟩ := (s.updateSlot tag (Slot.pass .ex)).exited_keeps (x.pass .ex)
  refine ⟨?_, ?_, ?_⟩
  · exact (State.closeDrained_solver _).trans h1
  · exact (State.closeDrained_saw _).trans h2
  · exact (State.closeDrained_consoles _).trans h3

/-- The run table after an arrival at EX: the slot no longer open in its run. -/
theorem State.runsKept.arriveAt_ex (h : s.runsKept) (hx : s.slot? tag = some x) (hp : Station.ex ∉ x.passed)
    (ho : s.geo.station .ex ≤ x.offset) : (s.arriveAt tag .ex).runsKept := by
  rw [State.arriveAt_of_due hx ho hp]
  have hplaces : ((s.updateSlot tag (Slot.pass .ex)).tracker.ring.map fun y => (y.run, y.kind)) =
      s.tracker.ring.map fun y => (y.run, y.kind) := by
    show (changeSlot tag (Slot.pass .ex) s.tracker.ring).map _ = _
    rw [changeSlot, List.map_map]
    refine List.map_congr_left fun y _ => ?_
    simp only [Function.comp]
    split <;> rfl
  have hu := (h.of_places (t := s.updateSlot tag (Slot.pass .ex)) rfl hplaces).exited (x.pass .ex)
  refine hu.of_closeDrained rfl (fun q => ?_) fun y hy hk => ⟨y, (List.mem_filter.mp hy).1, hk, rfl⟩
  exact List.Sublist.countP_le List.filter_sublist

/-- The arrival at EX, TR passed: the slot leaves, and it is not the piece being solved nor that of the exchange. -/
theorem State.Moving.arriveAt_ex (h : s.Moving) (hin : s.inOrder tag .ex) : (s.arriveAt tag .ex).Moving := by
  by_cases hd : ∃ x, s.slot? tag = some x ∧ Station.ex ∉ x.passed ∧ s.geo.station .ex ≤ x.offset
  · obtain ⟨x, hx, hp, ho⟩ := hd
    obtain ⟨hsol, hsaw, hcon⟩ := State.arriveAt_ex_keeps hx hp ho
    obtain ⟨hm, htag⟩ := State.slot?_some hx
    have hring := State.arriveAt_ex_ring h.apart.tags h.apart.inLine tag
    have htr : Station.tr ∈ x.passed := hin x hm htag ho _ rfl
    have hstay : ∀ y ∈ s.tracker.ring, y ≠ x → y ∈ (s.arriveAt tag .ex).tracker.ring := by
      intro y hy hne
      rw [hring]
      refine List.mem_filter.mpr ⟨hy, ?_⟩
      have ht : y.tag ≠ tag := fun ht => hne (Slot.eq_of_tag h.apart.tags hy hm (ht.trans htag.symm))
      simp [ht]
    have hmem : ∀ y ∈ (s.arriveAt tag .ex).tracker.ring, y ∈ s.tracker.ring := by
      rw [hring]
      exact fun y hy => (List.mem_filter.mp hy).1
    have hsolving : (s.arriveAt tag .ex).solving = s.solving := congrArg (fun e : Solver => e.engine.map SolveJob.tag) hsol
    obtain ⟨hsound, hpiece⟩ := s.slotsKept_iff.mp h.slots
    exact
      { apart := h.apart.arriveAt tag .ex
        decided := h.decided_arriveAt tag .ex
        slots := by
          refine (State.slotsKept_iff _).mpr ⟨fun y hy => ?_, fun t ht => ?_⟩
          · rw [hsolving]
            exact hsound y (hmem y hy)
          · rw [hsolving] at ht
            obtain ⟨y, hy, hyt, hys⟩ := hpiece t ht
            refine ⟨y, hstay y hy fun e => ?_, hyt, hys⟩
            obtain ⟨r, hr⟩ := Option.isSome_iff_exists.mp hys
            obtain ⟨h1, h2⟩ := (hsound y hy).status r hr
            have hc := h1.mpr (e ▸ (hsound x hm).tr htr)
            have hs := h2.mpr (hyt ▸ ht)
            exact absurd (hc.symm.trans hs) nofun
        exchange := by
          intro e he
          rw [hsaw] at he
          obtain ⟨y, hy, h1, h2, h3, h4⟩ := h.exchange e he
          exact ⟨y, hstay y hy fun heq => h4 (heq ▸ htr), h1, h2, h3, h4⟩
        claims := by
          intro c
          have hc := h.claims c
          rw [State.claims_length] at hc ⊢
          rw [hring]
          exact Nat.le_trans (List.Sublist.countP_le List.filter_sublist) hc
        queues := h.queues.of_line (State.QueuesFrame.arriveAt s tag .ex) (State.LineFrame.arriveAt s tag .ex)
        runs := h.runs.arriveAt_ex hx hp ho }
  · rw [State.arriveAt_of_not_due fun x hx hp => ?_]
    · exact h
    · exact Nat.lt_of_not_le fun ho => hd ⟨x, hx, hp, ho⟩

/-! ## All the arrivals -/

/-- After the announcement at a station the slot is in order for the next (R13, R15). -/
theorem State.RingApart.inOrder_arriveAt (h : s.RingApart) {st st' : Station} (hst : st ≠ .ex) (hb : st'.before = some st)
    (hle : s.geo.station st ≤ s.geo.station st') : (s.arriveAt tag st).inOrder tag st' := by
  intro y hy ht ho p hp
  obtain rfl : p = st := Option.some.inj ((Option.mem_def.mp hp).symm.trans hb)
  have hk : y.key ∈ (s.arriveAt tag p).keys := List.mem_map_of_mem hy
  rw [(State.arriveAt_keys h.tags tag hst).1] at hk
  obtain ⟨k, -, e⟩ := List.mem_map.mp hk
  rw [State.arriveAt_geo] at ho
  have htk : k.tag = tag := by
    have := congrArg SlotKey.tag e
    split at this
    · assumption
    · exact this.trans ht
  rw [if_pos htk] at e
  have hoff : k.offset = y.offset := (k.arrive_offset s.geo p).symm.trans (congrArg SlotKey.offset e)
  have hpass : (k.arrive s.geo p).passed = y.passed := congrArg SlotKey.passed e
  rw [← hpass]
  exact SlotKey.mem_arrive.mpr (.inr ⟨rfl, by omega⟩)

theorem State.Moving.arriveAll (h : s.Moving) (hg : s.geo.valid = true) (tag : Nat) : (s.arriveAll tag).Moving := by
  obtain ⟨-, h2, h3, h4, -⟩ := Geometry.valid_stations hg
  have sgSD : s.geo.station .sd = s.geo.sd := rfl
  have sgGW : s.geo.station .gw = s.geo.gw := rfl
  have sgCM : s.geo.station .cm = s.geo.cm := rfl
  have sgTR : s.geo.station .tr = s.geo.cm + 1 := rfl
  have sgEX : s.geo.station .ex = s.geo.ex := rfl
  have h1 := h.arriveAt_sd tag
  have hgw := h1.arriveAt_gw (h.apart.inOrder_arriveAt nofun rfl (by omega))
  have hcm := hgw.arriveAt_cm (h1.apart.inOrder_arriveAt nofun rfl (by rw [State.arriveAt_geo]; omega))
  have htr := hcm.arriveAt_tr (hgw.apart.inOrder_arriveAt nofun rfl (by rw [State.arriveAt_geo, State.arriveAt_geo]; omega))
  exact htr.arriveAt_ex
    (hcm.apart.inOrder_arriveAt nofun rfl (by rw [State.arriveAt_geo, State.arriveAt_geo, State.arriveAt_geo]; omega))

theorem State.Moving.arriveAll_foldl (h : s.Moving) (hg : s.geo.valid = true) (tags : List Nat) :
    (tags.foldl State.arriveAll s).Moving := by
  induction tags generalizing s with
  | nil => exact h
  | cons tag tags ih => exact ih (h.arriveAll hg tag) ((s.arriveAll_geo tag).symm ▸ hg)

theorem State.Moving.announced (h : s.Moving) (hg : s.geo.valid = true) : s.announced.Moving := h.arriveAll_foldl hg _

end

end Sys2Proof.Machine


/-! PROOF. The advance keeps the whole of what holds between commands (R9 to R14). -/

namespace Sys2Proof.Machine

/-! ## The kind fixed (R12) -/

/-- A slot whose kind is fixed has its records where the rules create them: a new solve record where it is a BOARD whose scan is
closed. -/
theorem Slot.fixKind_eq (x : Slot) :
    x.fixKind =
      { x with
        kind := x.fixedKind
        solve := if x.fixedKind = .board ∧ x.scan.status ≠ .open ∧ x.scan.handedOver = false then some .new else x.solve
        scan := { x.scan with
          noProfile := x.scan.noProfile || decide (x.fixedKind = .board ∧ x.scan.status ≠ .open ∧ x.scan.extent = none)
          handedOver := x.scan.handedOver || decide (x.fixedKind = .board ∧ x.scan.status ≠ .open) } } := by
  unfold Slot.fixKind
  rw [Slot.flagProfile_eq, Slot.handOver_eq]
  rfl

section
variable {s : State}

/-- A sound slot that was UNDECIDED stays sound when its kind is fixed. -/
theorem Slot.Sound.fixKind {e : Option Nat} {x : Slot} (h : x.Sound e) (hk : x.kind = .undecided) (he : e ≠ some x.tag) :
    x.fixKind.Sound e := by
  have hp := h.undecided hk
  have hs : x.solve = none := by
    have := mt h.solve.mp fun hb => nomatch hk.symm.trans hb.1
    simpa using this
  have hh : x.scan.handedOver = false := by rw [h.handedOver, hs]; rfl
  have hc : x.commit = none := by
    have := mt h.commit.mp fun hb => nomatch hk.symm.trans hb.1
    simpa using this
  rw [Slot.fixKind_eq]
  refine { window := h.window, holder := h.holder, undecided := fun h' => absurd h' x.fixedKind_ne_undecided, gw := h.gw,
           cm := h.cm, tr := h.tr, closed := h.closed, solve := ?_, handedOver := ?_, commit := ?_, status := fun r hr => ?_ }
  · by_cases hb : x.fixedKind = .board <;> simp [hb, hs, hh]
  · by_cases hb : x.fixedKind = .board <;> by_cases ho : x.scan.status = .open <;> simp [hb, hs, hh, ho]
  · simp [hc, hp]
  · simp only [hs, Option.mem_def, Option.ite_none_right_eq_some, Option.some.injEq] at hr
    obtain ⟨-, rfl⟩ := hr
    exact ⟨⟨nofun, fun hcm => by simp [hp] at hcm⟩, ⟨nofun, fun h' => absurd h' he⟩⟩

/-! ## The ring moved on -/

/-- One slot as the ring moves on: at offset 0 its kind is fixed. -/
def Slot.moved (x : Slot) : Slot := if x.offset = 0 then x.further.fixKind else x.further

theorem Slot.moved_keeps (x : Slot) :
    x.moved.tag = x.tag ∧ x.moved.console = x.console ∧ x.moved.commit = x.commit ∧ x.moved.passed = x.passed
      ∧ x.moved.run = x.run ∧ (x.solve.isSome → x.moved.solve.isSome) := by
  unfold Slot.moved
  split
  · rw [Slot.fixKind_eq]
    exact ⟨rfl, rfl, rfl, rfl, rfl, fun h => newSolve_isSome h⟩
  · exact ⟨rfl, rfl, rfl, rfl, rfl, id⟩

theorem State.fixKind_keeps (s : State) (x : Slot) :
    (s.fixKind x).solver = s.solver ∧ (s.fixKind x).saw = s.saw ∧ (s.fixKind x).consoles = s.consoles := by
  unfold State.fixKind
  dsimp only
  split
  · refine ⟨?_, ?_, ?_⟩ <;> simp
  · refine ⟨?_, ?_, ?_⟩ <;> simp

theorem State.movedOn_keeps (s : State) :
    s.movedOn.solver = s.solver ∧ s.movedOn.saw = s.saw ∧ s.movedOn.consoles = s.consoles := by
  unfold State.movedOn
  split
  · exact s.moveRing.fixKind_keeps _
  · exact ⟨rfl, rfl, rfl⟩

theorem State.QueuesFrame.movedOn (s : State) : s.QueuesFrame s.movedOn := by
  unfold State.movedOn
  split
  · unfold State.fixKind
    dsimp only
    split
    · exact (State.QueuesFrame.enter _ _ _).after (.of_eq (t := s.moveRing.updateSlot _ _) rfl rfl)
    · exact .of_eq (by simp; rfl) (by simp; rfl)
  · exact .of_eq rfl rfl

/-- The run table when the ring moves on: a slot that becomes EMPTY is no longer open in its run (R138). -/
theorem State.runsKept.movedOn (h : s.runsKept) (hr : s.ringKept) : s.movedOn.runsKept := by
  obtain ⟨-, hall, -, -⟩ := id hr
  have hplain : s.moveRing.runsKept := h.of_places rfl (by
    rw [State.moveRing_ring, List.map_map]
    rfl)
  unfold State.movedOn
  split
  · next x hx =>
    obtain ⟨y, hy, h0, rfl⟩ := (State.arriving_eq hr).mp hx
    have hkind := (hall y hy).2.2.mpr h0
    have hmem : ∀ z ∈ s.moveRing.tracker.ring, z.tag = y.tag → z = y.further := by
      intro z hz ht
      obtain ⟨w, hw, rfl⟩ := List.mem_map.mp hz
      rw [hr.eq_of_tag hw hy ht]
      rfl
    unfold State.fixKind
    dsimp only
    split
    · next hb =>
      have hb' : y.further.fixedKind = .board := beq_iff_eq.mp hb
      refine State.runsKept.enter (hplain.of_open (t := s.moveRing.updateSlot y.tag Slot.fixKind) rfl ?_) _ _
      show (changeSlot y.tag Slot.fixKind s.moveRing.tracker.ring).map _ = _
      rw [changeSlot, List.map_map]
      refine List.map_congr_left fun z hz => ?_
      simp only [Function.comp]
      split
      · next ht =>
        rw [hmem z hz (beq_iff_eq.mp ht), Slot.fixKind_eq, hb']
        show (y.run, SlotKind.board != .empty) = (y.run, y.kind != .empty)
        rw [hkind]
        rfl
      · rfl
    · next hb =>
      have hsome : ∀ z ∈ s.moveRing.tracker.ring, (if z.tag == y.tag then z.fixKind else z).run = z.run
          ∧ ((if z.tag == y.tag then z.fixKind else z).kind ≠ .empty → z.kind ≠ .empty) := by
        intro z hz
        split
        · next ht =>
          rw [hmem z hz (beq_iff_eq.mp ht), Slot.fixKind_eq]
          exact ⟨rfl, fun _ => by rw [show y.further.kind = .undecided from hkind]; decide⟩
        · exact ⟨rfl, id⟩
      refine hplain.of_closeDrained rfl (fun q => ?_) fun z hz hk => ?_
      · show (changeSlot y.tag Slot.fixKind s.moveRing.tracker.ring).countP _ ≤ _
        rw [changeSlot, List.countP_map]
        refine List.countP_mono_left fun z hz ho => ?_
        obtain ⟨h1, h2⟩ := hsome z hz
        obtain ⟨ho1, ho2⟩ := Bool.and_eq_true_iff.mp ho
        exact Bool.and_eq_true_iff.mpr ⟨h1 ▸ ho1, bne_iff_ne.mpr (h2 (bne_iff_ne.mp ho2))⟩
      · obtain ⟨w, hw, rfl⟩ := List.mem_map.mp hz
        obtain ⟨h1, h2⟩ := hsome w hw
        exact ⟨w, hw, h2 hk, h1.symm⟩
  · exact hplain

/-- The invariant but for the bound of pos, which a count may have brought to K+W where a synthesized advance is due (R4). -/
structure State.InvButPos (s : State) : Prop where
  memory : s.memoryKept
  geometry : s.geometryKept
  ring : s.ringKept
  slots : s.slotsKept
  exchange : s.exchangeKept
  claims : s.claimsKept
  queues : s.queuesKept
  runs : s.runsKept
  request : s.requestKept

theorem State.inv_iff (s : State) : s.Inv ↔ s.InvButPos ∧ s.posKept :=
  ⟨fun ⟨h1, h2, h3, h4, h5, h6, h7, h8, h9, h10⟩ => ⟨⟨h1, h2, h4, h5, h6, h7, h8, h9, h10⟩, h3⟩,
    fun ⟨⟨h1, h2, h4, h5, h6, h7, h8, h9, h10⟩, h3⟩ => ⟨h1, h2, h3, h4, h5, h6, h7, h8, h9, h10⟩⟩

/-- The moved ring meets what holds between arrivals. -/
theorem State.InvButPos.movedOn (h : s.InvButPos) : s.movedOn.Moving := by
  obtain ⟨hsol, hsaw, -⟩ := s.movedOn_keeps
  have hring : s.movedOn.tracker.ring = s.tracker.ring.map Slot.moved := State.movedOn_ring h.ring
  obtain ⟨-, hall, -, -⟩ := h.ring
  have hsolving : s.movedOn.solving = s.solving := congrArg (fun e : Solver => e.engine.map SolveJob.tag) hsol
  have hexch : s.movedOn.saw.exchange = s.saw.exchange := congrArg SawBus.exchange hsaw
  obtain ⟨hsound, hpiece⟩ := s.slotsKept_iff.mp h.slots
  exact
    { apart := State.movedOn_ringApart h.ring
      decided := by
        intro y hy
        rw [hring] at hy
        obtain ⟨x, hx, rfl⟩ := List.mem_map.mp hy
        unfold Slot.moved
        split
        · rw [Slot.fixKind_eq]
          exact x.further.fixedKind_ne_undecided
        · next h0 => exact fun hk => h0 ((hall x hx).2.2.mp hk)
      slots := by
        refine h.slots.of_map hring (fun x hx => ?_) (fun t ht => hsolving ▸ ht) fun x _ => ?_
        · rw [hsolving]
          have hf : x.further.Sound s.solving := { hsound x hx with }
          unfold Slot.moved
          split
          · next h0 =>
            have hk := (hall x hx).2.2.mpr h0
            refine hf.fixKind hk fun he => ?_
            obtain ⟨y, hy, hyt, hys⟩ := hpiece x.tag he
            rw [h.ring.eq_of_tag hy hx hyt] at hys
            exact absurd (((hsound x hx).solve.mp hys).1.symm.trans hk) nofun
          · exact hf
        · obtain ⟨h1, -, -, -, -, h2⟩ := x.moved_keeps
          exact ⟨h1, h2⟩
      exchange := by
        refine h.exchange.of_map hring (fun ex hex => ⟨ex, hexch ▸ hex, rfl⟩) fun x _ ex _ ht hc hcm htr => ?_
        obtain ⟨h1, -, h3, h4, -⟩ := x.moved_keeps
        rw [h1, h3, h4]
        exact ⟨rfl, hc, hcm, htr⟩
      claims := h.claims.of_map hring fun x _ => .inl (by rw [x.moved_keeps.2.1])
      queues := by
        have hq : s.moveRing.queuesKept := h.queues
        have hf := State.QueuesFrame.movedOn s
        refine hq.of_line ?_ (State.LineFrame.movedOn s)
        exact ⟨hf.consoles, hf.reports⟩
      runs := h.runs.movedOn h.ring }

/-! ## The new slot (R10) -/

/-- The new slot has its records as the rules create them. -/
theorem State.newSlot_sound (s : State) (synth : Bool) {e : Option Nat} : (s.newSlot synth).Sound e where
  window := rfl
  holder := nofun
  undecided := fun _ => rfl
  gw := nofun
  cm := nofun
  tr := nofun
  closed := nofun
  solve := ⟨nofun, fun h => nomatch h.1⟩
  handedOver := rfl
  commit := ⟨nofun, fun h => nomatch h.1⟩
  status := nofun

/-- A slot opened in the board-current run keeps the run table's relations. -/
theorem State.runsKept.addSlot {t : State} (h : s.runsKept) (hr : t.runs = s.runs) {x : Slot}
    (hring : t.tracker.ring = s.tracker.ring ++ [x]) (hx : x.run = s.boardSeq) : t.runsKept := by
  obtain ⟨htab, hdrain, hslots⟩ := s.runsKept_iff.mp h
  obtain ⟨b, hb, hbc, -, hseq⟩ := htab.boardRun
  have hid : t.runs.records = s.runs.records.map id := by rw [hr, List.map_id]
  have hkeeps : KeepsCurrent id := ⟨fun _ => rfl, fun _ => rfl, fun _ => rfl⟩
  have hopen : ∀ q, t.openSlots q = s.openSlots q + if x.openIn q = true then 1 else 0 := by
    intro q
    unfold State.openSlots
    rw [hring, List.countP_append, List.countP_singleton]
  refine t.runsKept_iff.mpr ⟨htab.of_map (by rw [hr]) hid hkeeps fun _ h => h, fun r hm => ?_, fun y hy hk => ?_⟩
  · rw [hr] at hm
    obtain ⟨h1, h2⟩ := hdrain r hm
    refine ⟨fun hst => by have := h1 hst; rw [hopen]; omega, fun hst => ?_⟩
    have hne : ¬x.openIn r.seq = true := by
      intro ho
      have hrun : x.run = r.seq := beq_iff_eq.mp (Bool.and_eq_true_iff.mp ho).1
      have hrb : r = b := htab.eq_of_seq hm hb (by rw [← hrun, hx, hseq])
      rw [← hrb, hst] at hbc
      cases hbc
    rw [hopen, if_neg hne, h2 hst]
  · rw [State.run?_map hkeeps hid, Option.isSome_map]
    rw [hring] at hy
    rcases List.mem_append.mp hy with hy | hy
    · exact hslots y hy hk
    · rw [List.mem_singleton.mp hy, hx, hseq, htab.run?_of_mem hb]
      rfl

/-- An advance keeps all but the bound of pos. -/
theorem State.InvButPos.advance (h : s.InvButPos) (synth : Bool) : (s.advance synth).InvButPos := by
  have hm : s.beforeCreate.Moving := h.movedOn.announced (s.movedOn_geo ▸ h.geometry.1)
  have hf := State.LineFrame.beforeCreate s
  have hring : (s.advance synth).tracker.ring = s.beforeCreate.tracker.ring ++ [s.beforeCreate.newSlot synth] := rfl
  obtain ⟨hsound, hpiece⟩ := s.beforeCreate.slotsKept_iff.mp hm.slots
  have hin : ∀ y ∈ s.beforeCreate.tracker.ring, y ∈ (s.advance synth).tracker.ring := fun y hy =>
    List.mem_append_left _ hy
  exact
    { memory := by
        have := h.memory
        rwa [State.memoryKept, State.advance_store]
      geometry := by
        have := h.geometry
        rwa [State.geometryKept, State.geo, State.advance_tables]
      ring := State.advance_ringKept h.geometry.1 h.ring synth
      slots := by
        refine (State.slotsKept_iff _).mpr ⟨fun y hy => ?_, fun t ht => ?_⟩
        · rcases List.mem_append.mp hy with hy | hy
          · exact hsound y hy
          · rw [List.mem_singleton.mp hy]
            exact State.newSlot_sound _ synth
        · obtain ⟨y, hy, h1, h2⟩ := hpiece t ht
          exact ⟨y, hin y hy, h1, h2⟩
      exchange := by
        intro ex hex
        obtain ⟨y, hy, hrest⟩ := hm.exchange ex hex
        exact ⟨y, hin y hy, hrest⟩
      claims := by
        intro c
        have hc := hm.claims c
        rw [State.claims_length] at hc ⊢
        rw [hring, List.countP_append]
        simpa [State.newSlot] using hc
      queues := hm.queues
      runs := hm.runs.addSlot rfl rfl rfl
      request := by
        have hr := h.request
        unfold State.requestKept State.heldWrite at hr ⊢
        rwa [State.advance_inProcess, State.advance_store] }

end

end Sys2Proof.Machine


/-! PROOF. What one event leaves as it was: slots kept, causes kept, outputs kept, and a calm event, which changes neither runs nor
tables and every slot in place. -/

namespace Sys2Proof.Machine

/-! ## A slot through an event (R28, R100) -/

/-- Two commit records with the same decision: the piece, its flags of the decision and its pattern (R100, R102, R104). -/
structure CommitRecord.SameDecision (c d : CommitRecord) : Prop where
  keep : d.keep = c.keep
  noSpan : d.noSpan = c.noSpan
  source : d.source = c.source
  generation : d.generation = c.generation
  overrideMissed : d.overrideMissed = c.overrideMissed
  inhibited : d.inhibited = c.inhibited
  pattern : d.pattern = c.pattern

@[refl] theorem CommitRecord.SameDecision.refl (c : CommitRecord) : c.SameDecision c := by constructor <;> rfl

theorem CommitRecord.SameDecision.trans {b c d : CommitRecord} (h : b.SameDecision c) (k : c.SameDecision d) : b.SameDecision d where
  keep := k.keep.trans h.keep
  noSpan := k.noSpan.trans h.noSpan
  source := k.source.trans h.source
  generation := k.generation.trans h.generation
  overrideMissed := k.overrideMissed.trans h.overrideMissed
  inhibited := k.inhibited.trans h.inhibited
  pattern := k.pattern.trans h.pattern

/-- One slot before and after: a decision stays as it was fixed, a closed scan as it was closed, a kind once fixed. -/
structure Slot.Kept (x y : Slot) : Prop where
  tag : y.tag = x.tag
  kind : x.kind ≠ .undecided → y.kind = x.kind
  commit : ∀ c : CommitRecord, x.commit = some c → ∃ d, y.commit = some d ∧ c.SameDecision d
  scan : x.scan.status ≠ .open →
    y.scan.cells = x.scan.cells ∧ y.scan.extent = x.scan.extent ∧ y.scan.status = x.scan.status
      ∧ y.scan.scanPartial = x.scan.scanPartial
  profile : x.scan.status ≠ .open → x.kind ≠ .undecided → y.scan.noProfile = x.scan.noProfile

namespace Slot.Kept
variable {x y z : Slot}

/-- Slots whose scan and commit record are equal. -/
theorem of_eq (ht : y.tag = x.tag := by rfl) (hk : y.kind = x.kind := by rfl) (hc : y.commit = x.commit := by rfl)
    (hs : y.scan = x.scan := by rfl) : x.Kept y where
  tag := ht
  kind _ := hk
  commit c h := ⟨c, hc.trans h, .refl c⟩
  scan _ := by rw [hs]; exact ⟨rfl, rfl, rfl, rfl⟩
  profile _ _ := by rw [hs]

@[refl] theorem refl (x : Slot) : x.Kept x := of_eq

@[trans] theorem trans (h : x.Kept y) (k : y.Kept z) : x.Kept z where
  tag := k.tag.trans h.tag
  kind hx := (k.kind (by rwa [h.kind hx])).trans (h.kind hx)
  commit c hc := by
    obtain ⟨d, hd, hcd⟩ := h.commit c hc
    obtain ⟨e, he, hde⟩ := k.commit d hd
    exact ⟨e, he, hcd.trans hde⟩
  scan ho := by
    obtain ⟨h1, h2, h3, h4⟩ := h.scan ho
    obtain ⟨k1, k2, k3, k4⟩ := k.scan (by rwa [h3])
    exact ⟨k1.trans h1, k2.trans h2, k3.trans h3, k4.trans h4⟩
  profile ho hx := (k.profile (by rwa [(h.scan ho).2.2.1]) (by rwa [h.kind hx])).trans (h.profile ho hx)

/-- A change of the commit record that keeps the decision. -/
theorem setCommit (x : Slot) {f : CommitRecord → CommitRecord} (hf : ∀ c : CommitRecord, c.SameDecision (f c)) : x.Kept (x.setCommit f) where
  tag := rfl
  kind _ := rfl
  commit c h := ⟨f c, by rw [Slot.setCommit, h, Option.map_some], hf c⟩
  scan _ := ⟨rfl, rfl, rfl, rfl⟩
  profile _ _ := rfl

/-- A slot whose scan is open. -/
theorem of_open (ho : x.scan.status = .open) (ht : y.tag = x.tag) (hk : y.kind = x.kind) (hc : y.commit = x.commit) : x.Kept y where
  tag := ht
  kind _ := hk
  commit c h := ⟨c, hc.trans h, .refl c⟩
  scan h := absurd ho h
  profile h := absurd ho h

end Slot.Kept

/-! ## A slot in its place -/

/-- A slot kept, with its offset, its kind, its run and the stations it has passed. -/
structure Slot.InPlace (x y : Slot) : Prop extends x.Kept y where
  offset : y.offset = x.offset
  kindEq : y.kind = x.kind
  run : y.run = x.run
  passed : y.passed = x.passed

namespace Slot.InPlace
variable {x y z : Slot}

@[refl] theorem refl (x : Slot) : x.InPlace x := ⟨.refl x, rfl, rfl, rfl, rfl⟩

@[trans] theorem trans (h : x.InPlace y) (k : y.InPlace z) : x.InPlace z :=
  ⟨h.toKept.trans k.toKept, k.offset.trans h.offset, k.kindEq.trans h.kindEq, k.run.trans h.run, k.passed.trans h.passed⟩

theorem of_eq (hp : (y.tag, y.offset, y.kind, y.run, y.passed) = (x.tag, x.offset, x.kind, x.run, x.passed) := by rfl)
    (hc : y.commit = x.commit := by rfl) (hs : y.scan = x.scan := by rfl) : x.InPlace y := by
  obtain ⟨h1, h2, h3, h4, h5⟩ : y.tag = x.tag ∧ y.offset = x.offset ∧ y.kind = x.kind ∧ y.run = x.run ∧ y.passed = x.passed := by
    simpa using hp
  exact ⟨.of_eq h1 h3 hc hs, h2, h3, h4, h5⟩

end Slot.InPlace

/-! ## Calls and outputs (R94, R155, R157) -/

/-- A slot calls as it did where its kind, window, holder and solution are as they were. -/
theorem Slot.calls_congr {x y : Slot} (hk : y.kind = x.kind) (hw : y.console.window = x.console.window)
    (hh : y.console.holder = x.console.holder) (hs : y.solution = x.solution) (g : Nat) : y.calls g = x.calls g := by
  unfold Slot.calls
  rw [hk, hw, hh, hs]

/-- A slot whose window is not OPEN does not call. -/
theorem Slot.calls_of_not_open {x : Slot} (h : x.console.window ≠ .open) (g : Nat) : x.calls g = false := by
  unfold Slot.calls
  simp [h]

/-- A slot without a solution does not call. -/
theorem Slot.calls_of_no_solution {x : Slot} (h : x.solution = none) (g : Nat) : x.calls g = false := by
  unfold Slot.calls
  rw [h]
  simp

theorem any_calls_map {ring : List Slot} {f : Slot → Slot} (h : ∀ x ∈ ring, ∀ g, (f x).calls g = x.calls g) (g : Nat) :
    (ring.map f).any (Slot.calls g) = ring.any (Slot.calls g) := by
  rw [List.any_map, Bool.eq_iff_iff]
  simp only [List.any_eq_true, Function.comp]
  exact ⟨fun ⟨x, hx, hc⟩ => ⟨x, hx, by rwa [h x hx] at hc⟩, fun ⟨x, hx, hc⟩ => ⟨x, hx, by rwa [h x hx]⟩⟩

section
variable {s t u : State}

/-- Outputs, tables, alert condition and calls as before: judged as before. -/
theorem State.outputsJudged.of_eq (h : s.outputsJudged) (ho : t.field.outputs = s.field.outputs) (ht : t.tables = s.tables)
    (ha : t.alert = s.alert) (hc : ∀ g, t.tracker.ring.any (Slot.calls g) = s.tracker.ring.any (Slot.calls g)) : t.outputsJudged := by
  intro o
  have hcall : ∀ e, t.callCondition e = s.callCondition e := fun e => hc e.callGrade
  have := h o
  dsimp only at this ⊢
  rw [ht, ho, ha, hcall]
  exact this

/-! ## Level causes (R168) -/

theorem Cause.getLsbD_bit_nat (a : Cause) {i : Nat} (h : i < 14) : a.bit.getLsbD i = true ↔ i = a.number.val := by
  have hn := a.number.isLt
  unfold Cause.bit
  rw [BitVec.getLsbD_shiftLeft, BitVec.getLsbD_one]
  simp only [Bool.and_eq_true, Bool.not_eq_true', decide_eq_true_eq, decide_eq_false_iff_not]
  omega

/-- A set within another: no bit of it is missing there. -/
theorem CauseSet.and_not_eq_zero (a b : CauseSet) : a &&& ~~~b = 0 ↔ ∀ i < 14, a.getLsbD i = true → b.getLsbD i = true := by
  constructor
  · intro h i hi ha
    have := congrArg (·.getLsbD i) h
    simpa [ha, hi] using this
  · intro h
    refine BitVec.eq_of_getLsbD_eq fun i hi => ?_
    have := h i hi
    cases ha : a.getLsbD i <;> cases hb : b.getLsbD i <;> simp_all

/-- The three level causes, each pending where its condition holds. -/
theorem State.levelsPending_iff (s : State) :
    s.levelsPending ↔ (s.headDown = true → s.isPending .headDown = true) ∧ (s.moduleOffline = true → s.isPending .moduleOffline = true)
      ∧ (s.inhibitActive = true → s.isPending .inhibitActive = true) := by
  have hcond : ∀ i < 14, s.levelConditions.getLsbD i = true ↔
      (s.headDown = true ∧ i = 1) ∨ (s.moduleOffline = true ∧ i = 5) ∨ (s.inhibitActive = true ∧ i = 7) := by
    intro i hi
    unfold State.levelConditions
    cases s.headDown <;> cases s.moduleOffline <;> cases s.inhibitActive <;>
      simp [Cause.getLsbD_bit_nat _ hi, Cause.number, or_assoc]
  refine (CauseSet.and_not_eq_zero _ _).trans ⟨fun h => ⟨fun hh => ?_, fun hm => ?_, fun hi => ?_⟩, fun ⟨h1, h2, h3⟩ i hi hl => ?_⟩
  · exact h 1 (by decide) ((hcond 1 (by decide)).mpr (.inl ⟨hh, rfl⟩))
  · exact h 5 (by decide) ((hcond 5 (by decide)).mpr (.inr (.inl ⟨hm, rfl⟩)))
  · exact h 7 (by decide) ((hcond 7 (by decide)).mpr (.inr (.inr ⟨hi, rfl⟩)))
  · rcases (hcond i hi).mp hl with ⟨h, rfl⟩ | ⟨h, rfl⟩ | ⟨h, rfl⟩
    · exact h1 h
    · exact h2 h
    · exact h3 h

/-- No level condition comes to hold that was not pending before, and no level cause is cleared. -/
structure State.LevelFrame (s t : State) : Prop where
  headDown : t.headDown = true → s.headDown = true ∨ t.isPending .headDown = true
  moduleOffline : t.moduleOffline = true → s.moduleOffline = true ∨ t.isPending .moduleOffline = true
  inhibitActive : t.inhibitActive = true → s.inhibitActive = true ∨ t.isPending .inhibitActive = true
  pending : ∀ x, s.isPending x = true → t.isPending x = true

namespace State.LevelFrame

@[refl] theorem refl (s : State) : s.LevelFrame s := ⟨.inl, .inl, .inl, fun _ => id⟩

@[trans] theorem trans (h : s.LevelFrame t) (k : t.LevelFrame u) : s.LevelFrame u where
  headDown hu := (k.headDown hu).elim (fun ht => (h.headDown ht).imp_right (k.pending _)) .inr
  moduleOffline hu := (k.moduleOffline hu).elim (fun ht => (h.moduleOffline ht).imp_right (k.pending _)) .inr
  inhibitActive hu := (k.inhibitActive hu).elim (fun ht => (h.inhibitActive ht).imp_right (k.pending _)) .inr
  pending x hx := k.pending x (h.pending x hx)

theorem levels (h : s.LevelFrame t) (hs : s.levelsPending) : t.levelsPending := by
  obtain ⟨h1, h2, h3⟩ := s.levelsPending_iff.mp hs
  refine t.levelsPending_iff.mpr ⟨fun ht => ?_, fun ht => ?_, fun ht => ?_⟩
  · exact (h.headDown ht).elim (fun hd => h.pending _ (h1 hd)) id
  · exact (h.moduleOffline ht).elim (fun hd => h.pending _ (h2 hd)) id
  · exact (h.inhibitActive ht).elim (fun hd => h.pending _ (h3 hd)) id

/-- Heads, modules, tables and filtered inputs as before, and no cause cleared. -/
theorem of_eq (hh : t.scan.heads = s.scan.heads := by rfl) (hm : t.saw.modules = s.saw.modules := by rfl)
    (ht : t.tables = s.tables := by rfl) (hi : t.field.inputs = s.field.inputs := by rfl)
    (hp : ∀ x, s.isPending x = true → t.isPending x = true := by exact fun _ h => h) : s.LevelFrame t where
  headDown h := .inl (by unfold State.headDown at h ⊢; rwa [hh] at h)
  moduleOffline h := .inl (by unfold State.moduleOffline State.activeModules at h ⊢; rwa [ht, hm] at h)
  inhibitActive h := .inl (by unfold State.inhibitActive State.inputActive at h ⊢; rwa [ht, hi] at h)
  pending := hp

end State.LevelFrame

end

end Sys2Proof.Machine


/-! PROOF. Calm events and chains of events: every command but POWER_ON and a restart is a chain of a few kinds of events, each of
which is shown once to keep a property. -/

namespace Sys2Proof.Machine

-- One proof after the other: together they would ask for more threads than the check has memory for.
set_option Elab.async false

/-! ## Calm events -/

/-- An event that changes neither the runs nor the tables and leaves every slot in its place, with what it keeps of the invariant.
`I` is the invariant before the command that the event is part of. -/
structure State.Even (I : Prop) (s t : State) : Prop where
  ring : I → s.InvButPos → ∃ g : Slot → Slot, t.tracker.ring = s.tracker.ring.map g ∧ ∀ x ∈ s.tracker.ring, x.InPlace (g x)
  nextTag : t.tracker.nextTag = s.tracker.nextTag
  tables : t.tables = s.tables
  runs : t.runs = s.runs
  memory : s.memoryKept → t.memoryKept
  pos : s.posKept → t.posKept
  request : s.requestKept → t.requestKept
  queues : I → s.queuesKept → t.queuesKept
  slots : I → s.InvButPos → t.slotsKept
  exchange : I → s.InvButPos → t.exchangeKept
  claims : I → s.InvButPos → t.claimsKept

/-- Such an event after which the level causes are pending and the outputs judged where they were before. -/
structure State.Calm (I : Prop) (s t : State) : Prop extends State.Even I s t where
  levels : s.levelsPending → t.levelsPending
  judged : I → s.InvButPos → s.outputsJudged → t.outputsJudged

namespace State.Even
variable {I : Prop} {s t u : State}

/-- Slots in their place: their keys but for the eye flag. -/
theorem places (h : s.Even I t) (hI : I) (hs : s.InvButPos) :
    (t.tracker.ring.map fun x => (x.tag, x.offset, x.kind, x.run, x.passed)) =
      s.tracker.ring.map fun x => (x.tag, x.offset, x.kind, x.run, x.passed) := by
  obtain ⟨g, hr, hg⟩ := h.ring hI hs
  rw [hr, List.map_map]
  refine List.map_congr_left fun x hx => ?_
  obtain ⟨⟨htag, -, -, -, -⟩, ho, hk, hrun, hp⟩ := hg x hx
  simp only [Function.comp, htag, ho, hk, hrun, hp]

theorem inv (h : s.Even I t) (hI : I) (hs : s.InvButPos) : t.InvButPos where
  memory := h.memory hs.memory
  geometry := by
    have := hs.geometry
    rwa [State.geometryKept, State.geo, h.tables]
  ring := by
    obtain ⟨h1, h2, h3, h4⟩ := hs.ring
    have hp := h.places hI hs
    have proj : ∀ {α : Type} (f : Slot → α) (f' : Nat × Nat × SlotKind × Nat × List Station → α),
        (∀ x : Slot, f x = f' (x.tag, x.offset, x.kind, x.run, x.passed)) → t.tracker.ring.map f = s.tracker.ring.map f := by
      intro α f f' hf
      have := congrArg (List.map f') hp
      simp only [List.map_map] at this
      rwa [show f = f' ∘ fun x : Slot => (x.tag, x.offset, x.kind, x.run, x.passed) from funext hf]
    have htag := proj (·.tag) (·.1) fun _ => rfl
    have hlen : t.tracker.ring.length = s.tracker.ring.length := by
      simpa using congrArg List.length htag
    obtain ⟨g, hr, hg⟩ := h.ring hI hs
    refine ⟨by rwa [proj (·.offset) (·.2.1) fun _ => rfl], fun y hy => ?_, by rw [htag, hlen, h.nextTag]; exact h3, h.nextTag ▸ h4⟩
    rw [hr] at hy
    obtain ⟨x, hx, rfl⟩ := List.mem_map.mp hy
    obtain ⟨-, ho, hk, -, hpass⟩ := hg x hx
    rw [ho, hk, hpass]
    exact h2 x hx
  slots := h.slots hI hs
  exchange := h.exchange hI hs
  claims := h.claims hI hs
  queues := h.queues hI hs.queues
  runs := by
    refine hs.runs.of_places h.runs ?_
    have := congrArg (List.map fun p : Nat × Nat × SlotKind × Nat × List Station => (p.2.2.2.1, p.2.2.1)) (h.places hI hs)
    rw [List.map_map, List.map_map] at this
    exact this
  request := h.request hs.request

theorem trans (h : s.Even I u) (k : u.Even I t) : s.Even I t where
  ring hI hs := by
    obtain ⟨f, hf, hf'⟩ := h.ring hI hs
    obtain ⟨g, hg, hg'⟩ := k.ring hI (h.inv hI hs)
    refine ⟨g ∘ f, by rw [hg, hf, List.map_map], fun x hx => ?_⟩
    exact (hf' x hx).trans (hg' (f x) (hf ▸ List.mem_map_of_mem hx))
  nextTag := k.nextTag.trans h.nextTag
  tables := k.tables.trans h.tables
  runs := k.runs.trans h.runs
  memory hs := k.memory (h.memory hs)
  pos hs := k.pos (h.pos hs)
  request hs := k.request (h.request hs)
  queues hI hs := k.queues hI (h.queues hI hs)
  slots hI hs := k.slots hI (h.inv hI hs)
  exchange hI hs := k.exchange hI (h.inv hI hs)
  claims hI hs := k.claims hI (h.inv hI hs)

/-- An event that changes no slot. -/
theorem still (ring : t.tracker.ring = s.tracker.ring := by rfl) (nextTag : t.tracker.nextTag = s.tracker.nextTag := by rfl)
    (tables : t.tables = s.tables := by rfl) (runs : t.runs = s.runs := by rfl) (solving : t.solving = s.solving := by rfl)
    (exchange : ∀ ex ∈ t.saw.exchange, ∃ ex' ∈ s.saw.exchange, ex'.tag = ex.tag := by exact fun ex h => ⟨ex, h, rfl⟩)
    (memory : s.memoryKept → t.memoryKept := by exact id) (pos : s.posKept → t.posKept := by exact id)
    (request : s.requestKept → t.requestKept := by exact id)
    (queues : I → s.queuesKept → t.queuesKept := by exact fun _ h => h) : s.Even I t where
  ring _ _ := ⟨id, by rw [ring, List.map_id], fun x _ => .refl x⟩
  nextTag := nextTag
  tables := tables
  runs := runs
  memory := memory
  pos := pos
  request := request
  queues := queues
  slots _ h := by
    have := s.slotsKept_iff.mp h.slots
    rwa [← solving, ← ring, ← State.slotsKept_iff] at this
  exchange _ h := by
    intro ex hex
    obtain ⟨ex', hex', ht⟩ := exchange ex hex
    obtain ⟨x, hx, hxt, hrest⟩ := h.exchange ex' hex'
    exact ⟨x, ring ▸ hx, hxt.trans ht, hrest⟩
  claims _ h := by
    intro c
    have := h.claims c
    rw [State.claims_length] at this ⊢
    rwa [ring]

/-- An event that changes slots in their place. -/
theorem of_map {g : Slot → Slot} (ring : t.tracker.ring = s.tracker.ring.map g)
    (place : s.InvButPos → ∀ x ∈ s.tracker.ring, x.InPlace (g x))
    (slots : I → s.InvButPos → t.slotsKept) (claims : I → s.InvButPos → t.claimsKept)
    (nextTag : t.tracker.nextTag = s.tracker.nextTag := by rfl)
    (tables : t.tables = s.tables := by rfl) (runs : t.runs = s.runs := by rfl)
    (exchange : ∀ ex ∈ t.saw.exchange, ∃ ex' ∈ s.saw.exchange, ex'.tag = ex.tag := by exact fun ex h => ⟨ex, h, rfl⟩)
    (memory : s.memoryKept → t.memoryKept := by exact id) (pos : s.posKept → t.posKept := by exact id)
    (request : s.requestKept → t.requestKept := by exact id)
    (queues : I → s.queuesKept → t.queuesKept := by exact fun _ h => h) : s.Even I t where
  ring _ h := ⟨g, ring, place h⟩
  nextTag := nextTag
  tables := tables
  runs := runs
  memory := memory
  pos := pos
  request := request
  queues := queues
  slots := slots
  exchange _ h := by
    refine h.exchange.of_map ring exchange fun x hx ex _ ht hc hcm htr => ?_
    have hp := place h x hx
    obtain ⟨c, hc⟩ := Option.isSome_iff_exists.mp hc
    obtain ⟨d, hd, -⟩ := hp.commit c hc
    exact ⟨hp.tag, by rw [hd]; rfl, hp.passed ▸ hcm, hp.passed ▸ htr⟩
  claims := claims

/-- The slots after a change of each in its place, the engine at the same piece or at none. -/
theorem slots_of_map {g : Slot → Slot} (h : s.InvButPos) (ring : t.tracker.ring = s.tracker.ring.map g)
    (place : ∀ x ∈ s.tracker.ring, x.InPlace (g x))
    (sound : ∀ x ∈ s.tracker.ring, x.Sound s.solving → (x.solve = none → s.solving ≠ some x.tag) →
      (g x).Sound t.solving ∧ (x.solve.isSome → (g x).solve.isSome))
    (solving : ∀ tag, t.solving = some tag → s.solving = some tag) : t.slotsKept := by
  obtain ⟨hsound, hpiece⟩ := s.slotsKept_iff.mp h.slots
  have hsol : ∀ x ∈ s.tracker.ring, x.solve = none → s.solving ≠ some x.tag := by
    intro x hx hn he
    obtain ⟨y, hy, ht, hs⟩ := hpiece _ he
    rw [h.ring.eq_of_tag hy hx ht, hn] at hs
    cases hs
  exact h.slots.of_map ring (fun x hx => (sound x hx (hsound x hx) (hsol x hx)).1) solving fun x hx =>
    ⟨(place x hx).tag, (sound x hx (hsound x hx) (hsol x hx)).2⟩

/-- An event that changes slots in their place, gives no claim and starts no solve. -/
theorem of_slots {g : Slot → Slot} (ring : t.tracker.ring = s.tracker.ring.map g)
    (place : s.InvButPos → ∀ x ∈ s.tracker.ring, x.InPlace (g x))
    (sound : s.InvButPos → ∀ x ∈ s.tracker.ring, x.Sound s.solving → (x.solve = none → s.solving ≠ some x.tag) →
      (g x).Sound t.solving ∧ (x.solve.isSome → (g x).solve.isSome))
    (holder : ∀ x ∈ s.tracker.ring, (g x).console.holder = x.console.holder ∨ (g x).console.holder = none)
    (nextTag : t.tracker.nextTag = s.tracker.nextTag := by rfl)
    (tables : t.tables = s.tables := by rfl) (runs : t.runs = s.runs := by rfl)
    (solving : ∀ tag, t.solving = some tag → s.solving = some tag := by exact fun _ h => h)
    (exchange : ∀ ex ∈ t.saw.exchange, ∃ ex' ∈ s.saw.exchange, ex'.tag = ex.tag := by exact fun ex h => ⟨ex, h, rfl⟩)
    (memory : s.memoryKept → t.memoryKept := by exact id) (pos : s.posKept → t.posKept := by exact id)
    (request : s.requestKept → t.requestKept := by exact id)
    (queues : I → s.queuesKept → t.queuesKept := by exact fun _ h => h) : s.Even I t :=
  of_map ring place (fun _ h => slots_of_map h ring (place h) (sound h) solving) (fun _ h => h.claims.of_map ring holder) nextTag tables
    runs exchange memory pos request queues

end State.Even

namespace State.Calm
variable {I : Prop} {s t u : State}

theorem trans (h : s.Calm I u) (k : u.Calm I t) : s.Calm I t :=
  ⟨h.toEven.trans k.toEven, fun hs => k.levels (h.levels hs), fun hI hi hs => k.judged hI (h.inv hI hi) (h.judged hI hi hs)⟩

@[refl] theorem refl (s : State) : s.Calm I s := ⟨.still, id, fun _ _ h => h⟩

/-- An even event that leaves heads, modules and inputs and clears no cause, with the outputs judged. -/
theorem of_even (h : s.Even I t) (levels : s.LevelFrame t := by exact .of_eq)
    (judged : I → s.InvButPos → s.outputsJudged → t.outputsJudged := by exact fun _ _ h => h) : s.Calm I t :=
  ⟨h, levels.levels, judged⟩

end State.Calm

/-! ## Chains -/

/-- From a state through a number of advances to a state, event by event. `I` is the invariant before the first. -/
inductive State.Chain (I : Prop) : Nat → State → State → Prop where
  | refl (s : State) : Chain I 0 s s
  | calm {n : Nat} {s u t : State} : Chain I n s u → u.Calm I t → Chain I n s t
  | logEntry {n : Nat} {s u : State} (fault : Option LogFault) (m : LogMeasures) (reject : Option RejectReason) :
      Chain I n s u → Chain I n s (u.enter u.logSeq (logEntry fault m reject))
  | openRun {n : Nat} {s u : State} (p : Fin 8) : Chain I n s u → u.cutoverPending = false → u.runs.hasRoom = true →
      Chain I n s { u with runs := u.runs.openRun p }
  | cutOver {n : Nat} {s u : State} : Chain I n s u → u.cutoverPending = true →
      Chain I n s (u.setRuns (·.map (Run.cutOver (u.drainedState u.boardSeq))))
  | releaseRun {n : Nat} {s u : State} (seq : Nat) (r : Run) : Chain I n s u → u.run? seq = some r → r.state = .closed →
      Chain I n s (u.setRuns (·.filter (·.seq != seq)))
  | clearLine {n : Nat} {s u : State} : Chain I n s u → Chain I n s u.clearLine
  | advance {n : Nat} {s u : State} (f : Tracker → Tracker) (synth : Bool) (pos : Nat) (last : LastAdvance) : Chain I n s u →
      ((f u.tracker).ring, (f u.tracker).nextTag) = (u.tracker.ring, u.tracker.nextTag) →
      (u.geo.valid = true → pos < u.geo.windowEnd) →
      Chain I (n + 1) s (((u.setTracker f).advance synth).setPos pos last)
  | tables {n k : Nat} {s u t : State} (new : Tables) : Chain I n s u →
      (I → u.InvButPos → new.geometry.valid = true ∧ new.sawBus.modules = new.geometry.modules) →
      Chain I k (u.beforeInputs new) t → (u.levelsPending → t.levelsPending) → Chain I (n + k) s t

namespace State.Chain
variable {I : Prop} {n k : Nat} {s t u : State}

theorem trans (h : Chain I n s u) (hk : Chain I k u t) : Chain I (n + k) s t := by
  induction hk with
  | refl => exact h
  | calm _ hc ih => exact .calm (ih h) hc
  | logEntry fault m reject _ ih => exact .logEntry fault m reject (ih h)
  | openRun p _ h1 h2 ih => exact .openRun p (ih h) h1 h2
  | cutOver _ h1 ih => exact .cutOver (ih h) h1
  | releaseRun seq r _ h1 h2 ih => exact .releaseRun seq r (ih h) h1 h2
  | clearLine _ ih => exact .clearLine (ih h)
  | advance f synth pos last _ h1 h2 ih => exact .advance f synth pos last (ih h) h1 h2
  | tables new _ h1 hk hl ih _ => rw [← Nat.add_assoc]; exact .tables new (ih h) h1 hk hl

theorem of_calm (h : s.Calm I t) : Chain I 0 s t := .calm (.refl s) h

/-- A chain of calm events, one more at its end. -/
theorem after (k : u.Calm I t) (h : Chain I n s u) : Chain I n s t := .calm h k

end State.Chain

end Sys2Proof.Machine


/-! PROOF. The shared operations, the solver, the saw bus and the consoles as chains of calm events. -/

namespace Sys2Proof.Machine

-- One proof after the other: together they would ask for more threads than the check has memory for.
set_option Elab.async false

/-! ## Causes, reports, replies and receivers -/

section
variable {I : Prop}

theorem State.Even.raise (s : State) (x : Cause) : s.Even I (s.raise x) :=
  .still (by simp) (by simp) (by simp) (by simp) (by simp [State.solving]) (fun ex h => ⟨ex, by simpa using h, rfl⟩)
    (fun h => by rwa [State.memoryKept, State.raise_store])
    (fun h => by rwa [State.posKept, State.geo, State.raise_tracker, State.raise_tables])
    (fun h => by
      unfold State.requestKept State.heldWrite at h ⊢
      rwa [State.raise_inProcess, State.raise_store])
    (fun _ ⟨h1, h2, h3, h4, h5⟩ => by
      have hr := (s.raise_port x).2.2.2.2.2
      refine ⟨by omega, ?_, ?_, ?_, ?_⟩
      · rwa [State.raise_replies, State.raise_inProcess]
      · rwa [State.raise_consoles]
      · rwa [State.raise_lane]
      · rwa [State.raise_lane])

theorem State.LevelFrame.raise (s : State) (x : Cause) : s.LevelFrame (s.raise x) :=
  .of_eq (by simp) (by simp) (by simp) (by simp) (s.raise_isPending x).2

end

namespace State.Calm
variable {I : Prop}

theorem raise (s : State) (x : Cause) : s.Calm I (s.raise x) :=
  .of_even (.raise s x) (.raise s x) fun _ _ => State.raise_outputsJudged x

theorem report (s : State) (k : Byte) (p : List Byte) : s.Calm I (s.report k p) := by
  obtain ⟨hr, hpend, -, -, hi, -, hl⟩ := s.ctl.report_keeps k p
  refine .of_even (.still (queues := fun _ ⟨h1, h2, h3⟩ => ?_) (request := fun h => ?_))
    (.of_eq (hp := fun x h => hpend x.number.val h)) fun _ _ _ => State.judge_outputsJudged _
  · unfold State.requestKept State.heldWrite at h ⊢
    show (∀ w, (match (s.ctl.report k p).inProcess with | some (.heldWrite w) => some w | _ => none) = some w → _) ∧
      ∀ f, _ → (s.ctl.report k p).inProcess = _
    rwa [hi]
  · refine ⟨?_, ?_, h3⟩
    · show (s.ctl.report k p).reports.length ≤ 64
      omega
    · show (s.ctl.report k p).replies.length ≤ if (s.ctl.report k p).inProcess.isSome then 8 else 9
      rwa [hr, hi]

/-- A reply made while fewer than 8 wait. -/
theorem reply {s : State} (h : s.ctl.replies.length < 8) (f : Frame) : s.Calm I (s.reply f) :=
  .of_even <| .still (queues := fun _ ⟨h1, h2, h3⟩ => by
    refine ⟨h1, ?_, h3⟩
    show (s.ctl.replies ++ [f]).length ≤ if s.ctl.inProcess.isSome then 8 else 9
    rw [List.length_append, List.length_singleton]
    split <;> omega)

theorem received (s : State) (l : Link) (p : List Byte) : s.Calm I (s.received l p) := .of_even .still

theorem countDiscard (s : State) (l : Link) : s.Calm I (s.countDiscard l) := .of_even .still

/-- Outputs set and judged. -/
theorem outputs (s : State) (outs : Bank 8 Output) : s.Calm I (s.setOutputs outs).judge :=
  .of_even .still (judged := fun _ _ _ => State.judge_outputsJudged _)

theorem judge (s : State) : s.Calm I s.judge := .of_even .still (judged := fun _ _ _ => State.judge_outputsJudged _)

theorem pulse (s : State) (f : OutputFunction) : s.Calm I (s.pulse f) := outputs s _

/-! ## The saw bus (R105 to R112) -/

theorem sendOnBus (s : State) (f : Frame) : s.Calm I (s.sendOnBus f) := .of_even .still

theorem endWait (s : State) : s.Calm I s.endWait := .of_even .still

theorem discardBus (s : State) : s.Calm I s.discardBus := .of_even .still

/-- A module counts, or records what it was told; none goes OFFLINE. -/
theorem setModule (s : State) (m : Fin 2) {f : Module → Module}
    (hf : ∀ x : Module, x.online = true → (f x).online = true) : s.Calm I (s.setModule m f) := by
  refine .of_even .still ⟨.inl, fun h => .inl ?_, .inl, fun _ h => h⟩
  unfold State.moduleOffline at h ⊢
  obtain ⟨i, hi, ho⟩ := List.any_eq_true.mp h
  refine List.any_eq_true.mpr ⟨i, hi, ?_⟩
  have ho' : (!((s.saw.modules.modify m f).get i).online) = true := ho
  rw [Bank.get_modify] at ho'
  by_cases him : i = m
  · rw [if_pos him] at ho'
    cases hon : (s.saw.modules.get i).online with
    | false => rfl
    | true => rw [hf _ (him ▸ hon)] at ho'; cases ho'
  · rwa [if_neg him] at ho'

/-- A module goes OFFLINE and its cause is raised (R108, R110). -/
theorem offline (s : State) (m : Fin 2) : s.Calm I ((s.setModule m fun m => { m with online := false }).raise .moduleOffline) := by
  refine .of_even ((State.Even.still : s.Even I (s.setModule m _)).trans (.raise _ _)) ?_ fun _ _ h => ?_
  · obtain ⟨hpend, hkeep⟩ := (s.setModule m fun m => { m with online := false }).raise_isPending .moduleOffline
    have h := State.LevelFrame.raise (s.setModule m fun m => { m with online := false }) .moduleOffline
    exact ⟨fun hd => (h.headDown hd), fun _ => .inr hpend, fun hd => h.inhibitActive hd, fun x hx => hkeep x hx⟩
  · exact State.raise_outputsJudged (s := s.setModule m fun m => { m with online := false }) _ h

/-- The exchange goes on, or another of the same piece takes its place. -/
theorem setExchange (s : State) (f : SawBus → SawBus) (hm : (f s.saw).modules = s.saw.modules)
    (he : ∀ ex ∈ (f s.saw).exchange, ∃ ex' ∈ s.saw.exchange, ex'.tag = ex.tag) : s.Calm I (s.setSaw f) :=
  .of_even (.still (exchange := he)) (.of_eq (hm := hm))

theorem sendRead (s : State) (ex : Exchange) (he : ∃ ex' ∈ s.saw.exchange, ex'.tag = ex.tag) : s.Calm I (s.sendRead ex) := by
  unfold State.sendRead
  split
  · exact setExchange s _ rfl fun _ h => by cases h; exact he
  · exact (setExchange s (fun b => { b with exchange := some { ex with phase := .readState }, wait := some (2 * ex.timeout) })
      rfl fun _ h => by cases h; exact he).trans (sendOnBus _ _)

theorem beginModule (s : State) (tag timeout i : Nat) (he : ∃ ex' ∈ s.saw.exchange, ex'.tag = tag) :
    s.Calm I (s.beginModule tag timeout i) := by
  unfold State.beginModule
  split
  · split
    · exact sendRead s _ he
    · exact setExchange s _ rfl nofun
  · exact setExchange s _ rfl nofun

/-- A commit record changed, the decision kept. -/
theorem setCommit (s : State) (tag : Nat) {f : CommitRecord → CommitRecord} (hf : ∀ c : CommitRecord, c.SameDecision (f c)) :
    s.Calm I (s.updateSlot tag (·.setCommit f)) := by
  have hcalls : ∀ x ∈ s.tracker.ring, ∀ g, (if x.tag == tag then x.setCommit f else x).calls g = x.calls g := by
    intro x _ g
    split <;> rfl
  refine .of_even (.of_slots rfl (fun _ x _ => ?_) (fun _ x _ hx _ => ?_) fun x _ => .inl ?_)
    (judged := fun _ _ h => h.of_eq rfl rfl rfl (any_calls_map hcalls))
  · split
    · exact ⟨.setCommit x hf, rfl, rfl, rfl, rfl⟩
    · rfl
  · split
    · exact ⟨hx.setCommit f, id⟩
    · exact ⟨hx, id⟩
  · split <;> rfl

theorem moduleDone (s : State) (ex : Exchange) (r : ModuleResult) (he : ∃ ex' ∈ s.saw.exchange, ex'.tag = ex.tag) :
    s.Calm I (s.moduleDone ex r) :=
  (setCommit s ex.tag (f := fun c => { c with results := c.results.set ex.module r }) fun c => by constructor <;> rfl).trans
    (beginModule _ _ _ _ he)

theorem failAttempt (s : State) (ex : Exchange) (b : Bool) (he : ∃ ex' ∈ s.saw.exchange, ex'.tag = ex.tag) :
    s.Calm I (s.failAttempt ex b) := by
  unfold State.failAttempt
  dsimp only
  split
  · exact sendRead _ _ he
  · split
    · refine (offline s ex.module).trans (moduleDone _ _ _ ?_)
      rwa [State.raise_saw]
    · exact moduleDone _ _ _ he

theorem of_awaits {b : SawBus} {a : Nat} {p : Phase → Bool} {ex : Exchange} (h : b.awaits a p = some ex) : b.exchange = some ex := by
  unfold SawBus.awaits at h
  split at h
  · next ex' he =>
    split at h
    · cases h
      exact he
    · cases h
  · cases h

theorem takeState (s : State) (p : List Byte) : s.Calm I (s.takeState p) := by
  unfold State.takeState
  split
  · exact discardBus s
  · split
    · exact discardBus s
    · next ex hex =>
      have he := of_awaits hex
      refine ((endWait s).trans (setModule _ _ fun x hx => ?_)).trans (setExchange _ _ rfl ?_)
      · show (x.online || ex.probe) = true
        rw [hx]
        rfl
      · rintro _ ⟨⟩
        exact ⟨ex, he, rfl⟩

theorem takeAck (s : State) (p : List Byte) : s.Calm I (s.takeAck p) := by
  unfold State.takeAck
  split
  · exact discardBus s
  · next ex hex =>
    obtain ⟨a, -, ha⟩ := Option.bind_eq_some_iff.mp hex
    have he := of_awaits ha
    split
    · exact discardBus s
    · next r _ =>
      exact ((endWait s).trans (setCommit _ ex.tag (f := CommitRecord.accept s.geo.saws ex.module r) fun c => by
        constructor <;> rfl)).trans (moduleDone _ _ _ ⟨ex, he, rfl⟩)

theorem takeRetry (s : State) (p : List Byte) : s.Calm I (s.takeRetry p) := by
  unfold State.takeRetry
  split
  · exact discardBus s
  · next ex hex =>
    obtain ⟨a, -, ha⟩ := Option.bind_eq_some_iff.mp hex
    have he := of_awaits ha
    exact ((endWait s).trans (setModule _ ex.module (f := fun m => { m with retries := bump m.retries }) fun _ h => h)).trans
      (failAttempt _ _ _ ⟨ex, he, rfl⟩)

theorem takeFault (s : State) (p : List Byte) : s.Calm I (s.takeFault p) := by
  unfold State.takeFault
  split
  · exact discardBus s
  · split
    · exact discardBus s
    · next ex hex =>
      have he := of_awaits hex
      refine (((endWait s).trans (setModule _ ex.module fun x hx => ?_)).trans (raise _ _)).trans (moduleDone _ _ _ ?_)
      · show (x.online || ex.probe) = true
        rw [hx]
        rfl
      · rw [State.raise_saw]
        exact ⟨ex, he, rfl⟩

theorem replyTimeout (s : State) : s.Calm I s.replyTimeout := by
  unfold State.replyTimeout
  split
  · rfl
  · exact endWait s
  · next ex _ he =>
    split
    · exact (endWait s).trans (sendRead _ _ ⟨ex, he, rfl⟩)
    · exact endWait s
    · have h0 := (endWait (I := I) s).trans (setModule _ ex.module (f := fun m => { m with timeouts := bump m.timeouts }) fun _ h => h)
      dsimp only
      split
      · exact h0.trans (moduleDone _ _ _ ⟨ex, he, rfl⟩)
      · exact h0.trans (failAttempt _ _ _ ⟨ex, he, rfl⟩)

theorem sendPattern (s : State) : s.Calm I s.sendPattern := by
  unfold State.sendPattern
  split
  · next ex he =>
    split
    · split
      · exact (setExchange s _ rfl (by rintro _ ⟨⟩; exact ⟨ex, he, rfl⟩)).trans (sendOnBus _ _)
      · rfl
    · rfl
  · rfl

end State.Calm

end Sys2Proof.Machine


/-! PROOF. The solver, the consoles, the scan and the Lane as chains of calm events. -/

namespace Sys2Proof.Machine

-- One proof after the other: together they would ask for more threads than the check has memory for.
set_option Elab.async false

/-! ## One slot changed in its place -/

section
variable {I : Prop} {s : State} {tag : Nat} {f : Slot → Slot}

theorem inPlace_change (hf : ∀ x ∈ s.tracker.ring, x.tag = tag → x.InPlace (f x)) :
    ∀ x ∈ s.tracker.ring, x.InPlace (if x.tag == tag then f x else x) := by
  intro x hx
  split
  · next h => exact hf x hx (beq_iff_eq.mp h)
  · rfl

theorem calls_change (hf : ∀ x ∈ s.tracker.ring, x.tag = tag → ∀ g, (f x).calls g = x.calls g) :
    ∀ x ∈ s.tracker.ring, ∀ g, (if x.tag == tag then f x else x).calls g = x.calls g := by
  intro x hx g
  split
  · next h => exact hf x hx (beq_iff_eq.mp h) g
  · rfl

/-- The slot with a tag changed in its place, its claim kept or ended. -/
theorem State.Even.updateSlot (place : ∀ x ∈ s.tracker.ring, x.tag = tag → x.InPlace (f x))
    (sound : ∀ x ∈ s.tracker.ring, x.tag = tag → x.Sound s.solving → (x.solve = none → s.solving ≠ some x.tag) →
      (f x).Sound s.solving ∧ (x.solve.isSome → (f x).solve.isSome))
    (holder : ∀ x ∈ s.tracker.ring, x.tag = tag → (f x).console.holder = x.console.holder ∨ (f x).console.holder = none) :
    s.Even I (s.updateSlot tag f) := by
  refine .of_slots rfl (fun _ => inPlace_change place) (fun _ x hx hs hn => ?_) fun x hx => ?_
  · split
    · next h => exact sound x hx (beq_iff_eq.mp h) hs hn
    · exact ⟨hs, id⟩
  · split
    · next h => exact holder x hx (beq_iff_eq.mp h)
    · exact .inl rfl

/-- Such a change that leaves what the slot calls for. -/
theorem State.Calm.updateSlot (place : ∀ x ∈ s.tracker.ring, x.tag = tag → x.InPlace (f x))
    (sound : ∀ x ∈ s.tracker.ring, x.tag = tag → x.Sound s.solving → (x.solve = none → s.solving ≠ some x.tag) →
      (f x).Sound s.solving ∧ (x.solve.isSome → (f x).solve.isSome))
    (holder : ∀ x ∈ s.tracker.ring, x.tag = tag → (f x).console.holder = x.console.holder ∨ (f x).console.holder = none)
    (calls : ∀ x ∈ s.tracker.ring, x.tag = tag → x.Sound s.solving → ∀ g, (f x).calls g = x.calls g) : s.Calm I (s.updateSlot tag f) :=
  .of_even (.updateSlot place sound holder) (judged := fun _ hi h => h.of_eq rfl rfl rfl <| any_calls_map <|
    calls_change fun x hx ht => calls x hx ht ((s.slotsKept_iff.mp hi.slots).1 x hx))

end

/-! ## The solver (R51 to R55) -/

section
variable {I : Prop}

/-- A solve record that keeps whether it is CLOSED and whether it is SOLVING keeps its slot sound. -/
theorem Slot.Sound.setSolve {e : Option Nat} {x : Slot} (h : x.Sound e) {f : SolveRecord → SolveRecord}
    (hf : ∀ r ∈ x.solve, ((f r).status = .closed ↔ r.status = .closed) ∧ ((f r).status = .solving ↔ r.status = .solving)) :
    (x.setSolve f).Sound e :=
  { h with
    solve := by simpa [Slot.setSolve] using h.solve
    handedOver := by simpa [Slot.setSolve] using h.handedOver
    status := fun r hr => by
      obtain ⟨q, hq, rfl⟩ := Option.mem_map.mp hr
      obtain ⟨h1, h2⟩ := h.status q hq
      obtain ⟨f1, f2⟩ := hf q hq
      exact ⟨f1.trans h1, f2.trans h2⟩ }

theorem Slot.solution_setSolve (x : Slot) {f : SolveRecord → SolveRecord} (hf : ∀ r, (f r).solution = r.solution) :
    (x.setSolve f).solution = x.solution := by
  unfold Slot.solution Slot.setSolve
  cases x.solve with
  | none => rfl
  | some r => exact hf r

/-- A solve record that keeps its solution keeps what its slot calls for. -/
theorem Slot.calls_setSolve (x : Slot) {f : SolveRecord → SolveRecord} (hf : ∀ r, (f r).solution = r.solution) (g : Nat) :
    (x.setSolve f).calls g = x.calls g :=
  Slot.calls_congr (x := x) (y := x.setSolve f) rfl rfl rfl (x.solution_setSolve hf) g

theorem nearestCommit_mem {best : Option Slot} {l : List Slot} {x : Slot} (h : nearestCommit best l = some x) :
    x ∈ l ∨ best = some x := by
  induction l generalizing best with
  | nil => exact .inr h
  | cons y l ih =>
    rcases ih h with hm | hb
    · exact .inl (List.mem_cons_of_mem _ hm)
    · split at hb
      · cases hb
        exact .inl List.mem_cons_self
      · split at hb
        · cases hb
          exact .inl List.mem_cons_self
        · exact .inr hb

/-- The slot that the arbiter takes is in the ring and QUEUED (R51). -/
theorem State.nearestCommit_some {s : State} {x : Slot} (h : nearestCommit none s.solveQueue = some x) :
    x ∈ s.tracker.ring ∧ ∃ r, x.solve = some r ∧ r.status = .queued := by
  rcases nearestCommit_mem h with hm | hn
  · obtain ⟨hx, hq⟩ := List.mem_filter.mp hm
    refine ⟨hx, ?_⟩
    have hq' : x.solve.map (·.status) = some .queued := by simpa [Slot.isQueued] using hq
    obtain ⟨r, hr, hs⟩ := Option.map_eq_some_iff.mp hq'
    exact ⟨r, hr, hs⟩
  · cases hn

theorem State.Calm.startSolve (s : State) : s.Calm I s.startSolve := by
  unfold State.startSolve
  split
  · next x he _ hn =>
    obtain ⟨hx, r, hr, hq⟩ := State.nearestCommit_some hn
    have hs : s.solving = none := by
      rw [State.solving, he]
      rfl
    have hcalls : ∀ y ∈ s.tracker.ring, ∀ g, (if y.tag == x.tag then y.setSolve fun r => { r with status := .solving } else y).calls g
        = y.calls g := calls_change fun y _ _ g => y.calls_setSolve (f := fun r => { r with status := .solving }) (fun _ => rfl) g
    refine .of_even (.of_map rfl (fun _ => inPlace_change fun y _ _ => .of_eq) (fun _ h => ?_)
      fun _ h => h.claims.of_map rfl fun y _ => .inl (by split <;> rfl)) (judged := fun _ _ h => h.of_eq rfl rfl rfl (any_calls_map hcalls))
    obtain ⟨hsound, -⟩ := s.slotsKept_iff.mp h.slots
    refine (State.slotsKept_iff _).mpr ⟨fun y hy => ?_, fun t ht => ?_⟩
    · obtain ⟨z, hz, rfl⟩ := List.mem_map.mp hy
      have hsz := hsound z hz
      by_cases ht : z.tag = x.tag
      · obtain rfl := h.ring.eq_of_tag hz hx ht
        rw [if_pos (beq_iff_eq.mpr rfl)]
        refine { hsz with solve := ?_, handedOver := ?_, status := fun q hq' => ?_ }
        · simpa [Slot.setSolve] using hsz.solve
        · simpa [Slot.setSolve] using hsz.handedOver
        · obtain ⟨q, hq'', rfl⟩ := Option.mem_map.mp hq'
          obtain rfl : q = r := Option.some.inj (hq''.symm.trans hr)
          refine ⟨⟨nofun, fun hc => ?_⟩, fun _ => rfl, fun _ => rfl⟩
          exact absurd (((hsz.status q hr).1.mpr hc).symm.trans hq) nofun
      · rw [if_neg (by simpa using ht)]
        refine hsz.of_solving ?_
        rw [hs]
        exact ⟨fun h' => absurd (Option.some.inj h').symm ht, nofun⟩
    · have ht' : x.tag = t := Option.some.inj ht
      refine ⟨_, List.mem_map_of_mem hx, ?_, ?_⟩
      · rw [if_pos (beq_iff_eq.mpr rfl)]
        exact ht'
      · rw [if_pos (beq_iff_eq.mpr rfl)]
        show (x.solve.map _).isSome
        rw [hr]
        rfl
  · rfl

/-- The queues' bounds where the consoles alone change, each within its own. -/
theorem State.queuesKept.of_consoles {s t : State} (h : s.queuesKept)
    (hc : ∀ c : Fin 4, (s.consoles.get c).repliesWaiting ≤ 8 → (s.consoles.get c).offersWaiting ≤ 32 →
      (t.consoles.get c).repliesWaiting ≤ 8 ∧ (t.consoles.get c).offersWaiting ≤ 32)
    (hctl : t.ctl = s.ctl := by rfl) (hlane : t.lane = s.lane := by rfl) : t.queuesKept := by
  obtain ⟨h1, h2, h3, h4, h5⟩ := h
  exact ⟨hctl ▸ h1, hctl ▸ h2, fun c => hc c (h3 c).1 (h3 c).2, hlane ▸ h4, hlane ▸ h5⟩

theorem State.Calm.propose (s : State) (x : Slot) : s.Calm I (s.propose x) :=
  .of_even <| .still (queues := fun _ h => h.of_consoles fun c h1 h2 => by
    obtain ⟨k1, k2⟩ := (State.QueuesFrame.propose s x).consoles c h2
    exact ⟨k1 ▸ h1, k2⟩)

theorem State.Calm.completeSolve (s : State) : s.Calm I s.completeSolve := by
  unfold State.completeSolve
  split
  · rfl
  · next job hj =>
    have hs : s.solving = some job.tag := by
      rw [State.solving, hj]
      rfl
    dsimp only
    have h0 : s.Even I ((s.updateSlot job.tag (·.setSolve (·.complete (solve s.tables job)))).setSolver fun e =>
        { e with engine := none }) := by
      refine .of_slots rfl (fun _ => inPlace_change fun y _ _ => .of_eq) (fun _ y hy hsy _ => ?_) (fun y _ => .inl (by split <;> rfl))
        (solving := nofun)
      split
      · next ht =>
        have ht' : y.tag = job.tag := beq_iff_eq.mp ht
        refine ⟨{ hsy with solve := ?_, handedOver := ?_, status := fun q hq => ?_ }, fun h => by simpa [Slot.setSolve] using h⟩
        · simpa [Slot.setSolve] using hsy.solve
        · simpa [Slot.setSolve] using hsy.handedOver
        · obtain ⟨r, hr, rfl⟩ := Option.mem_map.mp hq
          obtain ⟨h1, h2⟩ := hsy.status r hr
          have hsol : r.status = .solving := h2.mpr (by rw [hs, ht'])
          refine ⟨⟨fun h => ?_, fun hc => absurd ((h1.mpr hc).symm.trans hsol) nofun⟩, ⟨fun h => ?_, nofun⟩⟩
          · exact absurd h (by simp only [SolveRecord.complete]; split <;> nofun)
          · exact absurd h (by simp only [SolveRecord.complete]; split <;> nofun)
      · next ht =>
        have ht' : ¬y.tag = job.tag := by simpa using ht
        refine ⟨hsy.of_solving ?_, id⟩
        rw [hs]
        exact ⟨nofun, fun h => absurd (Option.some.inj h).symm ht'⟩
    split
    · split
      · exact .of_even ((h0.trans (State.Calm.propose _ _).toEven).trans (State.Calm.judge _).toEven) (judged := fun _ _ _ => State.judge_outputsJudged _)
      · exact .of_even (h0.trans (State.Calm.judge _).toEven) (judged := fun _ _ _ => State.judge_outputsJudged _)
    · exact .of_even (h0.trans (State.Calm.judge _).toEven) (judged := fun _ _ _ => State.judge_outputsJudged _)

end

end Sys2Proof.Machine


/-! PROOF. The consoles' requests, the segments and the Lane as chains of calm events. -/

namespace Sys2Proof.Machine

-- One proof after the other: together they would ask for more threads than the check has memory for.
set_option Elab.async false

theorem countP_or_le {α : Type} (p q : α → Bool) (l : List α) : l.countP (fun x => p x || q x) ≤ l.countP p + l.countP q := by
  induction l with
  | nil => simp
  | cons x l ih =>
    simp only [List.countP_cons]
    cases p x <;> cases q x <;> simp <;> omega

/-! ## The consoles (R81 to R92) -/

section
variable {I : Prop}

namespace State.Calm

theorem setConsole (s : State) (c : Fin 4) {f : Console → Console}
    (hf : (s.consoles.get c).repliesWaiting ≤ 8 → (s.consoles.get c).offersWaiting ≤ 32 →
      (f (s.consoles.get c)).repliesWaiting ≤ 8 ∧ (f (s.consoles.get c)).offersWaiting ≤ 32) : s.Calm I (s.setConsole c f) :=
  .of_even <| .still (queues := fun _ h => h.of_consoles fun d h1 h2 => by
    show ((s.consoles.modify c f).get d).repliesWaiting ≤ 8 ∧ ((s.consoles.modify c f).get d).offersWaiting ≤ 32
    rw [Bank.get_modify]
    split
    · next hd => exact hf (hd ▸ h1) (hd ▸ h2)
    · exact ⟨h1, h2⟩)

theorem consoleReply {s : State} {c : Fin 4} (h : s.consoleReady c) (f : Frame) : s.Calm I (s.consoleReply c f) :=
  setConsole s c fun _ h2 => by
    obtain ⟨k1, k2⟩ := (s.consoles.get c).join_counts f
    have h : (s.consoles.get c).repliesWaiting < 8 := h
    exact ⟨by omega, by omega⟩

theorem consoleFrame {α : Type} {s : State} {c : Fin 4} {ft : Byte} {p : List Byte} {read : Option α}
    {take : State → α → State} (h : ∀ u : State, u.consoleReady c → ∀ a, State.Calm I u (take u a)) :
    s.Calm I (s.consoleFrame c ft p read take) :=
  State.consoleFrame_induct (P := s.Calm I) ((received s _ p).trans (countDiscard _ _))
    (fun hr => (received s _ p).trans (consoleReply (s := s.received (.console c) p) hr _))
    fun hr a _ => (received s _ p).trans (h (s.received (.console c) p) hr a)

/-- A request on a piece that changes its slot alone (R85). -/
theorem onPiece {s : State} {c : Fin 4} {ft : Byte} {tag : Nat} {valid : Bool} {checks : Slot → Option ConsoleReason}
    {act : State → State} (hready : s.consoleReady c) (hcon : (act s).consoles = s.consoles)
    (h : ∀ x, s.slot? tag = some x → x.console.window = .open → checks x = none → s.Calm I (act s)) :
    s.Calm I (s.onPiece c ft tag valid checks act) :=
  State.onPiece_induct (P := s.Calm I) (fun _ => consoleReply hready _) fun x hx _ hw hc _ =>
    (h x hx hw hc).trans (consoleReply (s := act s) (by rwa [State.consoleReady, hcon]) _)

theorem takeSubscribe {s : State} {c : Fin 4} (h : s.consoleReady c) (ft : Byte) : s.Calm I (s.takeSubscribe c ft) := by
  have hfold : ∀ (l : List Slot) (x : Console), x.offersWaiting ≤ 32 →
      (l.foldl (fun x y => x.offerSlot y) x).repliesWaiting = x.repliesWaiting
        ∧ (l.foldl (fun x y => x.offerSlot y) x).offersWaiting ≤ 32 := by
    intro l
    induction l with
    | nil => exact fun _ hx => ⟨rfl, hx⟩
    | cons y l ih =>
      intro x hx
      obtain ⟨h1, h2⟩ := Console.offerSlot_counts y hx
      obtain ⟨k1, k2⟩ := ih _ h2
      exact ⟨k1.trans h1, k2⟩
  refine setConsole s c fun _ h2 => ?_
  obtain ⟨k1, k2⟩ := ({ s.consoles.get c with subscribed := true } : Console).join_counts (donePlain ft)
  have hr : (s.consoles.get c).repliesWaiting < 8 := h
  have e1 : ({ s.consoles.get c with subscribed := true } : Console).repliesWaiting = (s.consoles.get c).repliesWaiting := rfl
  have e2 : ({ s.consoles.get c with subscribed := true } : Console).offersWaiting = (s.consoles.get c).offersWaiting := rfl
  obtain ⟨f1, f2⟩ := hfold (s.tracker.ring.filter (·.console.window == .open)) _ (k2 ▸ e2 ▸ h2)
  exact ⟨(f1.trans (k1.trans (congrArg (· + 1) e1))).trans_le hr, f2⟩

theorem takeUnsubscribe {s : State} {c : Fin 4} (h : s.consoleReady c) (ft : Byte) : s.Calm I (s.takeUnsubscribe c ft) := by
  refine setConsole s c fun _ _ => ?_
  have hr : (s.consoles.get c).repliesWaiting < 8 := h
  obtain ⟨k1, k2⟩ := ({ s.consoles.get c with
    subscribed := false, queue := (s.consoles.get c).queue.filter fun f => !f.isOffer } : Console).join_counts (donePlain ft)
  have e1 : ({ s.consoles.get c with
      subscribed := false, queue := (s.consoles.get c).queue.filter fun f => !f.isOffer } : Console).repliesWaiting ≤
        (s.consoles.get c).repliesWaiting := List.Sublist.countP_le List.filter_sublist
  have e2 : ({ s.consoles.get c with
      subscribed := false, queue := (s.consoles.get c).queue.filter fun f => !f.isOffer } : Console).offersWaiting = 0 := by
    simp [Console.offersWaiting, List.countP_eq_zero]
  exact ⟨k1.trans_le ((Nat.succ_le_succ e1).trans hr), (k2.trans e2).trans_le (Nat.zero_le _)⟩

/-- A holder set where the window is OPEN; the outputs are judged after it. -/
theorem setHolder_none (s : State) (tag : Nat) : s.Calm I (s.setHolder tag none).judge :=
  .of_even ((State.Even.updateSlot (f := fun x => { x with console := { x.console with holder := none } }) (fun _ _ _ => .of_eq)
    (fun _ _ _ hx _ => ⟨{ hx with holder := nofun }, id⟩) fun _ _ _ => .inr rfl).trans (judge _).toEven) (judged := fun _ _ _ => State.judge_outputsJudged _)

theorem setHolder_some {s : State} {tag : Nat} {c : Fin 4} {x : Slot} (hx : s.slot? tag = some x) (hw : x.console.window = .open)
    (hh : x.console.holder = none) (hc : (s.claims c).length < 2) : s.Calm I (s.setHolder tag (some c)).judge := by
  obtain ⟨hm, ht⟩ := State.slot?_some hx
  have hring : (s.setHolder tag (some c)).judge.tracker.ring =
      s.tracker.ring.map fun y => if y.tag == tag then { y with console := { y.console with holder := some c } } else y := rfl
  have hone : s.InvButPos → ∀ y ∈ s.tracker.ring, y.tag = tag → y = x := fun h y hy hyt =>
    h.ring.eq_of_tag hy hm (hyt.trans ht.symm)
  have hplace : ∀ y ∈ s.tracker.ring,
      y.InPlace (if y.tag == tag then { y with console := { y.console with holder := some c } } else y) :=
    inPlace_change fun _ _ _ => .of_eq
  refine .of_even (.of_map hring (fun _ => hplace) (fun _ h => ?_) fun _ h => ?_) (judged := fun _ _ _ => State.judge_outputsJudged _)
  · refine State.Even.slots_of_map h hring hplace (fun y hy hy' _ => ?_) fun _ h => h
    split
    · next hyt =>
      obtain rfl := hone h y hy (beq_iff_eq.mp hyt)
      exact ⟨{ hy' with holder := fun _ => hw }, id⟩
    · exact ⟨hy', id⟩
  · intro d
    have hd := h.claims d
    rw [State.claims_length] at hc hd ⊢
    rw [hring, List.countP_map]
    have hle : s.tracker.ring.countP ((fun y => y.console.holder == some d) ∘
        fun y => if y.tag == tag then { y with console := { y.console with holder := some c } } else y) ≤
        s.tracker.ring.countP (fun y => y.console.holder == some d) + if d = c then 1 else 0 := by
      have hsplit : ∀ y ∈ s.tracker.ring, ((fun y : Slot => y.console.holder == some d) ∘
          fun y => if y.tag == tag then { y with console := { y.console with holder := some c } } else y) y = true →
          (fun y : Slot => y.console.holder == some d || (decide (d = c) && y.tag == tag)) y = true := by
        intro y _ hy
        simp only [Function.comp] at hy
        split at hy
        · next hyt =>
          have hdc : c = d := by simpa using hy
          simp [hdc, hyt]
        · simp [hy]
      refine Nat.le_trans (List.countP_mono_left hsplit) ?_
      refine Nat.le_trans (countP_or_le _ _ _) (Nat.add_le_add_left ?_ _)
      split
      · next hdc =>
        simp only [hdc, decide_true, Bool.true_and]
        have hnd := h.ring.nodup
        have := List.nodup_iff_count_le_one.mp hnd tag
        rwa [List.count_eq_countP, List.countP_map] at this
      · next hdc => simp [hdc]
    split at hle
    · next hdc => subst hdc; omega
    · omega

theorem takeClaim {s : State} {c : Fin 4} (h : s.consoleReady c) (ft : Byte) (tag : Nat) : s.Calm I (s.takeClaim c ft tag) := by
  refine onPiece h (by split <;> rfl) fun x hx hw hc => ?_
  split
  · rfl
  · next hn =>
    unfold State.claimCheck at hc
    cases hh : x.console.holder with
    | some d =>
      rw [hh] at hc
      have hdc : d = c := by
        by_contra hne
        simp [hne] at hc
      exact absurd (by rw [hx, Option.bind_some, hh, hdc]) hn
    | none =>
      rw [hh] at hc
      have hlt : (s.claims c).length < 2 := by
        by_contra hge
        have : Config.claimLimit ≤ (s.claims c).length := Nat.not_lt.mp hge
        simp [this] at hc
      exact setHolder_some hx hw hh hlt

theorem takeRelease {s : State} {c : Fin 4} (h : s.consoleReady c) (ft : Byte) (tag : Nat) : s.Calm I (s.takeRelease c ft tag) :=
  onPiece h rfl fun _ _ _ _ => setHolder_none s tag


theorem changeOverrides (s : State) (tag : Nat) (f : Overrides → Overrides) : s.Calm I (s.changeOverrides tag f) := by
  refine updateSlot (fun x _ _ => .of_eq) (fun x _ _ hx _ => ?_) (fun _ _ _ => .inl rfl) fun x _ _ _ g => ?_
  · refine ⟨Slot.Sound.setSolve (x := { x with console := { x.console with overrides := f x.console.overrides } }) { hx with }
      fun r _ => ?_, fun h => by simpa [Slot.setSolve] using h⟩
    unfold SolveRecord.overrideChanged
    cases r.status <;> simp
  · refine (Slot.calls_setSolve { x with console := { x.console with overrides := f x.console.overrides } } (fun r => ?_) g).trans
      (Slot.calls_congr rfl rfl rfl rfl g)
    unfold SolveRecord.overrideChanged
    cases r.status <;> rfl

theorem override {s : State} {c : Fin 4} {ft : Byte} {tag : Nat} {valid : Bool} {checks : Slot → Option ConsoleReason}
    {f : State → Overrides → Overrides} (h : s.consoleReady c) :
    s.Calm I (s.onPiece c ft tag valid checks fun s => s.changeOverrides tag (f s)) :=
  onPiece h rfl fun _ _ _ _ => changeOverrides s tag _

theorem consoleSend (s : State) (c : Fin 4) : s.Calm I (s.setConsole c Console.send) := by
  refine setConsole s c fun h1 h2 => ?_
  unfold Console.send
  split
  · exact ⟨h1, h2⟩
  · next f fs hq =>
    unfold Console.repliesWaiting at h1 ⊢
    unfold Console.offersWaiting at h2 ⊢
    rw [hq, List.countP_cons] at h1 h2
    exact ⟨(Nat.le_add_right ..).trans h1, (Nat.le_add_right ..).trans h2⟩

end State.Calm

end

end Sys2Proof.Machine


/-! PROOF. The segments, the Lane, the inputs and the image controller as chains of events. -/

namespace Sys2Proof.Machine

-- One proof after the other: together they would ask for more threads than the check has memory for.
set_option Elab.async false

section
variable {I : Prop}

namespace State.Calm

/-! ## The scan (R25 to R29) -/

theorem setScan (s : State) {f : ScanIntake → ScanIntake} (hf : (f s.scan).heads = s.scan.heads) : s.Calm I (s.setScan f) :=
  .of_even .still (.of_eq hf)

theorem headUp (s : State) (h : Fin 4) : s.Calm I (s.setScan (·.headUp h)) := by
  refine .of_even .still ⟨fun hd => .inl ?_, .inl, .inl, fun _ h => h⟩
  unfold State.headDown at hd ⊢
  have hd' : (s.scan.heads.set h { status := .up, misses := 0 }).items.any (·.status == .down) = true := hd
  rw [Bank.items_eq, List.any_eq_true] at hd' ⊢
  obtain ⟨x, hx, hdown⟩ := hd'
  obtain ⟨i, rfl⟩ := List.mem_ofFn.mp hx
  rw [Bank.get_set] at hdown
  split at hdown
  · cases hdown
  · exact ⟨s.scan.heads.get i, List.mem_ofFn.mpr ⟨i, rfl⟩, hdown⟩

theorem lastInTime (s : State) (h : Fin 4) (last passed : Bool) : s.Calm I (s.lastInTime h last passed) := by
  unfold State.lastInTime
  split
  · exact headUp s h
  · rfl

end State.Calm

/-- A slot with a segment's entries merged and its LAST mark taken (R26, R27). -/
def Slot.segmentTaken (e : HeadEntry) (h : Fin 4) (g : SegmentData) (x : Slot) : Slot :=
  x.setScan fun r =>
    { r with cells := mergeEntries e g.first g.entries r.cells, last := if g.last then r.last.set h true else r.last }

theorem Slot.mergeSegment_eq (e : HeadEntry) (h : Fin 4) (g : SegmentData) (x : Slot) :
    x.mergeSegment e h g =
      if g.last && (x.segmentTaken e h g).scan.answered then (x.segmentTaken e h g).closeScan .complete
      else x.segmentTaken e h g := rfl

theorem Slot.mergeSegment_keeps (x : Slot) (e : HeadEntry) (h : Fin 4) (g : SegmentData) :
    (x.mergeSegment e h g).console = x.console ∧ (x.mergeSegment e h g).commit = x.commit := by
  rw [Slot.mergeSegment_eq]
  split
  · rw [Slot.closeScan_eq .complete nofun]
    exact ⟨rfl, rfl⟩
  · exact ⟨rfl, rfl⟩

/-- A segment merged into an open scan leaves the slot in its place and sound (R26, R29). -/
theorem Slot.mergeSegment_inPlace {x : Slot} (ho : x.scan.status = .open) (e : HeadEntry) (h : Fin 4) (g : SegmentData) :
    x.InPlace (x.mergeSegment e h g) := by
  have hk := x.mergeSegment_key e h g
  exact ⟨.of_open ho (congrArg SlotKey.tag hk) (congrArg SlotKey.kind hk) (x.mergeSegment_keeps e h g).2,
    congrArg SlotKey.offset hk, congrArg SlotKey.kind hk, congrArg SlotKey.run hk, congrArg SlotKey.passed hk⟩

theorem Slot.Sound.mergeSegment {en : Option Nat} {x : Slot} (hx : x.Sound en) (ho : x.scan.status = .open) (he : en ≠ some x.tag)
    (e : HeadEntry) (h : Fin 4) (g : SegmentData) : (x.mergeSegment e h g).Sound en := by
  have hs : (x.segmentTaken e h g).Sound en := { hx with }
  rw [Slot.mergeSegment_eq]
  split
  · exact hs.closeScan ho he nofun
  · exact hs

/-- A slot just handed over has no solution. -/
theorem Slot.mergeSegment_solution {x : Slot} (hn : x.solve = none) (e : HeadEntry) (h : Fin 4) (g : SegmentData) :
    (x.mergeSegment e h g).solution = none := by
  rw [Slot.mergeSegment_eq]
  split
  · rw [Slot.closeScan_eq .complete nofun]
    show (if _ then some SolveRecord.new else x.solve).bind _ = none
    split
    · rfl
    · rw [hn]
      rfl
  · show x.solve.bind _ = none
    rw [hn]
    rfl

namespace State.Calm

theorem mergeSegment {s : State} {g : SegmentData} {x : Slot} (hx : s.slot? g.tag = some x) (ho : x.scan.status = .open)
    (e : HeadEntry) (h : Fin 4) : s.Calm I (s.updateSlot g.tag (·.mergeSegment e h g)) := by
  obtain ⟨hm, ht⟩ := State.slot?_some hx
  have hone : s.InvButPos → ∀ y ∈ s.tracker.ring, y.tag = g.tag → y = x := fun h y hy hyt =>
    h.ring.eq_of_tag hy hm (hyt.trans ht.symm)
  refine .of_even (.of_slots rfl (fun hi => inPlace_change fun y hy hyt => ?_) (fun hi y hy hsy hn => ?_) fun y _ => .inl ?_)
    (judged := fun _ hi hj => hj.of_eq rfl rfl rfl (any_calls_map (calls_change fun y hy hyt k => ?_)))
  · obtain rfl := hone hi y hy hyt
    exact y.mergeSegment_inPlace ho e h g
  · split
    · next hyt =>
      obtain rfl := hone hi y hy (beq_iff_eq.mp hyt)
      have hnone := hsy.solve_none ho
      exact ⟨hsy.mergeSegment ho (hn hnone) e h g, fun hs => by rw [hnone] at hs; cases hs⟩
    · exact ⟨hsy, id⟩
  · split
    · rw [(y.mergeSegment_keeps e h g).1]
    · rfl
  · obtain rfl := hone hi y hy hyt
    have hnone := (((s.slotsKept_iff.mp hi.slots).1 y hy)).solve_none ho
    rw [Slot.calls_of_no_solution (y.mergeSegment_solution hnone e h g),
      Slot.calls_of_no_solution (by unfold Slot.solution; rw [hnone]; rfl)]

/-- A LAST mark taken by a scan, open or closed. -/
theorem lastMarked (s : State) (h : Fin 4) (g : SegmentData) :
    s.Calm I (s.updateSlot g.tag (·.setScan fun r => { r with last := if g.last then r.last.set h true else r.last })) := by
  refine updateSlot (fun y _ _ => ?_) (fun y _ _ hy _ => ⟨{ hy with }, id⟩) (fun _ _ _ => .inl rfl) fun y _ _ _ k => ?_
  · exact ⟨⟨rfl, fun _ => rfl, fun c hc => ⟨c, hc, .refl c⟩, fun _ => ⟨rfl, rfl, rfl, rfl⟩, fun _ _ => rfl⟩, rfl, rfl, rfl, rfl⟩
  · rfl

theorem takeSegment (s : State) (h : Fin 4) (g : SegmentData) : s.Calm I (s.takeSegment h g) := by
  refine State.takeSegment_induct (P := s.Calm I) (setScan s rfl) (setScan s rfl) (fun x hx _ ho => ?_) fun x _ _ _ => ?_
  · exact (mergeSegment hx ho _ h).trans (lastInTime _ _ _ _)
  · exact (((setScan s (f := fun i => { i with late := bump i.late }) rfl).trans (lastMarked _ h g)).trans
      (lastInTime _ _ _ _)).trans (raise _ _)

theorem headFrame (s : State) (h : Fin 4) (kind : Byte) (p : List Byte) : s.Calm I (s.headFrame h kind p) :=
  State.headFrame_induct (P := s.Calm I) (.refl s) (setScan s rfl) fun _ _ _ g _ => takeSegment s h g

/-! ## The Lane (R118 to R130) -/

theorem setLane (s : State) {f : LogLane → LogLane} (hq : s.lane.queue.length ≤ 8 ∧ (∀ q ∈ s.lane.queue, q.countdown ≤ q.entry) →
      (f s.lane).queue.length ≤ 8 ∧ ∀ q ∈ (f s.lane).queue, q.countdown ≤ q.entry) : s.Calm I (s.setLane f) :=
  .of_even <| .still (queues := fun _ ⟨h1, h2, h3, h4, h5⟩ => ⟨h1, h2, h3, hq ⟨h4, h5⟩⟩)

theorem setLaneState (s : State) (x : LaneState) : s.Calm I (s.setLaneState x) := setLane s id

theorem discardLog (s : State) : s.Calm I s.discardLog := setLane s id

theorem leaveQueue (s : State) : s.Calm I s.leaveQueue := by
  have h : s.Calm I (s.setLane fun l => { l with queue := l.queue.dropWhile QueuedLog.arrived }) :=
    setLane s fun ⟨h1, h2⟩ =>
      ⟨((List.dropWhile_sublist _).length_le).trans h1, fun q hq => h2 q ((List.dropWhile_sublist _).subset hq)⟩
  unfold State.leaveQueue
  dsimp only
  split
  · exact h.trans (pulse _ _)
  · exact h

theorem logCount (s : State) {f : QueuedLog → QueuedLog} (hf : ∀ q, q.countdown ≤ q.entry → (f q).countdown ≤ (f q).entry) :
    s.Calm I (s.setLane fun l => { l with queue := l.queue.map f }) :=
  setLane s fun ⟨h1, h2⟩ => ⟨by simpa using h1, fun q hq => by
    obtain ⟨q', hq', rfl⟩ := List.mem_map.mp hq
    exact hf q' (h2 q' hq')⟩

end State.Calm

namespace State.Chain

theorem endLog (s : State) (r : LogRecord) (fault : Option LogFault) : Chain I 0 s (s.endLog r fault) := by
  refine State.endLog_induct (P := Chain I 0 s) (fun hq p => ?_) fun _ p => ?_
  · refine .calm (.logEntry fault _ _ (.refl s)) ((State.Calm.setLane _ fun ⟨_, h2⟩ => ?_).trans (.report _ _ _))
    rw [State.enter_lane] at h2 ⊢
    refine ⟨?_, fun q hq => ?_⟩
    · rw [List.length_append, List.length_singleton]
      exact hq
    · rcases List.mem_append.mp hq with hq | hq
      · exact h2 q hq
      · rw [List.mem_singleton.mp hq]
  · exact .calm (.logEntry fault _ _ (.refl s)) ((State.Calm.raise _ _).trans (.report _ _ _))

theorem takeLogStart (s : State) (n : Nat) : Chain I 0 s (s.takeLogStart n) := by
  unfold State.takeLogStart
  split
  · exact .calm (endLog s _ _) (.setLaneState _ _)
  · exact .of_calm (.setLaneState _ _)

theorem takeSlice (s : State) (x : SliceData) : Chain I 0 s (s.takeSlice x) := by
  unfold State.takeSlice
  split
  · split
    · exact .calm (endLog s _ _) (.setLaneState _ _)
    · split
      · exact .of_calm (.setLaneState _ _)
      · exact .calm (endLog s _ _) (.setLaneState _ _)
  · exact .calm (endLog s _ _) (.setLaneState _ _)
  · exact .of_calm (.discardLog _)

theorem takeLogEnd (s : State) (n : Nat) : Chain I 0 s (s.takeLogEnd n) := by
  unfold State.takeLogEnd
  split
  · exact .calm (endLog s _ _) (.setLaneState _ _)
  · exact .of_calm (.setLaneState _ _)
  · exact .of_calm (.discardLog _)

theorem logFrame {α : Type} {s : State} {p : List Byte} {read : Option α} {take : State → α → State}
    (h : ∀ u a, Chain I 0 u (take u a)) : Chain I 0 s ((s.received .log p).logFrame read take) :=
  (of_calm (.received s .log p)).trans <| State.logFrame_induct (P := Chain I 0 (s.received .log p)) (.refl _) (.of_calm (.discardLog _))
    fun _ a _ => h _ a

end State.Chain

end

end Sys2Proof.Machine


/-! PROOF. The level causes through an advance, through the inputs' changes and through a replacement of tables (R168). -/

namespace Sys2Proof.Machine

-- One proof after the other: together they would ask for more threads than the check has memory for.
set_option Elab.async false

/-- A head is DOWN, by its place. -/
theorem State.headDown_iff (s : State) : s.headDown = true ↔ ∃ h : Fin 4, (s.scan.heads.get h).status = .down := by
  unfold State.headDown
  rw [Bank.items_eq, List.any_eq_true]
  constructor
  · rintro ⟨x, hx, hd⟩
    obtain ⟨i, rfl⟩ := List.mem_ofFn.mp hx
    exact ⟨i, by simpa using hd⟩
  · rintro ⟨i, hi⟩
    exact ⟨_, List.mem_ofFn.mpr ⟨i, rfl⟩, by simpa using hi⟩

/-- A module of the module count is OFFLINE, by its place. -/
theorem State.moduleOffline_iff (s : State) :
    s.moduleOffline = true ↔ ∃ m : Fin 2, m.val < s.tables.sawBus.modules ∧ (s.saw.modules.get m).online = false := by
  unfold State.moduleOffline State.activeModules
  simp [List.any_eq_true]

/-- TRIM_INHIBIT is active, by the input bound to it. -/
theorem State.inhibitActive_iff (s : State) :
    s.inhibitActive = true ↔ ∃ i : Fin 8, (s.tables.inputs.get i).function = .trimInhibit ∧ (s.field.inputs.get i).filtered = true := by
  unfold State.inhibitActive State.inputActive
  simp [List.any_eq_true]

namespace State.LevelFrame
variable {s t u : State}

theorem after (k : t.LevelFrame u) (h : s.LevelFrame t) : s.LevelFrame u := h.trans k

/-! ## The advance -/

theorem enter (s : State) (seq : Nat) (l : List (Counter × Nat)) : s.LevelFrame (s.enter seq l) := by
  rcases s.enter_eq seq l with h | h <;> rw [h]
  · exact .of_eq
  · exact (raise _ _).after .of_eq

theorem report (s : State) (k : Byte) (p : List Byte) : s.LevelFrame (s.report k p) :=
  .of_eq (hp := fun x h => (s.ctl.report_keeps k p).2.1 x.number.val h)

theorem arriveSD (s : State) (x : Slot) : s.LevelFrame (s.arriveSD x) := by
  have hmiss : ∀ h : Fin 4, ((missHeads x.scan s.scan.heads).get h).status = .down →
      (s.scan.heads.get h).status = .up ∨ (s.scan.heads.get h).status = .down := by
    intro h hd
    cases hs : (s.scan.heads.get h).status with
    | up => exact .inl rfl
    | down => exact .inr rfl
    | disabled =>
      rw [missHeads, Bank.get_ofFn] at hd
      simp [hs] at hd
  unfold State.arriveSD
  dsimp only
  split
  · next hany =>
    refine ⟨fun _ => .inr ((State.raise_isPending _ _).1), ?_, ?_, fun c hc => (State.raise_isPending _ _).2 c hc⟩
    · intro h
      exact ((raise _ _).moduleOffline h).imp_left fun h => h
    · intro h
      exact ((raise _ _).inhibitActive h).imp_left fun h => h
  · next hany =>
    refine ⟨fun h => .inl ?_, .inl, .inl, fun _ h => h⟩
    obtain ⟨i, hi⟩ := (State.headDown_iff _).mp h
    have hi' : ((missHeads x.scan s.scan.heads).get i).status = .down := hi
    rcases hmiss i hi' with hu | hd
    · exact absurd (List.any_eq_true.mpr ⟨i, List.mem_finRange i, by simp [hu, hi']⟩) hany
    · exact s.headDown_iff.mpr ⟨i, hd⟩

theorem raiseCommit (s : State) (x : Slot) : s.LevelFrame (s.raiseCommit x) := by
  unfold State.raiseCommit
  split
  · exact raise _ _
  · split
    · exact raise _ _
    · rfl

theorem arriveGW (s : State) (x : Slot) : s.LevelFrame (s.arriveGW x) := by
  unfold State.arriveGW
  dsimp only
  split <;> exact .of_eq

theorem abandonExchange (s : State) : s.LevelFrame s.abandonExchange := by
  refine .of_eq (by simp) (by simp) (by simp) (by simp) fun x h => ?_
  unfold State.isPending at h ⊢
  rwa [State.abandonExchange_ctl]

theorem beginModule (s : State) (tag timeout i : Nat) : s.LevelFrame (s.beginModule tag timeout i) := by
  refine .of_eq (by simp) (by simp) (by simp) (by simp) fun x h => ?_
  unfold State.isPending at h ⊢
  rwa [State.beginModule_ctl]

theorem commitPiece (s : State) (x : Slot) : s.LevelFrame (s.commitPiece x) := by
  have h : s.LevelFrame (s.updateSlot x.tag fun y => { y with commit := some (s.decision x) }) := .of_eq
  unfold State.commitPiece
  exact ((h.trans (raiseCommit _ x)).trans (abandonExchange _)).trans (beginModule _ _ _ _)

theorem closeWindow (s : State) (x : Slot) : s.LevelFrame (s.closeWindow x) := by
  unfold State.closeWindow
  dsimp only
  split <;> exact .of_eq

theorem arriveCM (s : State) (x : Slot) : s.LevelFrame (s.arriveCM x) := by
  have h : s.LevelFrame (if x.kind == .board then (s.endSolving x).commitPiece x else s) := by
    split
    · exact (commitPiece _ x).after (.of_eq (t := s.endSolving x))
    · rfl
  exact (h.trans (closeWindow _ x)).trans .of_eq

theorem trimPiece (s : State) (tag : Nat) : s.LevelFrame (s.trimPiece tag) := by
  have h : s.LevelFrame (s.endExchangeOf tag) := by
    unfold State.endExchangeOf
    split
    · exact abandonExchange s
    · rfl
  rw [State.trimPiece_eq]
  split
  · exact h
  · dsimp only
    split
    · exact (raise _ _).after (h.trans .of_eq)
    · exact h.trans .of_eq

theorem arriveTR (s : State) (x : Slot) : s.LevelFrame (s.arriveTR x) := by
  have h : s.LevelFrame (s.pulse .fire) := .of_eq
  unfold State.arriveTR
  dsimp only
  split
  · exact h.trans (trimPiece _ _)
  · exact h

theorem arriveEX (s : State) (x : Slot) : s.LevelFrame (s.arriveEX x) := by
  have h : s.LevelFrame (s.exited x) := by
    unfold State.exited State.exitPiece
    split
    · split
      · exact (enter _ _ _).trans (report _ _ _)
      · rfl
    · rfl
  exact h.trans .of_eq

theorem arriveAt (s : State) (tag : Nat) (st : Station) : s.LevelFrame (s.arriveAt tag st) := by
  unfold State.arriveAt
  split
  · rfl
  · split
    · next x _ _ =>
      refine .trans (t := s.updateSlot tag fun y => { y with passed := y.passed ++ [st] }) .of_eq ?_
      cases st with
      | sd => exact arriveSD _ _
      | gw => exact arriveGW _ _
      | cm => exact arriveCM _ _
      | tr => exact arriveTR _ _
      | ex => exact arriveEX _ _
    · rfl

theorem foldl {α : Type} {f : State → α → State} (hf : ∀ (s : State) a, s.LevelFrame (f s a)) (l : List α) (s : State) :
    s.LevelFrame (l.foldl f s) := by
  induction l generalizing s with
  | nil => rfl
  | cons a l ih => exact (hf s a).trans (ih _)

theorem advance (s : State) (synth : Bool) : s.LevelFrame (s.advance synth) := by
  have hmoved : s.LevelFrame s.movedOn := by
    unfold State.movedOn State.fixKind
    dsimp only
    split
    · split
      · exact (enter _ _ _).after .of_eq
      · exact .of_eq
    · exact .of_eq
  exact (hmoved.trans (foldl (fun s tag => foldl (fun s st => arriveAt s tag st) _ s) _ _)).trans .of_eq

/-! ## The inputs -/

theorem lugPulse (s : State) : s.LevelFrame s.lugPulse :=
  State.lugPulse_induct (P := s.LevelFrame) (.refl s) (fun _ _ => (advance s false).trans .of_eq) .of_eq (raise s _)

theorem eyeActive (s : State) : s.LevelFrame s.eyeActive := .of_eq

/-- An input that does not bring TRIM_INHIBIT to ACTIVE. -/
theorem setInput (s : State) (i : Fin 8) (f : Input → Input)
    (hf : (f (s.field.inputs.get i)).filtered = true → (s.tables.inputs.get i).function = .trimInhibit →
      (s.field.inputs.get i).filtered = true) : s.LevelFrame (s.setInput i f) := by
  refine ⟨.inl, .inl, fun h => .inl ?_, fun _ h => h⟩
  obtain ⟨j, hj, hfil⟩ := (State.inhibitActive_iff _).mp h
  refine s.inhibitActive_iff.mpr ⟨j, hj, ?_⟩
  have hfil' : ((s.field.inputs.modify i f).get j).filtered = true := hfil
  rw [Bank.get_modify] at hfil'
  split at hfil'
  · next e =>
    subst e
    exact hf hfil' hj
  · exact hfil'

/-- An input recognised: TRIM_INHIBIT that becomes ACTIVE is pending. -/
theorem recognise (s : State) (i : Fin 8) : s.LevelFrame (s.recognise i) := by
  by_cases hc : (s.tables.inputs.get i).function = .trimInhibit ∧ rawLevel (s.tables.inputs.get i) (s.field.inputs.get i) = true
  · obtain ⟨hfun, hraw⟩ := hc
    have heq : s.recognise i = (s.setInput i fun x => { x with filtered := true, timer := none }).raise .inhibitActive := by
      unfold State.recognise
      dsimp only
      rw [hfun, hraw]
      rfl
    rw [heq]
    have h := raise (s.setInput i fun x => { x with filtered := true, timer := none }) .inhibitActive
    exact ⟨fun hd => (h.headDown hd), fun hm => (h.moduleOffline hm), fun _ => .inr (State.raise_isPending _ _).1,
      fun x hx => h.pending x hx⟩
  · refine .trans (t := s.setInput i fun x => { x with filtered := rawLevel (s.tables.inputs.get i) (s.field.inputs.get i), timer := none })
      (setInput s i _ fun hraw hfun => absurd ⟨hfun, hraw⟩ hc) ?_
    exact State.announceInput_induct (P := State.LevelFrame _) (.refl _) (fun _ _ => lugPulse _) (fun _ _ => eyeActive _)
      fun hf hr => absurd ⟨hf, hr⟩ hc

theorem rawChanged (s : State) (i : Fin 8) : s.LevelFrame (s.rawChanged i) :=
  State.rawChanged_induct (P := s.LevelFrame) (fun _ => setInput s i _ fun h _ => h) (fun _ _ => recognise s i)
    fun _ _ => setInput s i _ fun h _ => h

theorem inputRewritten (old new : Bank 8 InputEntry) (s : State) (i : Fin 8) : s.LevelFrame (State.inputRewritten old new s i) := by
  have hr : s.LevelFrame (s.inhibitRebound (old.get i) (new.get i) i) := by
    rcases s.inhibitRebound_eq (old.get i) (new.get i) i with e | e <;> rw [e]
    exact raise s _
  rw [State.inputRewritten_eq]
  split
  · exact hr
  · exact hr.trans (rawChanged _ _)

end State.LevelFrame

/-! ## Tables replaced -/

/-- A change of one input leaves the others. -/
theorem State.recognise_inputs (s : State) {i j : Fin 8} (h : i ≠ j) : (s.recognise j).field.inputs.get i = s.field.inputs.get i := by
  have hset : ∀ f, (s.setInput j f).field.inputs.get i = s.field.inputs.get i := fun f => by
    show (s.field.inputs.modify j f).get i = _
    rw [Bank.get_modify, if_neg h]
  refine State.announceInput_induct (P := fun t => t.field.inputs.get i = s.field.inputs.get i) (hset _) (fun _ _ => ?_)
    (fun _ _ => hset _) fun _ _ => ?_
  · refine State.lugPulse_induct (P := fun t => t.field.inputs.get i = s.field.inputs.get i) (hset _) (fun _ _ => ?_) (hset _) ?_
    · show (State.advance _ false).field.inputs.get i = _
      rw [State.advance_inputs]
      exact hset _
    · rw [State.raise_inputs]
      exact hset _
  · rw [State.raise_inputs]
    exact hset _

theorem State.inputRewritten_inputs (old new : Bank 8 InputEntry) (s : State) {i j : Fin 8} (h : i ≠ j) :
    (State.inputRewritten old new s j).field.inputs.get i = s.field.inputs.get i := by
  have hset : ∀ (u : State) f, (u.setInput j f).field.inputs.get i = u.field.inputs.get i := fun u f => by
    show (u.field.inputs.modify j f).get i = _
    rw [Bank.get_modify, if_neg h]
  have hr : (s.inhibitRebound (old.get j) (new.get j) j).field.inputs = s.field.inputs := by
    rcases s.inhibitRebound_eq (old.get j) (new.get j) j with e | e <;> rw [e]
    exact State.raise_inputs _ _
  rw [State.inputRewritten_eq]
  split
  · rw [hr]
  · refine (?_ : _ = (s.inhibitRebound (old.get j) (new.get j) j).field.inputs.get i).trans (by rw [hr])
    exact State.rawChanged_induct
      (P := fun t => t.field.inputs.get i = (s.inhibitRebound (old.get j) (new.get j) j).field.inputs.get i) (fun _ => hset _ _)
      (fun _ _ => State.recognise_inputs _ h) fun _ _ => hset _ _

/-- TRIM_INHIBIT bound to an input already ACTIVE is pending once the inputs have followed (R153). -/
theorem State.inputRewritten_foldl_rebound (old new : Bank 8 InputEntry) {i : Fin 8} (hn : (new.get i).function = .trimInhibit)
    (ho : (old.get i).function ≠ .trimInhibit) {l : List (Fin 8)} (hi : i ∈ l) {s : State}
    (hf : (s.field.inputs.get i).filtered = true) : (l.foldl (State.inputRewritten old new) s).isPending .inhibitActive = true := by
  induction l generalizing s with
  | nil => cases hi
  | cons j l ih =>
    by_cases hj : i = j
    · subst hj
      have hp : (State.inputRewritten old new s i).isPending .inhibitActive = true := by
        have hr : s.inhibitRebound (old.get i) (new.get i) i = s.raise .inhibitActive := by
          unfold State.inhibitRebound
          rw [if_pos]
          simp [hn, ho, hf]
        rw [State.inputRewritten_eq, hr]
        split
        · exact (State.raise_isPending _ _).1
        · exact (State.LevelFrame.rawChanged _ _).pending _ (State.raise_isPending _ _).1
      exact (State.LevelFrame.foldl (State.LevelFrame.inputRewritten old new) l _).pending _ hp
    · refine ih ((List.mem_cons.mp hi).resolve_left hj) ?_
      rwa [State.inputRewritten_inputs old new s hj]

theorem State.beforeInputs_inputs (s : State) (new : Tables) : (s.beforeInputs new).field.inputs = s.field.inputs := by
  simp [State.beforeInputs, State.tablesSet, State.outputsRewritten]

/-- A replacement of tables keeps the level causes pending (R110, R153, R168). -/
theorem State.applyTables_levels {s : State} (h : s.levelsPending) (new : Tables) : (s.applyTables new).levelsPending := by
  obtain ⟨h1, h2, h3⟩ := s.levelsPending_iff.mp h
  rw [State.applyTables_eq_inputsRewritten]
  have hloop : (s.beforeInputs new).LevelFrame ((s.beforeInputs new).inputsRewritten s.tables.inputs new.inputs) :=
    State.LevelFrame.foldl (State.LevelFrame.inputRewritten _ _) _ _
  have hkeep : ∀ x, s.isPending x = true → (s.beforeInputs new).isPending x = true := by
    intro x hx
    unfold State.beforeInputs
    rw [State.changeModuleCount_eq]
    split
    · exact (State.raise_isPending _ _).2 x hx
    · exact hx
  refine (State.levelsPending_iff _).mpr ⟨fun hd => ?_, fun hm => ?_, fun hi => ?_⟩
  · rcases hloop.headDown hd with hd | hp
    · obtain ⟨k, hk⟩ := (State.headDown_iff _).mp hd
      have hheads : (s.beforeInputs new).scan.heads = headsAfterWrite s.tables.heads new.heads s.scan.heads := by
        unfold State.beforeInputs
        rw [State.changeModuleCount_scan]
        rfl
      rw [hheads, headsAfterWrite, Bank.get_ofFn, Head.afterWrite] at hk
      refine hloop.pending _ (hkeep _ (h1 (s.headDown_iff.mpr ⟨k, ?_⟩)))
      split at hk
      · exact hk
      · unfold freshHead at hk
        dsimp only at hk
        split at hk <;> cases hk
    · exact hp
  · rcases hloop.moduleOffline hm with hm | hp
    · obtain ⟨m, hlt, hoff⟩ := (State.moduleOffline_iff _).mp hm
      rw [State.beforeInputs_tables] at hlt
      have hmod : (s.beforeInputs new).saw.modules = modulesAfterCount s.tables.sawBus.modules new.sawBus.modules s.saw.modules := by
        unfold State.beforeInputs
        rw [State.changeModuleCount_saw]
        rfl
      refine hloop.pending _ ?_
      by_cases hold : m.val < s.tables.sawBus.modules
      · refine hkeep _ (h2 (s.moduleOffline_iff.mpr ⟨m, hold, ?_⟩))
        rw [hmod, modulesAfterCount, Bank.get_ofFn] at hoff
        simpa [hold, hlt] using hoff
      · unfold State.beforeInputs
        rw [State.changeModuleCount_eq, if_pos (by omega)]
        exact (State.raise_isPending _ _).1
    · exact hp
  · rcases hloop.inhibitActive hi with hi | hp
    · obtain ⟨i, hfun, hfil⟩ := (State.inhibitActive_iff _).mp hi
      rw [State.beforeInputs_tables] at hfun
      by_cases ho : (s.tables.inputs.get i).function = .trimInhibit
      · rw [State.beforeInputs_inputs] at hfil
        exact hloop.pending _ (hkeep _ (h3 (s.inhibitActive_iff.mpr ⟨i, ho, hfil⟩)))
      · exact State.inputRewritten_foldl_rebound _ _ hfun ho (List.mem_finRange i) hfil
    · exact hp

end Sys2Proof.Machine


/-! PROOF. The inputs, a replacement of tables and the image controller as chains of events. -/

namespace Sys2Proof.Machine

-- One proof after the other: together they would ask for more threads than the check has memory for.
set_option Elab.async false

/-- From a state to another through at most so many advances. -/
def State.ChainLE (I : Prop) (k : Nat) (s t : State) : Prop := ∃ n ≤ k, State.Chain I n s t

section
variable {I : Prop} {s t u : State} {j k : Nat}

namespace State.ChainLE

theorem of_chain {n : Nat} (h : State.Chain I n s t) : State.ChainLE I n s t := ⟨n, Nat.le_refl n, h⟩

theorem of_calm (h : s.Calm I t) : State.ChainLE I k s t := ⟨0, Nat.zero_le k, .of_calm h⟩

theorem refl (s : State) : State.ChainLE I k s s := ⟨0, Nat.zero_le k, .refl s⟩

theorem trans (h : State.ChainLE I j s u) (h' : State.ChainLE I k u t) : State.ChainLE I (j + k) s t := by
  obtain ⟨n, hn, hc⟩ := h
  obtain ⟨m, hm, hc'⟩ := h'
  exact ⟨n + m, Nat.add_le_add hn hm, hc.trans hc'⟩

theorem mono (h : State.ChainLE I j s t) (hk : j ≤ k) : State.ChainLE I k s t := by
  obtain ⟨n, hn, hc⟩ := h
  exact ⟨n, hn.trans hk, hc⟩

theorem calm (h : State.ChainLE I k s u) (h' : u.Calm I t) : State.ChainLE I k s t := by
  obtain ⟨n, hn, hc⟩ := h
  exact ⟨n, hn, .calm hc h'⟩

theorem after_calm (h : s.Calm I u) (h' : State.ChainLE I k u t) : State.ChainLE I k s t := by
  obtain ⟨n, hn, hc⟩ := h'
  exact ⟨n, hn, by simpa using (State.Chain.of_calm h).trans hc⟩

/-! ## The line (R1 to R8) -/

theorem lugPulse (s : State) : State.ChainLE I 1 s s.lugPulse := by
  refine State.lugPulse_induct (P := State.ChainLE I 1 s) (.refl s) (fun _ _ => .of_chain ?_) (.of_calm ?_) (.of_calm (.raise s _))
  · exact .advance id false 0 .sensed (.refl s) rfl fun hv => by
      have := Geometry.valid_lug hv
      unfold Geometry.windowEnd
      omega
  · exact .of_even (.still (pos := fun h => Nat.lt_of_le_of_lt (Nat.zero_le _) h))

theorem forwardCount (s : State) : State.ChainLE I 1 s s.forwardCount := by
  have hf : ((s.tracker.runForward s.geo).ring, (s.tracker.runForward s.geo).nextTag) = (s.tracker.ring, s.tracker.nextTag) := by
    unfold Tracker.runForward
    dsimp only
    split
    · rfl
    · rfl
    · split <;> rfl
  unfold State.forwardCount
  dsimp only
  split
  · refine calm (.of_chain (.advance (fun t => { t.runForward s.geo with pos := t.pos + 1 }) true s.geo.halfWidth
      (.synthesized false) (.refl s) hf fun hv => ?_)) (.raise _ _)
    have := Geometry.valid_lug hv
    unfold Geometry.windowEnd
    omega
  · next hlt =>
    obtain ⟨hr, ht⟩ := Prod.mk.inj hf
    exact of_calm (.of_even (.still hr ht (pos := fun _ => Nat.not_le.mp hlt)) (judged := fun _ _ h => h.of_eq rfl rfl rfl fun g => by
      show (s.tracker.runForward s.geo).ring.any _ = _
      rw [hr]))

theorem eyeActive (s : State) : s.Calm I s.eyeActive := by
  refine .of_even (.of_slots rfl (fun _ x _ => ?_) (fun _ x _ hx _ => ?_) fun x _ => .inl ?_)
    (judged := fun _ _ h => h.of_eq rfl rfl rfl (any_calls_map fun x _ g => ?_))
  · split
    · exact .of_eq
    · rfl
  · split
    · exact ⟨{ hx with }, id⟩
    · exact ⟨hx, id⟩
  · split <;> rfl
  · split <;> rfl

/-! ## The inputs (R152, R153) -/

/-- An input that does not bring TRIM_INHIBIT to ACTIVE. -/
theorem setInput (s : State) (i : Fin 8) (f : Input → Input)
    (hf : (f (s.field.inputs.get i)).filtered = true → (s.tables.inputs.get i).function = .trimInhibit →
      (s.field.inputs.get i).filtered = true) : s.Calm I (s.setInput i f) :=
  .of_even .still (.setInput s i f hf)

theorem recognise (s : State) (i : Fin 8) : State.ChainLE I 1 s (s.recognise i) := by
  by_cases hc : (s.tables.inputs.get i).function = .trimInhibit ∧ rawLevel (s.tables.inputs.get i) (s.field.inputs.get i) = true
  · obtain ⟨hfun, hraw⟩ := hc
    have heq : s.recognise i = (s.setInput i fun x => { x with filtered := true, timer := none }).raise .inhibitActive := by
      unfold State.recognise
      dsimp only
      rw [hfun, hraw]
      rfl
    have hl := State.LevelFrame.recognise s i
    rw [heq] at hl ⊢
    have hset : s.Even I (s.setInput i fun x => { x with filtered := true, timer := none }) := .still
    exact of_calm (.of_even (hset.trans (.raise _ _)) hl fun _ _ h =>
      State.raise_outputsJudged (s := s.setInput i fun x => { x with filtered := true, timer := none }) _ h)
  · refine after_calm (setInput s i (fun x => { x with filtered := rawLevel (s.tables.inputs.get i) (s.field.inputs.get i), timer := none })
      fun hraw hfun => absurd ⟨hfun, hraw⟩ hc) ?_
    exact State.announceInput_induct (P := State.ChainLE I 1 _) (.refl _) (fun _ _ => lugPulse _) (fun _ _ => of_calm (eyeActive _))
      fun hf hr => absurd ⟨hf, hr⟩ hc

theorem rawChanged (s : State) (i : Fin 8) : State.ChainLE I 1 s (s.rawChanged i) :=
  State.rawChanged_induct (P := State.ChainLE I 1 s) (fun _ => of_calm (setInput s i _ fun h _ => h)) (fun _ _ => recognise s i)
    fun _ _ => of_calm (setInput s i _ fun h _ => h)

theorem inputRewritten (old new : Bank 8 InputEntry) (s : State) (i : Fin 8) :
    State.ChainLE I 1 s (State.inputRewritten old new s i) := by
  have hr : s.Calm I (s.inhibitRebound (old.get i) (new.get i) i) := by
    rcases s.inhibitRebound_eq (old.get i) (new.get i) i with e | e <;> rw [e]
    exact .raise s _
  rw [State.inputRewritten_eq]
  split
  · exact of_calm hr
  · exact after_calm hr (rawChanged _ _)

theorem inputsRewritten (s : State) (old new : Bank 8 InputEntry) : State.ChainLE I 8 s (s.inputsRewritten old new) := by
  have hfold : ∀ (l : List (Fin 8)) (s : State), State.ChainLE I l.length s (l.foldl (State.inputRewritten old new) s) := by
    intro l
    induction l with
    | nil => exact fun s => .refl s
    | cons i l ih =>
      intro s
      rw [List.length_cons, Nat.add_comm]
      exact (inputRewritten old new s i).trans (ih _)
  exact (hfold (List.finRange 8) s).mono (by simp)

/-! ## Tables and images (R62, R70 to R77) -/

theorem applyTables (s : State) {new : Tables}
    (hv : I → s.InvButPos → new.geometry.valid = true ∧ new.sawBus.modules = new.geometry.modules) :
    State.ChainLE I 8 s (s.applyTables new) := by
  obtain ⟨n, hn, hc⟩ := inputsRewritten (I := I) (s.beforeInputs new) s.tables.inputs new.inputs
  exact ⟨0 + n, by omega, .tables new (.refl s) hv hc fun h => State.applyTables_levels h new⟩

/-- The store changed, with no image memory and no load by request. -/
theorem setStore (s : State) {f : Store → Store} (hm : s.memoryKept → (s.setStore f).memoryKept)
    (ha : ∀ ft, (f s.store).activity = .loading (.request ft) → s.store.activity = .loading (.request ft)) :
    s.Calm I (s.setStore f) :=
  .of_even (.still (memory := hm) (request := fun ⟨h1, h2⟩ => ⟨h1, fun ft h => h2 ft (ha ft h)⟩))

theorem applyEntry (s : State) {e : Entry}
    (hv : I → s.InvButPos → (s.tables.put e).geometry.valid = true ∧ (s.tables.put e).sawBus.modules = (s.tables.put e).geometry.modules) :
    State.ChainLE I 8 s (s.applyEntry e) :=
  calm (applyTables s hv) (setStore _ id fun _ h => h)

/-- An entry that passes its checks leaves a GEOMETRY entry that passes its own, and the module count that goes with it. -/
theorem geometry_put {t : Tables} {e : Entry} (ha : t.admits e = true) (hg : t.geometry.valid = true)
    (hm : t.sawBus.modules = t.geometry.modules) :
    (t.put e).geometry.valid = true ∧ (t.put e).sawBus.modules = (t.put e).geometry.modules := by
  cases e with
  | geometry e => exact ⟨ha, rfl⟩
  | sawBus e =>
    refine ⟨hg, ?_⟩
    have ha' : SawBusEntry.valid t.geometry e = true := ha
    obtain ⟨-, h⟩ := Bool.and_eq_true_iff.mp ha'
    exact of_decide_eq_true h
  | _ => exact ⟨hg, hm⟩

/-- Tables that pass their checks have a GEOMETRY entry that does, and the module count that goes with it. -/
theorem geometry_valid {t : Tables} (h : t.valid = true) : t.geometry.valid = true ∧ t.sawBus.modules = t.geometry.modules := by
  have h' := List.all_eq_true.mp h
  refine ⟨h' (.geometry t.geometry) (by simp [Tables.entries]), ?_⟩
  have ha : SawBusEntry.valid t.geometry t.sawBus = true := h' (.sawBus t.sawBus) (by simp [Tables.entries])
  exact of_decide_eq_true (Bool.and_eq_true_iff.mp ha).2

theorem loadOutcome (s : State) {o : LoadOutcome} (ho : ∀ t, o = .good t → t.valid = true) :
    State.ChainLE I 8 s (s.loadOutcome o) := by
  unfold State.loadOutcome
  split
  · next t => exact calm (applyTables s fun _ _ => geometry_valid (ho t rfl)) (setStore _ id fun _ h => h)
  all_goals exact of_calm ((setStore s id fun _ h => h).trans (.raise _ _))

theorem endStartUp (s : State) {o : LoadOutcome} (ho : ∀ t, o = .good t → t.valid = true) :
    State.ChainLE I 8 s (s.endStartUp o) := by
  unfold State.endStartUp
  refine calm (loadOutcome s ho) (.of_even .still ⟨fun h => ?_, .inl, .inl, fun _ h => h⟩)
  obtain ⟨i, hi⟩ := (State.headDown_iff _).mp h
  have hi' : (((s.loadOutcome o).tables.heads.map freshHead).get i).status = .down := hi
  rw [Bank.get_map] at hi'
  unfold freshHead at hi'
  dsimp only at hi'
  split at hi' <;> cases hi'

theorem loadOutcome_ctl (s : State) (o : LoadOutcome) :
    (s.loadOutcome o).ctl.replies = s.ctl.replies ∧ (s.loadOutcome o).ctl.inProcess = s.ctl.inProcess := by
  unfold State.loadOutcome
  split <;> simp

/-- A reply made with no request in process while at most 8 wait, as a request that was in process has it made (R75). -/
theorem lateReply {s : State} (hp : s.ctl.inProcess = none) (h : I → s.ctl.replies.length ≤ 8) (f : Frame) : s.Calm I (s.reply f) :=
  .of_even <| .still (queues := fun hI ⟨h1, _, h3⟩ => by
    refine ⟨h1, ?_, h3⟩
    show (s.ctl.replies ++ [f]).length ≤ if s.ctl.inProcess.isSome then 8 else 9
    rw [hp, List.length_append, List.length_singleton]
    exact Nat.succ_le_succ (h hI))

theorem endRequested (s : State) (ft : Byte) {o : LoadOutcome} (ho : ∀ t, o = .good t → t.valid = true)
    (ha : s.store.activity = .idle) (hr : I → s.ctl.replies.length ≤ 8) : State.ChainLE I 8 s (s.endRequested ft o) := by
  have h0 : s.Calm I (s.setCtl fun c => { c with inProcess := none }) := by
    refine .of_even (.still (request := fun _ => ⟨nofun, fun ft h => ?_⟩) (queues := fun _ ⟨h1, h2, h3⟩ => ⟨h1, ?_, h3⟩))
    · exact absurd (ha.symm.trans h) nofun
    · show s.ctl.replies.length ≤ 9
      split at h2 <;> omega
  obtain ⟨hrep, hnone⟩ := loadOutcome_ctl (s.setCtl fun c => { c with inProcess := none }) o
  have hlate : ∀ f, ((s.setCtl fun c => { c with inProcess := none }).loadOutcome o).Calm I
      (((s.setCtl fun c => { c with inProcess := none }).loadOutcome o).reply f) := fun f =>
    lateReply hnone (fun hI => by rw [hrep]; exact hr hI) f
  unfold State.endRequested
  dsimp only
  split
  · split
    · exact calm (after_calm h0 (loadOutcome _ ho)) (hlate _)
    · exact of_calm (h0.trans (lateReply (s := s.setCtl fun c => { c with inProcess := none }) rfl hr _))
  · exact calm (after_calm h0 (loadOutcome _ ho)) (hlate _)

theorem endLoad (s : State) {o : LoadOutcome} (ho : ∀ t, o = .good t → t.valid = true) (hI : I → s.InvButPos) :
    State.ChainLE I 8 s (s.endLoad o) := by
  have hidle : s.Calm I (s.setStore fun t => { t with activity := .idle }) := setStore s id nofun
  unfold State.endLoad
  split
  · exact after_calm hidle (endStartUp _ ho)
  · next ft ha =>
    refine after_calm hidle (endRequested _ ft ho rfl fun h => ?_)
    have hp := (hI h).request.2 ft ha
    have hq := (hI h).queues.2.1
    rw [hp] at hq
    exact hq
  · exact .refl s

theorem releaseHeld (s : State) (hI : I → s.InvButPos) : State.ChainLE I 8 s s.releaseHeld := by
  unfold State.releaseHeld
  split
  · next w _ hw =>
    have hp : s.ctl.inProcess = some (.heldWrite w) := by
      unfold State.heldWrite at hw
      split at hw
      · next h =>
        cases hw
        exact h
      · cases hw
    refine calm (applyEntry s (e := w.entry) fun h hi => ?_) ?_
    · have hk := (hI h).request.1 w hw
      obtain ⟨hg, hm⟩ := hi.geometry
      cases he : w.entry with
      | gradeSet i g => exact ⟨hg, hm⟩
      | priceRow i g => exact ⟨hg, hm⟩
      | _ => rw [he] at hk; simp [Entry.kind] at hk
    · have hrep : (s.applyEntry w.entry).ctl.replies = s.ctl.replies := State.applyTables_replies _ _
      have hin : (s.applyEntry w.entry).ctl.inProcess = some (.heldWrite w) := (State.applyTables_inProcess _ _).trans hp
      refine .of_even (.still (request := fun ⟨_, h2⟩ => ⟨nofun, fun ft h => ?_⟩) (queues := fun _ ⟨h1, h2, h3⟩ => ⟨h1, ?_, h3⟩))
      · exact absurd (hin.symm.trans (h2 ft h)) nofun
      · show ((s.applyEntry w.entry).ctl.replies ++ [_]).length ≤ 9
        rw [hin] at h2
        rw [List.length_append, List.length_singleton]
        exact Nat.succ_le_succ h2
  · exact .refl s

theorem writeTable {s : State} (h : s.portReady) (ft : Byte) (p : List Byte) : State.ChainLE I 8 s (s.writeTable ft p) := by
  refine State.writeTable_induct (P := State.ChainLE I 8 s) (.refl s) (fun _ => of_calm (.reply h.1 _)) fun e _ ha _ => ?_
  unfold State.writeEntry
  split
  · next hu =>
    refine of_calm (.of_even (.still (request := fun ⟨_, h2⟩ => ⟨?_, fun ft hl => ?_⟩) (queues := fun _ ⟨h1, h2, h3⟩ => ⟨h1, ?_, h3⟩)))
    · rintro w ⟨⟩
      show e.kind = _ ∨ e.kind = _
      cases e with
      | gradeSet i g => exact .inl rfl
      | priceRow i g => exact .inr rfl
      | _ => cases hu
    · exact absurd (h.2.symm.trans (h2 ft hl)) nofun
    · show s.ctl.replies.length ≤ 8
      have := h.1
      omega
  · refine calm (applyEntry s fun _ hi => geometry_put ha hi.geometry.1 hi.geometry.2) (.reply ?_ _)
    show (s.applyTables _).ctl.replies.length < 8
    rw [State.applyTables_replies]
    exact h.1

end State.ChainLE

end

end Sys2Proof.Machine


/-! PROOF. The ring emptied: its BOARD slots lost in one entry a run, and what a line clear leaves in each block (R18, R144, R150). -/

namespace Sys2Proof.Machine

-- One proof after the other: together they would ask for more threads than the check has memory for.
set_option Elab.async false

/-! ## Lost pieces in one run (R144, R146) -/

/-- A run with a number of its pieces lost. -/
def Run.lose (n : Nat) (r : Run) : Run := r.countAll (List.replicate n (.lost, 1))

@[simp] theorem Run.lose_zero (r : Run) : r.lose 0 = r := rfl

theorem Run.lose_succ (n : Nat) (r : Run) : r.lose (n + 1) = (r.countAll [(.lost, 1)]).lose n := rfl

@[simp] theorem Run.lose_seq (n : Nat) (r : Run) : (r.lose n).seq = r.seq := Run.countAll_seq _ _
@[simp] theorem Run.lose_product (n : Nat) (r : Run) : (r.lose n).product = r.product := Run.countAll_product _ _
@[simp] theorem Run.lose_state (n : Nat) (r : Run) : (r.lose n).state = r.state := Run.countAll_state _ _

theorem Run.lose_of_saturated {r : Run} (n : Nat) (h : r.saturated = true) : (r.lose n).saturated = true :=
  (r.countAll_keeps _).2.2.2 h

theorem Run.lose_countersKept {r : Run} (n : Nat) (h : r.countersKept) : (r.lose n).countersKept := Run.countersKept_countAll h _

theorem Run.lose_get_of_ne (n : Nat) (r : Run) {c : Counter} (hc : c ≠ .lost) : (r.lose n).tally.get c = r.tally.get c :=
  Run.get_countAll_of_not_mem (l := List.replicate n (.lost, 1)) (fun p hp => by
    rw [List.eq_of_mem_replicate hp]
    exact hc.symm) r

/-- The lost counter stops at its maximum. -/
theorem Run.lose_lost {r : Run} (h : r.countersKept) (n : Nat) : (r.lose n).tally.lost = min (r.tally.lost + n) Config.tallyMax := by
  induction n generalizing r with
  | zero => exact (Nat.min_eq_left (h .lost).1).symm
  | succ n ih =>
    rw [Run.lose_succ, ih (Run.countersKept_countAll h _)]
    have : (r.countAll [(.lost, 1)]).tally.lost = min (r.tally.lost + 1) Config.tallyMax := (r.get_count .lost .lost 1).trans (if_pos rfl)
    omega

/-- The saturated mark becomes set where the lost counter stops. -/
theorem Run.lose_saturated {r : Run} (h : r.countersKept) (n : Nat) :
    (r.lose n).saturated = true ↔ r.saturated = true ∨ Config.tallyMax ≤ r.tally.lost + n := by
  induction n generalizing r with
  | zero =>
    refine ⟨.inl, fun hs => hs.elim id fun hmax => ?_⟩
    by_contra hf
    have hlt : r.tally.lost < Config.tallyMax := (h .lost).2 (by simpa using hf)
    omega
  | succ n ih =>
    have hl : (r.countAll [(.lost, 1)]).tally.lost = min (r.tally.lost + 1) Config.tallyMax := (r.get_count .lost .lost 1).trans (if_pos rfl)
    have hs : (r.countAll [(.lost, 1)]).saturated = true ↔
        r.saturated = true ∨ (r.tally.lost < Config.tallyMax ∧ Config.tallyMax ≤ r.tally.lost + 1) := r.count_saturated .lost 1
    have hle : r.tally.lost ≤ Config.tallyMax := (h .lost).1
    have hlt : r.saturated = false → r.tally.lost < Config.tallyMax := (h .lost).2
    rw [Run.lose_succ, ih (Run.countersKept_countAll h _), hs, hl]
    cases hr : r.saturated with
    | true => simp
    | false =>
      have := hlt hr
      simp only [Bool.false_eq_true, false_or]
      omega

/-! ## The pieces of a ring lost -/

/-- The number of a run's BOARD slots among these. -/
def boardsOf (l : List Slot) (seq : Nat) : Nat := l.countP fun x => x.run == seq && x.kind == .board

theorem Run.lose_cons (x : Slot) (l : List Slot) (r : Run) :
    r.lose (boardsOf (x :: l) r.seq) =
      if x.kind = .board ∧ r.seq = x.run then (r.countAll [(.lost, 1)]).lose (boardsOf l r.seq) else r.lose (boardsOf l r.seq) := by
  unfold boardsOf
  rw [List.countP_cons]
  by_cases h : x.kind = .board ∧ r.seq = x.run
  · rw [if_pos h, if_pos (by simp [h.1, h.2]), Run.lose_succ]
  · rw [if_neg h, if_neg (by
      intro hb
      obtain ⟨h1, h2⟩ := Bool.and_eq_true_iff.mp hb
      exact h ⟨beq_iff_eq.mp h2, (beq_iff_eq.mp h1).symm⟩), Nat.add_zero]

/-- Some run's saturated mark becomes set by the loss of the BOARD slots of a list. -/
def State.lossSaturates (s : State) (l : List Slot) : Bool :=
  s.runs.records.any fun r => !r.saturated && (r.lose (boardsOf l r.seq)).saturated

/-- The runs after the loss of the BOARD slots of a list. -/
def State.runsLosing (s : State) (l : List Slot) : State := s.setRuns (·.map fun r => r.lose (boardsOf l r.seq))

/-- A cause raised once more changes nothing. -/
theorem State.raise_raise (s : State) (x : Cause) : (s.raise x).raise x = s.raise x :=
  State.raise_of_isPending (s.raise_isPending x).1

theorem State.raise_setRuns (s : State) (x : Cause) (f : List Run → List Run) : (s.raise x).setRuns f = (s.setRuns f).raise x := by
  unfold State.raise
  show State.setRuns (if s.isPending x then s else _) f = if s.isPending x then _ else _
  split <;> rfl

theorem State.setRuns_setRuns (s : State) (f g : List Run → List Run) : (s.setRuns f).setRuns g = s.setRuns fun l => g (f l) := rfl

/-- The pieces of a list lost one after the other: each run loses its own, and TALLY_SATURATED is raised once where a counter
stops. -/
theorem State.losses_eq (l : List Slot) (s : State) :
    l.foldl State.losePiece s = if s.lossSaturates l then (s.runsLosing l).raise .tallySaturated else s.runsLosing l := by
  induction l generalizing s with
  | nil =>
    have h0 : s.lossSaturates [] = false := by
      unfold State.lossSaturates
      rw [List.any_eq_false]
      intro r _
      show ¬((!r.saturated && r.saturated) = true)
      cases r.saturated <;> simp
    rw [h0]
    show s = s.setRuns fun rs => rs.map id
    simp [State.setRuns]
  | cons x l ih =>
    rw [List.foldl_cons, ih]
    by_cases hk : x.kind = .board
    · have hx : ∀ r : Run, r.lose (boardsOf (x :: l) r.seq) =
          (if r.seq == x.run then r.countAll [(.lost, 1)] else r).lose (boardsOf l r.seq) := by
        intro r
        rw [Run.lose_cons]
        by_cases h : r.seq = x.run
        · rw [if_pos ⟨hk, h⟩, if_pos (beq_iff_eq.mpr h)]
        · rw [if_neg fun h' => h h'.2, if_neg (mt beq_iff_eq.mp h)]
      have hseq : ∀ r : Run, (if r.seq == x.run then r.countAll [(.lost, 1)] else r).seq = r.seq := by
        intro r
        split <;> simp
      have hruns : ∀ u : State, u.runs = (s.setRuns (changeRun x.run (·.countAll [(.lost, 1)]))).runs →
          u.lossSaturates l = s.runs.records.any fun r => !(if r.seq == x.run then r.countAll [(.lost, 1)] else r).saturated
            && (r.lose (boardsOf (x :: l) r.seq)).saturated := by
        intro u hu
        unfold State.lossSaturates
        rw [hu]
        show List.any (changeRun _ _ _) _ = _
        unfold changeRun
        rw [List.any_map]
        congr 1
        funext r
        simp only [Function.comp, hseq, hx]
      have hset : (s.setRuns (changeRun x.run (·.countAll [(.lost, 1)]))).runsLosing l = s.runsLosing (x :: l) := by
        unfold State.runsLosing
        rw [State.setRuns_setRuns]
        congr 1
        funext rs
        unfold changeRun
        rw [List.map_map]
        refine List.map_congr_left fun r _ => ?_
        simp only [Function.comp, hseq, hx]
      have hlose : s.losePiece x = s.enter x.run [(.lost, 1)] := by
        unfold State.losePiece
        rw [if_pos (beq_iff_eq.mpr hk)]
      rw [hlose, State.enter]
      by_cases hA : (s.runs.records.any fun r => r.seq == x.run && !r.saturated && (r.countAll [(.lost, 1)]).saturated) = true
      · have hall : s.lossSaturates (x :: l) = true := by
          obtain ⟨r, hr, h⟩ := List.any_eq_true.mp hA
          simp only [Bool.and_eq_true] at h
          obtain ⟨⟨h1, h2⟩, h3⟩ := h
          refine List.any_eq_true.mpr ⟨r, hr, Bool.and_eq_true_iff.mpr ⟨h2, ?_⟩⟩
          rw [hx, if_pos h1]
          exact Run.lose_of_saturated _ h3
        rw [if_pos hA, hall, if_pos rfl, State.runsLosing, State.raise_setRuns]
        rw [show ((s.setRuns (changeRun x.run (·.countAll [(.lost, 1)]))).setRuns _) = s.runsLosing (x :: l) from hset, State.raise_raise,
          ite_self]
      · rw [if_neg hA, hset]
        have hsame : (s.setRuns (changeRun x.run (·.countAll [(.lost, 1)]))).lossSaturates l = s.lossSaturates (x :: l) := by
          rw [hruns _ rfl]
          unfold State.lossSaturates
          rw [Bool.eq_iff_iff, List.any_eq_true, List.any_eq_true]
          refine exists_congr fun r => and_congr_right fun hr => ?_
          have hno : ¬((r.seq == x.run && !r.saturated && (r.countAll [(.lost, 1)]).saturated) = true) := fun h =>
            hA (List.any_eq_true.mpr ⟨r, hr, h⟩)
          have hk : r.saturated = true → (r.countAll [(.lost, 1)]).saturated = true := (r.countAll_keeps _).2.2.2
          by_cases h : (r.seq == x.run) = true
          · rw [if_pos h]
            rw [h] at hno
            cases h1 : r.saturated <;> cases h2 : (r.countAll [(.lost, 1)]).saturated <;> simp_all
          · rw [if_neg h]
        rw [hsame]
    · have hcount : ∀ r : Run, r.lose (boardsOf (x :: l) r.seq) = r.lose (boardsOf l r.seq) := fun r => by
        rw [Run.lose_cons, if_neg fun h => hk h.1]
      have hlose : s.losePiece x = s := by
        unfold State.losePiece
        rw [if_neg (mt beq_iff_eq.mp hk)]
      rw [hlose]
      unfold State.lossSaturates State.runsLosing
      simp only [hcount]

/-! ## The ring emptied (R18, R138, R144, R150) -/

/-- A run after the ring is emptied: its BOARD slots lost, and CLOSED where it was DRAINING. -/
def Run.emptied (ring : List Slot) (r : Run) : Run := (r.lose (boardsOf ring r.seq)).closeIfDrained []

/-- The control port and the outputs after the loss of the BOARD slots in the ring. -/
def State.lossTold (s : State) : State := if s.lossSaturates s.tracker.ring then s.raise .tallySaturated else s

theorem State.emptyRing_eq (s : State) :
    s.emptyRing = (s.lossTold.setRing []).setRuns (·.map (Run.emptied s.tracker.ring)) := by
  have h : ∀ u : State, (u.setRing []).closeDrained = (u.setRing []).setRuns (·.map (Run.closeIfDrained [])) := fun _ => rfl
  have hset : ∀ u : State, (((u.runsLosing s.tracker.ring).setRing []).setRuns (·.map (Run.closeIfDrained []))) =
      (u.setRing []).setRuns (·.map (Run.emptied s.tracker.ring)) := by
    intro u
    show (u.setRing []).setRuns (fun l => (l.map fun r => r.lose (boardsOf s.tracker.ring r.seq)).map (Run.closeIfDrained [])) = _
    congr 1
    funext l
    rw [List.map_map]
    rfl
  unfold State.emptyRing State.lossTold
  rw [h, State.losses_eq]
  split
  · rw [State.runsLosing, ← State.raise_setRuns]
    exact hset _
  · exact hset s

theorem State.lossTold_eq (s : State) : s.lossTold = s ∨ s.lossTold = s.raise .tallySaturated := by
  unfold State.lossTold
  split
  · exact .inr rfl
  · exact .inl rfl

theorem State.emptyRing_keeps (s : State) :
    { s.emptyRing with tracker := s.tracker, runs := s.runs, ctl := s.ctl, field := s.field } = s
      ∧ s.emptyRing.tracker = { s.tracker with ring := [] } ∧ s.emptyRing.field.inputs = s.field.inputs
      ∧ s.emptyRing.runs = { s.runs with records := s.runs.records.map (Run.emptied s.tracker.ring) } := by
  rw [State.emptyRing_eq]
  rcases s.lossTold_eq with h | h <;> rw [h]
  · exact ⟨rfl, rfl, rfl, rfl⟩
  · obtain ⟨h1, h2⟩ := s.raise_keeps .tallySaturated
    refine ⟨congrArg (fun u : State => { u with tracker := s.tracker, runs := s.runs }) h1, ?_, h2, ?_⟩
    · exact congrArg (fun t : Tracker => { t with ring := [] }) (s.raise_tracker _)
    · exact congrArg (fun t : RunTable => { t with records := t.records.map (Run.emptied s.tracker.ring) }) (s.raise_runs _)

@[simp] theorem State.emptyRing_clock (s : State) : s.emptyRing.clock = s.clock := (congrArg State.clock s.emptyRing_keeps.1 :)
@[simp] theorem State.emptyRing_freeCount (s : State) : s.emptyRing.freeCount = s.freeCount :=
  (congrArg State.freeCount s.emptyRing_keeps.1 :)
@[simp] theorem State.emptyRing_scan (s : State) : s.emptyRing.scan = s.scan := (congrArg State.scan s.emptyRing_keeps.1 :)
@[simp] theorem State.emptyRing_solver (s : State) : s.emptyRing.solver = s.solver := (congrArg State.solver s.emptyRing_keeps.1 :)
@[simp] theorem State.emptyRing_tables (s : State) : s.emptyRing.tables = s.tables := (congrArg State.tables s.emptyRing_keeps.1 :)
@[simp] theorem State.emptyRing_store (s : State) : s.emptyRing.store = s.store := (congrArg State.store s.emptyRing_keeps.1 :)
@[simp] theorem State.emptyRing_consoles (s : State) : s.emptyRing.consoles = s.consoles :=
  (congrArg State.consoles s.emptyRing_keeps.1 :)
@[simp] theorem State.emptyRing_saw (s : State) : s.emptyRing.saw = s.saw := (congrArg State.saw s.emptyRing_keeps.1 :)
@[simp] theorem State.emptyRing_lane (s : State) : s.emptyRing.lane = s.lane := (congrArg State.lane s.emptyRing_keeps.1 :)
@[simp] theorem State.emptyRing_links (s : State) : s.emptyRing.links = s.links := (congrArg State.links s.emptyRing_keeps.1 :)
@[simp] theorem State.emptyRing_pending (s : State) : s.emptyRing.pending = s.pending := (congrArg State.pending s.emptyRing_keeps.1 :)
@[simp] theorem State.emptyRing_tracker (s : State) : s.emptyRing.tracker = { s.tracker with ring := [] } := s.emptyRing_keeps.2.1
@[simp] theorem State.emptyRing_inputs (s : State) : s.emptyRing.field.inputs = s.field.inputs := s.emptyRing_keeps.2.2.1
@[simp] theorem State.emptyRing_runs (s : State) :
    s.emptyRing.runs = { s.runs with records := s.runs.records.map (Run.emptied s.tracker.ring) } := s.emptyRing_keeps.2.2.2

theorem State.emptyRing_told (s : State) : s.emptyRing.ctl = s.lossTold.ctl ∧ s.emptyRing.field = s.lossTold.field := by
  rw [State.emptyRing_eq]
  exact ⟨rfl, rfl⟩

/-! ## The line cleared (R18, R36, R58, R96, R115, R132, R150, R159) -/

/-- The withdrawals of a line clear change the consoles alone. -/
theorem State.withdrawCleared_eq (s : State) : { s.withdrawCleared with consoles := s.consoles } = s := by
  unfold State.withdrawCleared
  have h : ∀ (l : List Slot) (u : State), { l.foldl (fun s x => State.withdraw s x.tag .cleared) u with consoles := s.consoles }
      = { u with consoles := s.consoles } := by
    intro l
    induction l with
    | nil => exact fun _ => rfl
    | cons x l ih => exact fun u => (ih _).trans rfl
  exact h _ s

/-- Before the ring is emptied: the withdrawals made and the exchange abandoned. -/
def State.beforeClear (s : State) : State := s.withdrawCleared.abandonExchange

/-- An abandoned exchange and withdrawals leave the BOARD slots of each run. -/
theorem State.beforeClear_boards (s : State) (seq : Nat) : boardsOf s.beforeClear.tracker.ring seq = boardsOf s.tracker.ring seq := by
  have hw : s.withdrawCleared.tracker = s.tracker := (congrArg State.tracker s.withdrawCleared_eq :)
  unfold State.beforeClear
  rw [State.abandonExchange_eq _ |>.1, hw]
  dsimp only
  split
  · rfl
  · unfold changeSlot boardsOf
    rw [List.countP_map]
    congr 1
    funext x
    simp only [Function.comp]
    split <;> rfl

theorem State.beforeClear_keeps (s : State) :
    { s.beforeClear with tracker := s.tracker, saw := s.saw, consoles := s.consoles } = s
      ∧ { s.beforeClear.tracker with ring := [] } = { s.tracker with ring := [] }
      ∧ s.beforeClear.saw = { s.saw with exchange := none } ∧ s.beforeClear.consoles = s.withdrawCleared.consoles := by
  have hw := s.withdrawCleared_eq
  obtain ⟨h1, h2⟩ := s.withdrawCleared.abandonExchange_eq
  refine ⟨?_, ?_, ?_, State.abandonExchange_consoles _⟩
  · refine Eq.trans ?_ hw
    have habs : ∀ u : State, { u.abandonExchange with tracker := u.tracker, saw := u.saw, consoles := s.consoles } =
        { u with consoles := s.consoles } := by
      intro u
      unfold State.abandonExchange
      cases u.saw.exchange <;> rfl
    refine Eq.trans ?_ (habs s.withdrawCleared)
    have ht : s.withdrawCleared.tracker = s.tracker := (congrArg State.tracker hw :)
    have hs : s.withdrawCleared.saw = s.saw := (congrArg State.saw hw :)
    rw [ht, hs]
    rfl
  · unfold State.beforeClear
    rw [h1]
    exact congrArg (fun t : Tracker => { t with ring := [] }) (congrArg State.tracker hw :)
  · exact h2.trans (congrArg (fun b : SawBus => { b with exchange := none }) (congrArg State.saw hw :))

/-- The rest of a line clear, once the ring is empty. -/
def State.clearRest (s : State) : State := ((s.setTracker Tracker.clear).stopSolving.dropLogs).stopPulses

theorem State.clearLine_eq (s : State) : s.clearLine = s.beforeClear.emptyRing.clearRest := rfl

/-- What a line clear leaves in each block but the consoles, the outputs and the causes. -/
theorem State.clearLine_keeps (s : State) :
    s.clearLine.tracker = { s.tracker with ring := [], pos := 0, lastAdvance := .none }
      ∧ s.clearLine.solver = { s.solver with engine := none } ∧ s.clearLine.lane = { s.lane with state := .idle, queue := [] }
      ∧ s.clearLine.saw = { s.saw with exchange := none } ∧ s.clearLine.tables = s.tables ∧ s.clearLine.store = s.store
      ∧ s.clearLine.scan = s.scan ∧ s.clearLine.field.inputs = s.field.inputs ∧ s.clearLine.links = s.links
      ∧ (s.clearLine.clock, s.clearLine.freeCount, s.clearLine.pending) = (s.clock, s.freeCount, s.pending)
      ∧ s.clearLine.runs = { s.runs with records := s.runs.records.map (Run.emptied s.tracker.ring) }
      ∧ s.clearLine.consoles = s.withdrawCleared.consoles := by
  obtain ⟨hb, ht, hsaw, hcon⟩ := s.beforeClear_keeps
  obtain ⟨hk, htr, hin, hr⟩ := s.beforeClear.emptyRing_keeps
  have hruns : s.beforeClear.runs = s.runs := (congrArg State.runs hb :)
  have hemp : Run.emptied s.beforeClear.tracker.ring = Run.emptied s.tracker.ring := by
    funext r
    unfold Run.emptied
    rw [State.beforeClear_boards]
  rw [hruns, hemp] at hr
  rw [ht] at htr
  have hb2 : s.beforeClear.field.inputs = s.field.inputs := (congrArg (fun u : State => u.field.inputs) hb :)
  rw [State.clearLine_eq, ← hcon]
  generalize s.beforeClear.emptyRing = v at hk htr hin hr ⊢
  generalize s.beforeClear = u at hb hsaw hb2 hk hin ⊢
  have h : ∀ {α : Type} (f : State → α), (∀ x t r c d, f { x with tracker := t, runs := r, ctl := c, field := d } = f x) → f v = f u :=
    fun f hf => (hf _ _ _ _ _).symm.trans (congrArg f hk)
  have h' : ∀ {α : Type} (f : State → α), (∀ x t b c, f { x with tracker := t, saw := b, consoles := c } = f x) → f u = f s :=
    fun f hf => (hf _ _ _ _).symm.trans (congrArg f hb)
  have hclock : (v.clock, v.freeCount, v.pending) = (s.clock, s.freeCount, s.pending) :=
    (h (fun x => (x.clock, x.freeCount, x.pending)) fun _ _ _ _ _ => rfl).trans
      (h' (fun x => (x.clock, x.freeCount, x.pending)) fun _ _ _ _ => rfl)
  refine ⟨congrArg Tracker.clear htr, ?_, ?_, (h (·.saw) fun _ _ _ _ _ => rfl).trans hsaw, ?_, ?_, ?_, hin.trans hb2, ?_, hclock, hr,
    h (·.consoles) fun _ _ _ _ _ => rfl⟩
  · exact congrArg (fun e : Solver => { e with engine := none })
      ((h (·.solver) fun _ _ _ _ _ => rfl).trans (h' (·.solver) fun _ _ _ _ => rfl))
  · exact congrArg (fun l : LogLane => { l with state := .idle, queue := [] })
      ((h (·.lane) fun _ _ _ _ _ => rfl).trans (h' (·.lane) fun _ _ _ _ => rfl))
  · exact (h (·.tables) fun _ _ _ _ _ => rfl).trans (h' (·.tables) fun _ _ _ _ => rfl)
  · exact (h (·.store) fun _ _ _ _ _ => rfl).trans (h' (·.store) fun _ _ _ _ => rfl)
  · exact (h (·.scan) fun _ _ _ _ _ => rfl).trans (h' (·.scan) fun _ _ _ _ => rfl)
  · exact (h (·.links) fun _ _ _ _ _ => rfl).trans (h' (·.links) fun _ _ _ _ => rfl)

theorem State.beforeClear_ctl (s : State) : s.beforeClear.ctl = s.ctl := (congrArg State.ctl s.beforeClear_keeps.1 :)

/-- What a line clear leaves in the control port: a raise of TALLY_SATURATED where a counter stops. -/
theorem State.clearLine_ctl (s : State) :
    s.clearLine.ctl = if s.lossSaturates s.tracker.ring then (s.beforeClear.raise .tallySaturated).ctl else s.ctl := by
  have hb := s.beforeClear_keeps.1
  have hsat : s.beforeClear.lossSaturates s.beforeClear.tracker.ring = s.lossSaturates s.tracker.ring := by
    have hruns : s.beforeClear.runs = s.runs := (congrArg State.runs hb :)
    unfold State.lossSaturates
    simp only [State.beforeClear_boards, hruns]
  refine (s.beforeClear.emptyRing_told.1 : s.clearLine.ctl = _).trans ?_
  unfold State.lossTold
  rw [hsat]
  split
  · rfl
  · exact (congrArg State.ctl hb :)

@[simp] theorem State.clearLine_port (s : State) :
    s.clearLine.ctl.replies = s.ctl.replies ∧ s.clearLine.ctl.inProcess = s.ctl.inProcess := by
  rw [State.clearLine_ctl]
  split
  · rw [State.raise_replies, State.raise_inProcess, State.beforeClear_ctl]
    exact ⟨rfl, rfl⟩
  · exact ⟨rfl, rfl⟩

end Sys2Proof.Machine


/-! PROOF. Every command but POWER_ON and RESTART_ANNOUNCED is a chain of events with at most eight advances. -/

namespace Sys2Proof.Machine

-- One proof after the other: together they would ask for more threads than the check has memory for.
set_option Elab.async false

section
variable {I : Prop} {s : State}

namespace State.Calm

/-- An answer made to a request that the port takes. -/
theorem ok {s : State} (h : s.portReady) (k ft : Byte) (d : List Byte) : s.Calm I (s.ok k ft d) := .reply h.1 _

theorem refuse {s : State} (h : s.portReady) (k ft : Byte) (c : HostCode) : s.Calm I (s.refuse k ft c) := .reply h.1 _

/-! ## Requests that read (R147, R148, R163, R166) -/

theorem readTable (h : s.portReady) (ft : Byte) (p : List Byte) : s.Calm I (s.readTable ft p) := by
  unfold State.readTable
  split
  · split
    · exact .refuse h _ _ _
    · split
      · exact .refuse h _ _ _
      · exact .ok h _ _ _
  · exact .refl s

theorem readTally (h : s.portReady) (ft : Byte) (p : List Byte) : s.Calm I (s.readTally ft p) := by
  unfold State.readTally
  split
  · exact .refl s
  · split
    · exact .refuse h _ _ _
    · split
      · exact .refuse h _ _ _
      · exact .ok h _ _ _

theorem readStatus (h : s.portReady) (ft : Byte) (p : List Byte) : s.Calm I (s.readStatus ft p) := by
  unfold State.readStatus
  split
  · split
    · exact .refuse h _ _ _
    · exact .ok h _ _ _
  · exact .refl s

theorem queryPiece (h : s.portReady) (ft : Byte) (p : List Byte) : s.Calm I (s.queryPiece ft p) := by
  unfold State.queryPiece
  split
  · exact .refl s
  · split
    · exact .refuse h _ _ _
    · exact .ok h _ _ _

/-! ## Causes, alert mask and outputs (R155 to R158, R168, R169) -/

/-- No level cause is cleared while its condition holds (R168). -/
theorem levels_causesAfterClear (h : s.levelsPending) (mask : CauseSet) : s.levelConditions &&& ~~~(s.causesAfterClear mask) = 0 := by
  refine (CauseSet.and_not_eq_zero _ _).mpr fun i hi hl => ?_
  have hp := (CauseSet.and_not_eq_zero _ _).mp h i hi hl
  unfold State.causesAfterClear
  simp [hp, hl, hi]

/-- A change of the port's causes or mask with the outputs judged afresh. -/
theorem setCauses (s : State) {f : ControlPort → ControlPort}
    (hf : (f s.ctl).replies = s.ctl.replies ∧ (f s.ctl).reports = s.ctl.reports ∧ (f s.ctl).inProcess = s.ctl.inProcess)
    (hl : s.levelsPending → s.levelConditions &&& ~~~(f s.ctl).pendingCauses = 0) : s.Calm I (s.setCtl f).judge := by
  obtain ⟨h1, h2, h3⟩ := hf
  refine ⟨.still (request := fun h => ?_) (queues := fun _ h => ?_), hl, fun _ _ _ => State.judge_outputsJudged _⟩
  · show (∀ w, (s.setCtl f).heldWrite = some w → _) ∧ ∀ ft, _ → (f s.ctl).inProcess = _
    unfold State.heldWrite
    show (∀ w, (match (f s.ctl).inProcess with | some (.heldWrite w) => some w | _ => none) = some w → _) ∧ ∀ ft, _ → (f s.ctl).inProcess = _
    rw [h3]
    exact h
  · obtain ⟨k1, k2, k3⟩ := h
    refine ⟨?_, ?_, k3⟩
    · show (f s.ctl).reports.length ≤ 64
      rwa [h2]
    · show (f s.ctl).replies.length ≤ if (f s.ctl).inProcess.isSome then 8 else 9
      rwa [h1, h3]

theorem clearCauses (h : s.portReady) (ft : Byte) (p : List Byte) : s.Calm I (s.clearCauses ft p) := by
  unfold State.clearCauses
  split
  · exact .refuse h _ _ _
  · next mask _ =>
    refine .trans (setCauses s ⟨rfl, rfl, rfl⟩ fun hl => levels_causesAfterClear hl mask) (.reply ?_ _)
    exact h.1

theorem setAlertMask (h : s.portReady) (ft : Byte) (p : List Byte) : s.Calm I (s.setAlertMask ft p) := by
  unfold State.setAlertMask
  split
  · exact .refuse h _ _ _
  · refine .trans (setCauses s ⟨rfl, rfl, rfl⟩ id) (.reply ?_ _)
    exact h.1

theorem setOutput (s : State) (o : Fin 8) (f : Output → Output) : s.Calm I (s.setOutput o f).judge :=
  .of_even .still (judged := fun _ _ _ => State.judge_outputsJudged _)

theorem forceOutput (h : s.portReady) (ft : Byte) (p : List Byte) : s.Calm I (s.forceOutput ft p) := by
  unfold State.forceOutput
  split
  · split
    · refine .trans (setOutput s _ _) (.reply ?_ _)
      exact h.1
    · exact .refuse h _ _ _
  · exact .refl s

theorem releaseOutput (h : s.portReady) (ft : Byte) (p : List Byte) : s.Calm I (s.releaseOutput ft p) := by
  unfold State.releaseOutput
  split
  · split
    · refine .trans (setOutput s _ _) (.reply ?_ _)
      exact h.1
    · exact .refuse h _ _ _
  · exact .refl s

/-! ## The image controller and a restart (R75 to R77, R170) -/

theorem loadImage (h : s.portReady) (ft : Byte) : s.Calm I (s.loadImage ft) := by
  unfold State.loadImage
  split
  · exact .refuse h _ _ _
  · split
    · exact .refuse h _ _ _
    · refine .of_even (.still (request := fun _ => ⟨nofun, fun _ _ => rfl⟩) (queues := fun _ ⟨h1, _, h3⟩ => ⟨h1, ?_, h3⟩))
      exact Nat.le_of_lt h.1

theorem saveImage (h : s.portReady) (ft : Byte) : s.Calm I (s.saveImage ft) := by
  unfold State.saveImage
  split
  · exact .refuse h _ _ _
  · refine .trans (State.ChainLE.setStore s id fun ft ha => ?_) (.reply ?_ _)
    · cases ha
    · exact h.1

theorem pageDone (s : State) : s.Calm I (s.setStore Store.pageDone) := by
  refine State.ChainLE.setStore s (fun h => memWf_pageDone h) fun ft ha => ?_
  unfold Store.pageDone at ha
  split at ha
  · dsimp only at ha
    split at ha <;> cases ha
  · exact ha

theorem pageTimedOut (s : State) : s.Calm I s.pageTimedOut := by
  unfold State.pageTimedOut
  split
  · refine .trans (.of_even ?_) (.raise _ _)
    exact .still (memory := fun h => memWf_pageTorn _ _ _ h) (request := fun ⟨h1, _⟩ => ⟨h1, nofun⟩)
  · exact .refl s

theorem restart (h : s.portReady) (ft : Byte) :
    s.Calm I ((s.ok restartKind ft []).setCtl fun c => { c with inProcess := some .restart }) := by
  refine .of_even (.still (request := fun ⟨_, h2⟩ => ⟨nofun, fun ft ha => ?_⟩) (queues := fun _ ⟨h1, _, h3⟩ => ⟨h1, ?_, h3⟩))
  · exact absurd (h.2.symm.trans (h2 ft ha)) nofun
  · show (s.ctl.replies ++ [_]).length ≤ 8
    rw [List.length_append, List.length_singleton]
    exact h.1

/-! ## Links (R161, R164) -/

theorem setLink (s : State) (l : Link) (f : LinkReceiver → LinkReceiver) : s.Calm I (s.setLink l f) := .of_even .still

theorem controlLinkSend (s : State) : s.Calm I (s.setCtl ControlPort.send) := by
  have hsend : (s.ctl.send).inProcess = s.ctl.inProcess ∧ (s.ctl.send).pendingCauses = s.ctl.pendingCauses
      ∧ (s.ctl.send).alertMask = s.ctl.alertMask ∧ (s.ctl.send).replies.length ≤ s.ctl.replies.length
      ∧ (s.ctl.send).reports.length ≤ s.ctl.reports.length := by
    unfold ControlPort.send
    split
    · next hq => exact ⟨rfl, rfl, rfl, by rw [hq]; exact Nat.le_succ _, Nat.le_refl _⟩
    · next hq hr => exact ⟨rfl, rfl, rfl, by rw [hq], by rw [hr]; exact Nat.le_succ _⟩
    · exact ⟨rfl, rfl, rfl, Nat.le_refl _, Nat.le_refl _⟩
  obtain ⟨hin, hp, hm, hrep, hr⟩ := hsend
  refine .of_even (.still (request := fun ⟨h1, h2⟩ => ⟨fun w hw => h1 w ?_, fun ft ha => hin.trans (h2 ft ha)⟩)
    (queues := fun _ ⟨h1, h2, h3⟩ => ⟨hr.trans h1, ?_, h3⟩)) (.of_eq (hp := fun x h => ?_)) fun _ _ h => ?_
  · unfold State.heldWrite at hw ⊢
    rwa [show (s.setCtl ControlPort.send).ctl.inProcess = _ from hin] at hw
  · show s.ctl.send.replies.length ≤ if s.ctl.send.inProcess.isSome then 8 else 9
    rw [hin]
    exact hrep.trans h2
  · show s.ctl.send.pendingCauses.getLsbD _ = true
    rwa [hp]
  · refine h.of_eq rfl rfl ?_ fun _ => rfl
    show (s.ctl.send.pendingCauses &&& s.ctl.send.alertMask != 0) = _
    rw [hp, hm]
    rfl

/-! ## The chain encoder (R1, R6 to R8) -/

/-- A change of the Tracker that leaves the ring and the tags. -/
theorem setTracker (s : State) {f : Tracker → Tracker} (hr : (f s.tracker).ring = s.tracker.ring)
    (ht : (f s.tracker).nextTag = s.tracker.nextTag) (hp : (f s.tracker).pos ≤ s.tracker.pos) : s.Calm I (s.setTracker f) :=
  .of_even (.still hr ht (pos := fun h => Nat.lt_of_le_of_lt hp h)) (judged := fun _ _ h => h.of_eq rfl rfl rfl fun _ => by
    show (f s.tracker).ring.any _ = _
    rw [hr])

theorem turn (s : State) (forward : Bool) : s.Calm I (s.setTracker (·.turn forward)) := setTracker s rfl rfl (Nat.le_refl _)

theorem reverseCount (s : State) : s.Calm I (s.setTracker Tracker.reverseCount) := by
  refine setTracker s ?_ ?_ ?_
  all_goals unfold Tracker.reverseCount
  all_goals split
  all_goals first | rfl | exact Nat.sub_le _ _

theorem enterStopped (s : State) : s.Calm I s.enterStopped := setTracker s rfl rfl (Nat.le_refl _)

end State.Calm

namespace State.ChainLE

/-! ## Runs (R135 to R139) -/

theorem openRun (h : s.portReady) (ft : Byte) (p : List Byte) : State.ChainLE I 8 s (s.openRun ft p) := by
  unfold State.openRun
  split
  · split
    · exact of_calm (.refuse h _ _ _)
    · split
      · exact of_calm (.refuse h _ _ _)
      · next hc =>
        split
        · exact of_calm (.refuse h _ _ _)
        · next hroom =>
          refine calm ((of_chain (.openRun _ (.refl s) (by simpa using hc) (by simpa using hroom))).mono (Nat.zero_le 8)) (.reply ?_ _)
          exact h.1
  · exact refl s

theorem cutOver (h : s.portReady) (ft : Byte) : State.ChainLE I 8 s (s.cutOver ft) := by
  unfold State.cutOver
  split
  · next hc =>
    refine calm ((of_chain (.cutOver (.refl s) hc)).mono (Nat.zero_le 8)) (.reply ?_ _)
    exact h.1
  · exact of_calm (.refuse h _ _ _)

theorem releaseRun (h : s.portReady) (ft : Byte) (p : List Byte) : State.ChainLE I 8 s (s.releaseRun ft p) := by
  unfold State.releaseRun
  split
  · exact refl s
  · next seq _ =>
    split
    · exact of_calm (.refuse h _ _ _)
    · next r hr =>
      split
      · next hc =>
        refine calm ((of_chain (.releaseRun seq r (.refl s) hr (beq_iff_eq.mp hc))).mono (Nat.zero_le 8)) (.reply ?_ _)
        exact h.1
      · exact of_calm (.refuse h _ _ _)

/-- A request that the port takes: a chain where its owner's part is one. -/
theorem request {k ft : Byte} {p : List Byte} {lengthOk inStarting : Bool} {body : State → State}
    (h : ∀ u : State, u.portReady → (I → s.InvButPos → u.InvButPos) → State.ChainLE I 8 u (body u)) :
    State.ChainLE I 8 s (s.request k ft p lengthOk inStarting body) := by
  have hr : s.Calm I (s.received .control p) := .received s _ _
  exact State.request_induct (P := State.ChainLE I 8 s) (of_calm (hr.trans (.countDiscard _ _)))
    (fun hl code => of_calm (hr.trans (.reply (s := s.received .control p) hl _)))
    fun hready _ _ => after_calm hr (h (s.received .control p) hready fun hI hi => hr.inv hI hi)

theorem requestCalm {k ft : Byte} {p : List Byte} {lengthOk inStarting : Bool} {body : State → State}
    (h : ∀ u : State, u.portReady → u.Calm I (body u)) : State.ChainLE I 8 s (s.request k ft p lengthOk inStarting body) :=
  request fun u hu _ => of_calm (h u hu)

theorem judgeImage_valid {m : List Host.Cell} {t : Tables} (h : judgeImage m = .good t) : t.valid = true := by
  unfold judgeImage at h
  split at h
  · cases h
  · split at h
    · cases h
    · dsimp only at h
      split at h
      · cases h
      · split at h
        · split at h
          · next hv =>
            cases h
            exact hv
          · cases h
        · cases h

/-- Every command but the two that turn the outputs off. -/
theorem of_after (s : State) (hI : I → s.InvButPos) {c : Instr} (hp : ∀ a b p, c ≠ .powerOn a b p) (hr : c ≠ .restartAnnounced) :
    State.ChainLE I 8 s (s.after c) := by
  cases c with
  | powerOn a b p => exact absurd rfl (hp a b p)
  | restartAnnounced => exact absurd rfl hr
  | chainForwardCount =>
    rw [State.after_chainForwardCount]
    split
    · exact of_calm (.turn s _)
    · exact after_calm (.turn s _) ((forwardCount _).mono (by decide))
  | chainReverseCount =>
    rw [State.after_chainReverseCount]
    split
    · exact of_calm (.turn s _)
    · exact of_calm ((State.Calm.turn s _).trans (.reverseCount _))
  | stopTimerExpiry =>
    rw [State.after_stopTimerExpiry]
    split
    · exact of_calm (.enterStopped s)
    · exact refl s
  | inputRawChange i high =>
    rw [State.after_inputRawChange]
    split
    · exact refl s
    · exact after_calm (setInput s i _ fun h _ => h) ((rawChanged _ i).mono (by decide))
  | filterTimerExpiry i =>
    rw [State.after_filterTimerExpiry]
    split
    · exact (recognise s i).mono (by decide)
    · exact refl s
  | segment h k p =>
    rw [State.after_segment]
    exact of_calm ((State.Calm.received s _ _).trans (.headFrame _ h k p))
  | solveStart => exact of_calm (.startSolve s)
  | solveComplete => exact of_calm (.completeSolve s)
  | writePattern => exact of_calm (.sendPattern s)
  | state p => exact of_calm ((State.Calm.received s _ p).trans (.takeState _ p))
  | ack p => exact of_calm ((State.Calm.received s _ p).trans (.takeAck _ p))
  | retry p => exact of_calm ((State.Calm.received s _ p).trans (.takeRetry _ p))
  | fault p => exact of_calm ((State.Calm.received s _ p).trans (.takeFault _ p))
  | replyTimeout => exact of_calm (.replyTimeout s)
  | subscribe c ft p => exact of_calm (.consoleFrame fun _ h _ => .takeSubscribe h ft)
  | unsubscribe c ft p => exact of_calm (.consoleFrame fun _ h _ => .takeUnsubscribe h ft)
  | claim c ft p => exact of_calm (.consoleFrame fun _ h tag => .takeClaim h ft tag)
  | release c ft p => exact of_calm (.consoleFrame fun _ h tag => .takeRelease h ft tag)
  | mark c ft p =>
    rw [State.after_mark]
    exact of_calm (.consoleFrame fun _ h _ => .override h)
  | forceGrade c ft p =>
    rw [State.after_forceGrade]
    exact of_calm (.consoleFrame fun _ h _ => .override h)
  | forceLength c ft p =>
    rw [State.after_forceLength]
    exact of_calm (.consoleFrame fun _ h _ => .override h)
  | forceScrap c ft p =>
    rw [State.after_forceScrap]
    exact of_calm (.consoleFrame fun _ h _ => .override h)
  | clearOverrides c ft p =>
    rw [State.after_clearOverrides]
    exact of_calm (.consoleFrame fun _ h _ => .override h)
  | consoleQueueSend c => exact of_calm (.consoleSend s c)
  | logStart p => exact (of_chain (.logFrame fun u n => .takeLogStart u n)).mono (Nat.zero_le 8)
  | slice p => exact (of_chain (.logFrame fun u x => .takeSlice u x)).mono (Nat.zero_le 8)
  | logEnd p => exact (of_chain (.logFrame fun u n => .takeLogEnd u n)).mono (Nat.zero_le 8)
  | logForwardCount =>
    rw [State.after_logForwardCount]
    have ht : s.Calm I (s.setLane (·.turn true)) := .setLane s id
    split
    · exact of_calm ht
    · refine of_calm ((ht.trans (.logCount _ fun q h => ?_)).trans (.leaveQueue _))
      exact (Nat.sub_le _ _).trans h
  | logReverseCount =>
    rw [State.after_logReverseCount]
    have ht : s.Calm I (s.setLane (·.turn false)) := .setLane s id
    split
    · exact of_calm ht
    · refine of_calm (ht.trans (.logCount _ fun q h => ?_))
      unfold QueuedLog.reverse
      dsimp only
      omega
  | pulseTimerExpiry o =>
    rw [State.after_pulseTimerExpiry]
    split
    · exact of_calm (.setOutput s o _)
    · exact refl s
  | beaconPhaseChange o =>
    rw [State.after_beaconPhaseChange]
    split
    · exact of_calm (.setOutput s o _)
    · exact refl s
  | outputForce ft p => exact requestCalm fun _ h => .forceOutput h ft p
  | outputRelease ft p => exact requestCalm fun _ h => .releaseOutput h ft p
  | tableRead ft p => exact requestCalm fun _ h => .readTable h ft p
  | tableWrite ft p => exact request fun _ h _ => writeTable h ft p
  | heldWriteApplied => exact releaseHeld s hI
  | imageLoad ft p => exact requestCalm fun _ h => .loadImage h ft
  | imageReadTimeout => exact endLoad s nofun hI
  | imageLoadEnd => exact endLoad s (fun t => judgeImage_valid) hI
  | imageSave ft p => exact requestCalm fun _ h => .saveImage h ft
  | pageWriteComplete => exact of_calm (.pageDone s)
  | pageWriteTimeout => exact of_calm (.pageTimedOut s)
  | openRun ft p => exact request fun _ h _ => openRun h ft p
  | boardCutover ft p => exact request fun _ h _ => cutOver h ft
  | runRelease ft p => exact request fun _ h _ => releaseRun h ft p
  | tallyRead ft p => exact requestCalm fun _ h => .readTally h ft p
  | identify ft p => exact requestCalm fun _ h => .ok h _ _ _
  | status ft p => exact requestCalm fun _ h => .readStatus h ft p
  | pieceQuery ft p => exact requestCalm fun _ h => .queryPiece h ft p
  | causes ft p => exact requestCalm fun _ h => .ok h _ _ _
  | clearCauses ft p => exact requestCalm fun _ h => .clearCauses h ft p
  | alertMask ft p => exact requestCalm fun _ h => .setAlertMask h ft p
  | controlLinkSend => exact of_calm (.controlLinkSend s)
  | lineClear ft p =>
    refine request fun u h _ => calm ((of_chain (.clearLine (.refl u))).mono (Nat.zero_le 8)) (.reply ?_ _)
    rw [u.clearLine_port.1]
    exact h.1
  | restart ft p => exact requestCalm fun _ h => .restart h ft
  | badFrame l b =>
    rw [State.after_badFrame]
    split
    · exact of_calm (.setLink s l _)
    · exact refl s
  | frameByteTimeout l b =>
    rw [State.after_frameByteTimeout]
    split
    · exact of_calm (.setLink s l _)
    · exact refl s
  | headLinkSend h =>
    rw [State.after_headLinkSend]
    exact of_calm (.setScan s rfl)
  | requestBadKind k ft p =>
    rw [State.after_requestBadKind]
    split
    · exact refl s
    · exact requestCalm fun _ h => .refuse h _ _ _
  | consoleFrameBadKind c k ft p =>
    rw [State.after_consoleFrameBadKind]
    split
    · exact refl s
    · exact of_calm (.consoleFrame fun u _ _ => .refl u)
  | logFrameDiscard k p =>
    rw [State.after_logFrameDiscard]
    split
    · exact refl s
    · split
      · exact of_calm (.received s _ _)
      · exact of_calm ((State.Calm.received s _ _).trans (.discardLog _))
  | busFrameDiscarded k p =>
    rw [State.after_busFrameDiscarded]
    split
    · exact refl s
    · exact of_calm ((State.Calm.received s _ _).trans (.discardBus _))

end State.ChainLE

end

end Sys2Proof.Machine


/-! PROOF. The run table through the opening, the cutover and the release of runs and through the loss of a ring (R135 to R139). -/

namespace Sys2Proof.Machine

-- One proof after the other: together they would ask for more threads than the check has memory for.
set_option Elab.async false

theorem State.run?_isSome_iff (s : State) (seq : Nat) : (s.run? seq).isSome ↔ ∃ r ∈ s.runs.records, r.seq = seq := by
  unfold State.run?
  rw [List.find?_isSome]
  simp

section
variable {s : State}

/-- Two board-current runs are one. -/
theorem State.RunTableKept.eq_of_boardCurrent (h : s.RunTableKept) {r q : Run} (hr : r ∈ s.runs.records) (hq : q ∈ s.runs.records)
    (hr' : r.state.boardCurrent = true) (hq' : q.state.boardCurrent = true) : r = q := by
  have h1 := find?_of_countP_one h.boardCurrent hr hr'
  rw [find?_of_countP_one h.boardCurrent hq hq'] at h1
  exact (Option.some.inj h1).symm

theorem Run.yieldLogs_keeps (r : Run) :
    r.yieldLogs.seq = r.seq ∧ r.yieldLogs.tally = r.tally ∧ r.yieldLogs.saturated = r.saturated ∧ r.yieldLogs.product = r.product := by
  unfold Run.yieldLogs
  split <;> exact ⟨rfl, rfl, rfl, rfl⟩

theorem Run.cutOver_keeps (d : RunState) (r : Run) :
    (r.cutOver d).seq = r.seq ∧ (r.cutOver d).tally = r.tally ∧ (r.cutOver d).saturated = r.saturated
      ∧ (r.cutOver d).product = r.product := by
  unfold Run.cutOver
  split <;> exact ⟨rfl, rfl, rfl, rfl⟩

theorem Tally.get_zero (c : Counter) : Tally.zero.get c = 0 := by
  cases c with
  | kept g n => simp [Tally.get, Tally.zero]
  | volume g => simp [Tally.get, Tally.zero]
  | flag f => cases f <;> rfl
  | rejected r => cases r <;> rfl
  | logClass c => simp [Tally.get, Tally.zero]
  | _ => rfl

theorem Run.opened_countersKept (seq : Nat) (p : Fin 8) : (Run.opened seq p).countersKept := by
  intro c
  show Tally.zero.get c ≤ _ ∧ (_ → Tally.zero.get c < _)
  rw [Tally.get_zero]
  exact ⟨Nat.zero_le _, fun _ => by decide⟩

theorem State.runsKept.openRun (h : s.runsKept) (p : Fin 8) (hc : s.cutoverPending = false) (hroom : s.runs.hasRoom = true) :
    ({ s with runs := s.runs.openRun p } : State).runsKept := by
  obtain ⟨htab, hdrain, hslots⟩ := s.runsKept_iff.mp h
  have hno : ∀ r ∈ s.runs.records, r.state ≠ .logs := by
    intro r hr hl
    have := State.cutoverPending_of_logs h hr hl
    rw [hc] at this
    cases this
  obtain ⟨hlen, hlast⟩ : s.runs.records.length < 16 ∧ s.runs.lastIssued < 65535 := by
    obtain ⟨h1, h2⟩ := Bool.and_eq_true_iff.mp hroom
    exact ⟨of_decide_eq_true h1, of_decide_eq_true h2⟩
  set t : State := { s with runs := s.runs.openRun p } with ht
  set new := Run.opened (s.runs.lastIssued + 1) p with hnew
  have hrec : t.runs.records = s.runs.records.map Run.yieldLogs ++ [new] := rfl
  have hmem : ∀ r ∈ t.runs.records, r = new ∨ ∃ q ∈ s.runs.records, r = q.yieldLogs := by
    intro r hr
    rw [hrec, List.mem_append, List.mem_singleton, List.mem_map] at hr
    rcases hr with ⟨q, hq, rfl⟩ | rfl
    · exact .inr ⟨q, hq, rfl⟩
    · exact .inl rfl
  have hin : new ∈ t.runs.records := by
    rw [hrec]
    exact List.mem_append_right _ (List.mem_singleton_self _)
  have hylog : ∀ q ∈ s.runs.records, q.yieldLogs.state.logCurrent = false := by
    intro q hq
    have := hno q hq
    unfold Run.yieldLogs
    cases hs : q.state <;> simp_all [RunState.logCurrent]
  have hyboard : ∀ q : Run, q.yieldLogs.state.boardCurrent = q.state.boardCurrent := by
    intro q
    unfold Run.yieldLogs
    cases hs : q.state <;> simp_all [RunState.boardCurrent]
  have hlog1 : t.runs.records.countP (·.state.logCurrent) = 1 := by
    rw [hrec, List.countP_append, List.countP_map]
    have : s.runs.records.countP ((fun r : Run => r.state.logCurrent) ∘ Run.yieldLogs) = 0 :=
      List.countP_eq_zero.mpr fun q hq => by simp [hylog q hq]
    rw [this]
    rfl
  have hboard1 : t.runs.records.countP (·.state.boardCurrent) = 1 := by
    rw [hrec, List.countP_append, List.countP_map]
    have : (fun r : Run => r.state.boardCurrent) ∘ Run.yieldLogs = fun r => r.state.boardCurrent := funext hyboard
    rw [this, htab.boardCurrent]
    rfl
  refine t.runsKept_iff.mpr ⟨⟨?_, ?_, ?_, ?_, hlog1, hboard1, ?_⟩, fun r hr => ?_, fun x hx hk => ?_⟩
  · rw [hrec, List.map_append, List.map_map, List.pairwise_append]
    have hseq : (fun r : Run => r.seq) ∘ Run.yieldLogs = fun r => r.seq := funext fun r => r.yieldLogs_keeps.1
    rw [hseq]
    refine ⟨htab.rising, List.pairwise_singleton _ _, fun a ha b hb => ?_⟩
    obtain ⟨q, hq, rfl⟩ := List.mem_map.mp ha
    rw [List.map_singleton, List.mem_singleton] at hb
    subst hb
    exact Nat.lt_succ_of_le (htab.each q hq).2.1
  · intro r hr
    rcases hmem r hr with rfl | ⟨q, hq, rfl⟩
    · exact ⟨Nat.le_add_left .., Nat.le_refl _, Run.opened_countersKept _ _⟩
    · obtain ⟨h1, h2, h3⟩ := htab.each q hq
      obtain ⟨k1, k2, k3, -⟩ := q.yieldLogs_keeps
      rw [k1]
      refine ⟨h1, Nat.le_succ_of_le h2, ?_⟩
      unfold Run.countersKept
      rw [k2, k3]
      exact h3
  · exact hlast
  · rw [hrec, List.length_append, List.length_map]
    exact hlen
  · have hl : t.logSeq = s.runs.lastIssued + 1 := by
      unfold State.logSeq State.logRun
      rw [find?_of_countP_one hlog1 hin rfl]
      rfl
    obtain ⟨b, hb, hbc, -⟩ := htab.boardRun
    have hbin : b.yieldLogs ∈ t.runs.records := by
      rw [hrec]
      exact List.mem_append_left _ (List.mem_map_of_mem hb)
    have hbs : t.boardSeq = b.seq := by
      unfold State.boardSeq State.boardRun
      rw [find?_of_countP_one hboard1 hbin ((hyboard b).trans hbc)]
      exact b.yieldLogs_keeps.1
    rw [hl, hbs]
    exact Nat.le_succ_of_le (htab.each b hb).2.1
  · rcases hmem r hr with rfl | ⟨q, hq, rfl⟩
    · exact ⟨nofun, nofun⟩
    · rw [q.yieldLogs_keeps.1]
      have := hdrain q hq
      unfold Run.yieldLogs
      split
      · exact ⟨nofun, nofun⟩
      · exact this
  · obtain ⟨r, hr, hseq⟩ := (s.run?_isSome_iff _).mp (hslots x hx hk)
    refine (t.run?_isSome_iff _).mpr ⟨r.yieldLogs, ?_, r.yieldLogs_keeps.1.trans hseq⟩
    rw [hrec]
    exact List.mem_append_left _ (List.mem_map_of_mem hr)

theorem State.runsKept.cutOver (h : s.runsKept) :
    (s.setRuns (·.map (Run.cutOver (s.drainedState s.boardSeq)))).runsKept := by
  obtain ⟨htab, hdrain, hslots⟩ := s.runsKept_iff.mp h
  set d := s.drainedState s.boardSeq with hd
  set t := s.setRuns (·.map (Run.cutOver d)) with ht
  have hrec : t.runs.records = s.runs.records.map (Run.cutOver d) := rfl
  have hd' : d = .closed ∨ d = .draining := by
    rw [hd]
    unfold State.drainedState
    split
    · exact .inl rfl
    · exact .inr rfl
  have hlog : ∀ r : Run, (r.cutOver d).state.logCurrent = r.state.logCurrent := by
    intro r
    unfold Run.cutOver
    rcases hd' with e | e <;> rw [e] <;> cases hs : r.state <;> simp [RunState.logCurrent, hs]
  have hboard : ∀ r : Run, (r.cutOver d).state.boardCurrent = r.state.logCurrent := by
    intro r
    unfold Run.cutOver
    rcases hd' with e | e <;> rw [e] <;> cases hs : r.state <;> simp [RunState.logCurrent, RunState.boardCurrent, hs]
  have hcount : ∀ p : Run → Bool, (∀ r : Run, p (r.cutOver d) = r.state.logCurrent) → t.runs.records.countP p = 1 := by
    intro p hp
    rw [hrec, List.countP_map, show p ∘ Run.cutOver d = fun r => r.state.logCurrent from funext hp]
    exact htab.logCurrent
  refine t.runsKept_iff.mpr ⟨⟨?_, ?_, htab.lastIssued, ?_, hcount _ hlog, hcount _ hboard, ?_⟩, fun r hr => ?_, fun x hx hk => ?_⟩
  · rw [hrec, List.map_map]
    rw [show (fun r : Run => r.seq) ∘ Run.cutOver d = fun r => r.seq from funext fun r => (r.cutOver_keeps d).1]
    exact htab.rising
  · intro r hr
    rw [hrec] at hr
    obtain ⟨q, hq, rfl⟩ := List.mem_map.mp hr
    obtain ⟨h1, h2, h3⟩ := htab.each q hq
    obtain ⟨k1, k2, k3, -⟩ := q.cutOver_keeps d
    refine ⟨k1.symm ▸ h1, k1.symm ▸ h2, ?_⟩
    unfold Run.countersKept
    rw [k2, k3]
    exact h3
  · rw [hrec, List.length_map]
    exact htab.length
  · have : t.boardRun = t.logRun := by
      unfold State.boardRun State.logRun
      rw [hrec, List.find?_map, List.find?_map]
      rw [show (fun r : Run => r.state.boardCurrent) ∘ Run.cutOver d = (fun r : Run => r.state.logCurrent) ∘ Run.cutOver d from
        funext fun r => (hboard r).trans (hlog r).symm]
    unfold State.boardSeq State.logSeq
    rw [this]
  · rw [hrec] at hr
    obtain ⟨q, hq, rfl⟩ := List.mem_map.mp hr
    rw [(q.cutOver_keeps d).1]
    have hq' := hdrain q hq
    show (_ → s.openSlots q.seq ≠ 0) ∧ (_ → s.openSlots q.seq = 0)
    unfold Run.cutOver
    split
    · exact ⟨nofun, nofun⟩
    · next hs =>
      have hseq : s.boardSeq = q.seq := by
        obtain ⟨b, hb, hbc, -, e⟩ := htab.boardRun
        rw [e, htab.eq_of_boardCurrent hb hq hbc (by rw [hs]; rfl)]
      rw [hd, hseq]
      unfold State.drainedState
      split
      · next h0 => exact ⟨nofun, fun _ => beq_iff_eq.mp h0⟩
      · next h0 => exact ⟨fun _ => mt beq_iff_eq.mpr h0, nofun⟩
    · exact hq'
  · obtain ⟨r, hr, hseq⟩ := (s.run?_isSome_iff _).mp (hslots x hx hk)
    refine (t.run?_isSome_iff _).mpr ⟨r.cutOver d, ?_, (r.cutOver_keeps d).1.trans hseq⟩
    rw [hrec]
    exact List.mem_map_of_mem hr

theorem State.runsKept.releaseRun (h : s.runsKept) {seq : Nat} {r : Run} (hr : s.run? seq = some r) (hc : r.state = .closed) :
    (s.setRuns (·.filter (·.seq != seq))).runsKept := by
  obtain ⟨htab, hdrain, hslots⟩ := s.runsKept_iff.mp h
  obtain ⟨hrm, rfl⟩ := State.run?_some hr
  set t := s.setRuns (·.filter (·.seq != r.seq)) with ht
  have hrec : t.runs.records = s.runs.records.filter (·.seq != r.seq) := rfl
  have hsub : ∀ q ∈ t.runs.records, q ∈ s.runs.records := fun q hq => (List.mem_filter.mp hq).1
  have hstay : ∀ q ∈ s.runs.records, q.state ≠ .closed → q ∈ t.runs.records := by
    intro q hq hs
    refine List.mem_filter.mpr ⟨hq, bne_iff_ne.mpr fun e => hs ?_⟩
    rw [htab.eq_of_seq hq hrm e, hc]
  have hcount : ∀ p : Run → Bool, (∀ q, q.state = .closed → p q = false) → t.runs.records.countP p = s.runs.records.countP p := by
    intro p hp
    rw [hrec, List.countP_filter]
    refine List.countP_congr fun q hq => ?_
    rw [Bool.and_eq_true_iff, bne_iff_ne]
    refine ⟨fun ⟨h1, _⟩ => h1, fun h1 => ⟨h1, fun e => ?_⟩⟩
    have := hp q (by rw [htab.eq_of_seq hq hrm e, hc])
    rw [h1] at this
    cases this
  have hlog1 := (hcount (·.state.logCurrent) fun q hq => by simp [hq, RunState.logCurrent]).trans htab.logCurrent
  have hboard1 := (hcount (·.state.boardCurrent) fun q hq => by simp [hq, RunState.boardCurrent]).trans htab.boardCurrent
  refine t.runsKept_iff.mpr ⟨⟨?_, fun q hq => htab.each q (hsub q hq), htab.lastIssued, ?_, hlog1, hboard1, ?_⟩,
    fun q hq => hdrain q (hsub q hq), fun x hx hk => ?_⟩
  · rw [hrec]
    exact htab.rising.sublist (List.filter_sublist.map _)
  · exact (List.filter_sublist.length_le).trans htab.length
  · obtain ⟨l, hl, hlc, -, hls⟩ := htab.logRun
    obtain ⟨b, hb, hbc, -, hbs⟩ := htab.boardRun
    have hl' : t.logSeq = s.logSeq := by
      rw [hls]
      unfold State.logSeq State.logRun
      rw [find?_of_countP_one hlog1 (hstay l hl fun e => by rw [e] at hlc; cases hlc) hlc]
      rfl
    have hb' : t.boardSeq = s.boardSeq := by
      rw [hbs]
      unfold State.boardSeq State.boardRun
      rw [find?_of_countP_one hboard1 (hstay b hb fun e => by rw [e] at hbc; cases hbc) hbc]
      rfl
    rw [hl', hb']
    exact htab.order
  · obtain ⟨q, hq, hseq⟩ := (s.run?_isSome_iff _).mp (hslots x hx hk)
    refine (t.run?_isSome_iff _).mpr ⟨q, List.mem_filter.mpr ⟨hq, bne_iff_ne.mpr fun e => ?_⟩, hseq⟩
    have h0 := (hdrain r hrm).2 hc
    unfold State.openSlots at h0
    refine List.countP_eq_zero.mp h0 x hx ?_
    unfold Slot.openIn
    rw [Bool.and_eq_true_iff, beq_iff_eq, bne_iff_ne]
    exact ⟨hseq.symm.trans e, hk⟩

/-- The ring emptied, its pieces lost and the drained runs closed. -/
theorem State.runsKept.emptied {t : State} (h : s.runsKept) {ring : List Slot} (hring : t.tracker.ring = [])
    (hruns : t.runs = { s.runs with records := s.runs.records.map (Run.emptied ring) }) : t.runsKept := by
  obtain ⟨htab, -, -⟩ := s.runsKept_iff.mp h
  have hrec : t.runs.records = s.runs.records.map (Run.emptied ring) := by rw [hruns]
  have hf : KeepsCurrent (Run.emptied ring) :=
    ⟨fun r => ((closeIfDrained_keepsCurrent []).seq _).trans (Run.lose_seq _ r),
      fun r => ((closeIfDrained_keepsCurrent []).log _).trans (by rw [Run.lose_state]),
      fun r => ((closeIfDrained_keepsCurrent []).board _).trans (by rw [Run.lose_state])⟩
  have hopen : ∀ q, t.openSlots q = 0 := fun q => by
    unfold State.openSlots
    rw [hring]
    rfl
  refine t.runsKept_iff.mpr ⟨htab.of_map (by rw [hruns]) hrec hf fun r hr => ?_, fun r hr => ?_, fun x hx => ?_⟩
  · have := Run.lose_countersKept (boardsOf ring r.seq) hr
    unfold Run.emptied Run.countersKept
    rw [(Run.closeIfDrained_tally _ _).1, (Run.closeIfDrained_tally _ _).2.1]
    exact this
  · rw [hrec] at hr
    obtain ⟨q, -, rfl⟩ := List.mem_map.mp hr
    refine ⟨fun hs => ?_, fun _ => hopen _⟩
    exfalso
    unfold Run.emptied Run.closeIfDrained at hs
    split at hs
    · cases hs
    · next hn =>
      rw [hs] at hn
      exact hn rfl
  · rw [hring] at hx
    cases hx

end

end Sys2Proof.Machine


/-! PROOF. A chain of events keeps the invariant. -/

namespace Sys2Proof.Machine

-- One proof after the other: together they would ask for more threads than the check has memory for.
set_option Elab.async false

section
variable {s t : State}

namespace State.InvButPos

/-- The runs replaced by runs that are kept. -/
theorem setRuns {f : List Run → List Run} (h : s.InvButPos) (hr : (s.setRuns f).runsKept) : (s.setRuns f).InvButPos :=
  { memory := h.memory, geometry := h.geometry, ring := h.ring, slots := h.slots, exchange := h.exchange, claims := h.claims,
    queues := h.queues, runs := hr, request := h.request }

theorem raise (h : s.InvButPos) (x : Cause) : (s.raise x).InvButPos := (State.Calm.raise s x).inv (I := True) trivial h

/-- A tally entry keeps the invariant. -/
theorem enter (h : s.InvButPos) (seq : Nat) (l : List (Counter × Nat)) : (s.enter seq l).InvButPos := by
  have hruns := h.runs.enter seq l
  have hset : (s.setRuns (changeRun seq (·.countAll l))).runsKept :=
    hruns.of_places (by rw [State.enter_runs]; rfl) (by rw [State.enter_tracker]; rfl)
  rcases s.enter_eq seq l with e | e <;> rw [e]
  · exact h.setRuns hset
  · exact (h.setRuns hset).raise _

theorem openRun (h : s.InvButPos) (p : Fin 8) (hc : s.cutoverPending = false) (hr : s.runs.hasRoom = true) :
    ({ s with runs := s.runs.openRun p } : State).InvButPos :=
  { memory := h.memory, geometry := h.geometry, ring := h.ring, slots := h.slots, exchange := h.exchange, claims := h.claims,
    queues := h.queues, runs := h.runs.openRun p hc hr, request := h.request }

/-! ## A line clear -/

theorem withdrawCleared_queues (s : State) : s.QueuesFrame s.withdrawCleared := by
  unfold State.withdrawCleared
  induction s.tracker.ring.filter _ generalizing s with
  | nil => rfl
  | cons x l ih => exact (State.QueuesFrame.withdraw s x.tag .cleared).trans (ih _)

theorem heldWrite_congr (h : t.ctl.inProcess = s.ctl.inProcess) : t.heldWrite = s.heldWrite := by
  unfold State.heldWrite
  rw [h]

theorem clearLine (h : s.InvButPos) : s.clearLine.InvButPos := by
  obtain ⟨ht, hsol, hlane, hsaw, htab, hst, -, -, -, -, hruns, hcon⟩ := s.clearLine_keeps
  obtain ⟨hrep, hin⟩ := s.clearLine_port
  have hreports : s.clearLine.ctl.reports.length ≤ max s.ctl.reports.length 64 := by
    rw [State.clearLine_ctl]
    split
    · have := (s.beforeClear.raise_port .tallySaturated).2.2.2.2.2
      rwa [State.beforeClear_ctl] at this
    · exact Nat.le_max_left ..
  have hq := withdrawCleared_queues s
  generalize s.clearLine = t at *
  generalize s.withdrawCleared = u at hcon hq
  have hring : t.tracker.ring = [] := by rw [ht]
  exact
    { memory := by
        have := h.memory
        rwa [State.memoryKept, ← hst] at this
      geometry := by
        have := h.geometry
        unfold State.geometryKept State.geo at this ⊢
        rwa [htab]
      ring := by
        unfold State.ringKept
        rw [ht]
        exact ⟨List.Pairwise.nil, fun x hx => absurd hx List.not_mem_nil, rfl, h.ring.2.2.2⟩
      slots := by
        unfold State.slotsKept
        rw [hring, hsol]
        exact ⟨fun x hx => absurd hx List.not_mem_nil, fun j hj => absurd hj (Option.not_mem_none j)⟩
      exchange := by
        unfold State.exchangeKept
        rw [hsaw]
        exact fun ex hex => absurd hex (Option.not_mem_none ex)
      claims := fun c => by
        rw [State.claims_length, hring]
        exact Nat.zero_le _
      queues := by
        obtain ⟨h1, h2, h3, -, -⟩ := h.queues
        refine ⟨by omega, by rwa [hrep, hin], fun c => ?_, by rw [hlane]; exact Nat.zero_le _, by
          rw [hlane]
          exact fun q hq => absurd hq List.not_mem_nil⟩
        obtain ⟨k1, k2⟩ := hq.consoles c (h3 c).2
        rw [hcon, k1]
        exact ⟨(h3 c).1, k2⟩
      runs := h.runs.emptied hring hruns
      request := by
        have := h.request
        unfold State.requestKept at this ⊢
        rwa [heldWrite_congr hin, hin, hst] }

/-! ## An advance and a replacement of tables -/

/-- A change of the Tracker that leaves the ring and the tags. -/
theorem setTracker (h : s.InvButPos) {f : Tracker → Tracker}
    (hf : ((f s.tracker).ring, (f s.tracker).nextTag) = (s.tracker.ring, s.tracker.nextTag)) : (s.setTracker f).InvButPos := by
  obtain ⟨hr, ht⟩ := Prod.mk.inj hf
  have e : s.setTracker f = { s with tracker := { f s.tracker with ring := s.tracker.ring, nextTag := s.tracker.nextTag } } := by
    rw [← hr, ← ht]
    rfl
  rw [e]
  exact { memory := h.memory, geometry := h.geometry, ring := h.ring, slots := h.slots, exchange := h.exchange, claims := h.claims,
          queues := h.queues, runs := h.runs, request := h.request }

theorem beforeInputs (h : s.InvButPos) {new : Tables} (hg : new.geometry.valid = true ∧ new.sawBus.modules = new.geometry.modules) :
    (s.beforeInputs new).InvButPos := by
  have hset : ((s.tablesSet new).setSaw fun b =>
      { b with modules := modulesAfterCount s.tables.sawBus.modules new.sawBus.modules b.modules }).InvButPos :=
    { memory := h.memory, geometry := hg, ring := h.ring, slots := h.slots, exchange := h.exchange, claims := h.claims,
      queues := h.queues, runs := h.runs, request := h.request }
  unfold State.beforeInputs
  rw [State.changeModuleCount_eq]
  split
  · exact hset.raise _
  · exact hset

end State.InvButPos

/-- pos after a replacement of tables is within the new K+W. -/
theorem State.beforeInputs_posKept (s : State) {new : Tables} (hg : new.geometry.valid = true) : (s.beforeInputs new).posKept := by
  have hw : 0 < new.geometry.windowEnd := by
    have := Geometry.valid_lug hg
    unfold Geometry.windowEnd
    omega
  unfold State.posKept State.geo
  rw [State.beforeInputs_tables]
  unfold State.beforeInputs
  rw [State.changeModuleCount_tracker]
  show min s.tracker.pos (new.geometry.windowEnd - 1) < _
  omega

/-- A chain of events keeps the invariant. -/
theorem State.Chain.inv {I : Prop} {n : Nat} (h : State.Chain I n s t) (hI : I) (hs : s.Inv) : t.Inv := by
  obtain ⟨hb, hp⟩ := s.inv_iff.mp hs
  clear hs
  rw [State.inv_iff]
  induction h with
  | refl => exact ⟨hb, hp⟩
  | calm _ hc ih =>
    obtain ⟨kb, kp⟩ := ih hb hp
    exact ⟨hc.inv hI kb, hc.pos kp⟩
  | logEntry fault m reject _ ih =>
    obtain ⟨kb, kp⟩ := ih hb hp
    refine ⟨kb.enter _ _, ?_⟩
    unfold State.posKept State.geo
    rwa [State.enter_tracker, State.enter_tables]
  | openRun p _ h1 h2 ih =>
    obtain ⟨kb, kp⟩ := ih hb hp
    exact ⟨kb.openRun p h1 h2, kp⟩
  | cutOver _ _ ih =>
    obtain ⟨kb, kp⟩ := ih hb hp
    exact ⟨kb.setRuns kb.runs.cutOver, kp⟩
  | releaseRun seq r _ h1 h2 ih =>
    obtain ⟨kb, kp⟩ := ih hb hp
    exact ⟨kb.setRuns (kb.runs.releaseRun h1 h2), kp⟩
  | @clearLine _ _ u _ ih =>
    obtain ⟨kb, kp⟩ := ih hb hp
    refine ⟨kb.clearLine, ?_⟩
    obtain ⟨ht, -, -, -, htab, -⟩ := u.clearLine_keeps
    unfold State.posKept State.geo
    rw [ht, htab]
    exact Nat.lt_of_le_of_lt (Nat.zero_le _) kp
  | @advance _ _ u f synth pos last _ h1 h2 ih =>
    obtain ⟨kb, -⟩ := ih hb hp
    have ka := (kb.setTracker h1).advance synth
    refine ⟨ka.setTracker (f := fun t => { t with pos := pos, lastAdvance := last }) rfl, ?_⟩
    show pos < ((u.setTracker f).advance synth).geo.windowEnd
    rw [State.geo, State.advance_tables]
    exact h2 kb.geometry.1
  | tables new _ h1 _ _ ih ihk =>
    obtain ⟨kb, -⟩ := ih hb hp
    have hg := h1 hI kb
    exact ihk (kb.beforeInputs hg) (State.beforeInputs_posKept _ hg.1)

end

end Sys2Proof.Machine


/-! PROOF. A restart, power-on and the passing of time, and with them what every step keeps (O48, O50 to O54, O57). -/

namespace Sys2Proof.Machine

-- One proof after the other: together they would ask for more threads than the check has memory for.
set_option Elab.async false

section
variable {s t : State}

/-! ## A restart (R170) -/

/-- What raises of level causes leave: all but the port's causes and reports and the outputs. -/
theorem State.raiseLevels_keeps (s : State) :
    { s.raiseLevels with ctl := s.ctl, field := s.field } = s ∧ s.raiseLevels.field.inputs = s.field.inputs
      ∧ s.raiseLevels.ctl.replies = s.ctl.replies ∧ s.raiseLevels.ctl.alertMask = s.ctl.alertMask
      ∧ s.raiseLevels.ctl.rate = s.ctl.rate ∧ s.raiseLevels.ctl.inProcess = s.ctl.inProcess
      ∧ s.raiseLevels.ctl.sending = s.ctl.sending ∧ s.raiseLevels.ctl.reports.length ≤ max s.ctl.reports.length 64 := by
  refine State.raiseLevels_induct (P := fun u => { u with ctl := s.ctl, field := s.field } = s ∧ u.field.inputs = s.field.inputs
      ∧ u.ctl.replies = s.ctl.replies ∧ u.ctl.alertMask = s.ctl.alertMask ∧ u.ctl.rate = s.ctl.rate
      ∧ u.ctl.inProcess = s.ctl.inProcess ∧ u.ctl.sending = s.ctl.sending
      ∧ u.ctl.reports.length ≤ max s.ctl.reports.length 64)
    ⟨rfl, rfl, rfl, rfl, rfl, rfl, rfl, Nat.le_max_left ..⟩ ?_
  rintro u x ⟨h1, h2, h3, h4, h5, h6, h7, h8⟩
  obtain ⟨k1, k2⟩ := u.raise_keeps x
  obtain ⟨p1, p2, p3, p4, p5, p6⟩ := u.raise_port x
  refine ⟨?_, k2.trans h2, p1.trans h3, p2.trans h4, p3.trans h5, p4.trans h6, p5.trans h7, by omega⟩
  exact (congrArg (fun v : State => { v with ctl := s.ctl, field := s.field }) k1).trans h1

/-- Once the level causes are raised, each whose condition holds is pending. -/
theorem State.raiseLevels_levels (s : State) : s.raiseLevels.levelsPending := by
  have step : ∀ (u : State) (b : Bool) (x : Cause), u.LevelFrame (if b then u.raise x else u)
      ∧ (b = true → (if b then u.raise x else u).isPending x = true) := by
    intro u b x
    cases b with
    | true => exact ⟨.raise u x, fun _ => (u.raise_isPending x).1⟩
    | false => exact ⟨.refl u, nofun⟩
  have hkeep : ∀ (u : State) (b : Bool) (x : Cause), (if b then u.raise x else u).headDown = u.headDown
      ∧ (if b then u.raise x else u).moduleOffline = u.moduleOffline ∧ (if b then u.raise x else u).inhibitActive = u.inhibitActive := by
    intro u b x
    have h : (if b then u.raise x else u).scan = u.scan ∧ (if b then u.raise x else u).saw = u.saw
        ∧ (if b then u.raise x else u).tables = u.tables ∧ (if b then u.raise x else u).field.inputs = u.field.inputs := by
      split <;> simp
    unfold State.headDown State.moduleOffline State.activeModules State.inhibitActive State.inputActive
    rw [h.1, h.2.1, h.2.2.1, h.2.2.2]
    exact ⟨rfl, rfl, rfl⟩
  unfold State.raiseLevels
  dsimp only
  obtain ⟨f1, p1⟩ := step s s.headDown .headDown
  obtain ⟨k1, k1', k1''⟩ := hkeep s s.headDown .headDown
  generalize (if s.headDown then s.raise .headDown else s) = u at *
  obtain ⟨f2, p2⟩ := step u u.moduleOffline .moduleOffline
  obtain ⟨k2, k2', k2''⟩ := hkeep u u.moduleOffline .moduleOffline
  generalize (if u.moduleOffline then u.raise .moduleOffline else u) = v at *
  obtain ⟨f3, p3⟩ := step v v.inhibitActive .inhibitActive
  obtain ⟨k3, k3', k3''⟩ := hkeep v v.inhibitActive .inhibitActive
  refine (State.levelsPending_iff _).mpr ⟨fun h => ?_, fun h => ?_, fun h => ?_⟩
  · rw [k3, k2, k1] at h
    exact f3.pending _ (f2.pending _ (p1 h))
  · rw [k3', k2'] at h
    exact f3.pending _ (p2 h)
  · rw [k3''] at h
    exact p3 h

/-- An emptied ring leaves every level cause as it was. -/
theorem State.LevelFrame.emptyRing (s : State) : s.LevelFrame s.emptyRing := by
  refine .of_eq (by simp) (by simp) (by simp) (by simp) fun x h => ?_
  unfold State.isPending
  rw [s.emptyRing_told.1]
  rcases s.lossTold_eq with e | e <;> rw [e]
  · exact h
  · exact (s.raise_isPending _).2 x h

theorem State.announceRestart_levels (s : State) : s.announceRestart.levelsPending := by
  have h := (State.LevelFrame.emptyRing _).levels s.restartBlocks.raiseLevels_levels
  rw [State.announceRestart]
  generalize s.restartBlocks.raiseLevels.emptyRing = u at h ⊢
  exact (State.LevelFrame.of_eq : u.LevelFrame u.outputsOff).levels h

theorem State.lossTold_port (s : State) :
    s.lossTold.ctl.replies = s.ctl.replies ∧ s.lossTold.ctl.alertMask = s.ctl.alertMask ∧ s.lossTold.ctl.rate = s.ctl.rate
      ∧ s.lossTold.ctl.inProcess = s.ctl.inProcess ∧ s.lossTold.ctl.reports.length ≤ max s.ctl.reports.length 64 := by
  rcases s.lossTold_eq with e | e <;> rw [e]
  · exact ⟨rfl, rfl, rfl, rfl, Nat.le_max_left ..⟩
  · obtain ⟨p1, p2, p3, p4, -, p6⟩ := s.raise_port .tallySaturated
    exact ⟨p1, p2, p3, p4, p6⟩

/-- What a restart leaves in each block. -/
theorem State.announceRestart_keeps (s : State) :
    s.announceRestart.tracker = { s.tracker.restart with ring := [] } ∧ s.announceRestart.scan = s.scan.restart s.tables.heads
      ∧ s.announceRestart.solver = { engine := none, abandoned := 0 } ∧ s.announceRestart.tables = s.tables
      ∧ s.announceRestart.store = s.store.restart ∧ s.announceRestart.consoles = s.consoles.map Console.restart
      ∧ s.announceRestart.saw = s.saw.restart ∧ s.announceRestart.lane = { s.lane with state := .idle, queue := [], discards := 0 }
      ∧ s.announceRestart.runs = { s.runs with records := s.runs.records.map (Run.emptied s.tracker.ring) }
      ∧ s.announceRestart.field = { s.field with outputs := Bank.fill 8 Output.off }
      ∧ s.announceRestart.links = s.links.map (fun r => { r with discarded := 0 })
      ∧ s.announceRestart.ctl = s.restartBlocks.raiseLevels.lossTold.ctl
      ∧ s.announceRestart.clock = s.clock ∧ s.announceRestart.freeCount = s.freeCount ∧ s.announceRestart.pending = s.pending := by
  obtain ⟨hk, hin, -⟩ := s.restartBlocks.raiseLevels_keeps
  obtain ⟨ek, et, ei, er⟩ := s.restartBlocks.raiseLevels.emptyRing_keeps
  have hc := s.restartBlocks.raiseLevels.emptyRing_told.1
  have hf : s.announceRestart = s.restartBlocks.raiseLevels.emptyRing.outputsOff := rfl
  generalize s.restartBlocks.raiseLevels.lossTold = w at hc
  rw [hf]
  clear hf
  have hring : s.restartBlocks.raiseLevels.tracker = s.tracker.restart := (congrArg State.tracker hk :)
  have hruns : s.restartBlocks.raiseLevels.runs = s.runs := (congrArg State.runs hk :)
  rw [hring] at et
  rw [hruns, hring] at er
  have hin' : s.restartBlocks.raiseLevels.field.inputs = s.field.inputs := hin
  generalize s.restartBlocks.raiseLevels.emptyRing = v at *
  generalize s.restartBlocks.raiseLevels = u at *
  have h : ∀ {α : Type} (f : State → α), (∀ x t r c d, f { x with tracker := t, runs := r, ctl := c, field := d } = f x) → f v = f u :=
    fun f hf => (hf _ _ _ _ _).symm.trans (congrArg f ek)
  have h' : ∀ {α : Type} (f : State → α), (∀ x c d, f { x with ctl := c, field := d } = f x) → f u = f s.restartBlocks :=
    fun f hf => (hf _ _ _).symm.trans (congrArg f hk)
  have hh : ∀ {α : Type} (f : State → α), (∀ x t r c d, f { x with tracker := t, runs := r, ctl := c, field := d } = f x) →
      (∀ x c d, f { x with ctl := c, field := d } = f x) → f v = f s.restartBlocks := fun f h1 h2 => (h f h1).trans (h' f h2)
  refine ⟨et, hh (·.scan) (fun _ _ _ _ _ => rfl) fun _ _ _ => rfl, hh (·.solver) (fun _ _ _ _ _ => rfl) fun _ _ _ => rfl,
    hh (·.tables) (fun _ _ _ _ _ => rfl) fun _ _ _ => rfl, hh (·.store) (fun _ _ _ _ _ => rfl) fun _ _ _ => rfl,
    hh (·.consoles) (fun _ _ _ _ _ => rfl) fun _ _ _ => rfl, hh (·.saw) (fun _ _ _ _ _ => rfl) fun _ _ _ => rfl,
    hh (·.lane) (fun _ _ _ _ _ => rfl) fun _ _ _ => rfl, er, ?_, hh (·.links) (fun _ _ _ _ _ => rfl) fun _ _ _ => rfl, hc,
    hh (·.clock) (fun _ _ _ _ _ => rfl) fun _ _ _ => rfl, hh (·.freeCount) (fun _ _ _ _ _ => rfl) fun _ _ _ => rfl,
    hh (·.pending) (fun _ _ _ _ _ => rfl) fun _ _ _ => rfl⟩
  unfold State.outputsOff State.setOutputs
  dsimp only
  rw [ei.trans hin']

/-- The port's replies, mask, rate and request in process after a restart. -/
theorem State.announceRestart_port (s : State) :
    s.announceRestart.ctl.replies = [] ∧ s.announceRestart.ctl.inProcess = none ∧ s.announceRestart.ctl.alertMask = s.ctl.alertMask
      ∧ s.announceRestart.ctl.rate = s.ctl.rate ∧ s.announceRestart.ctl.reports.length ≤ 64 := by
  obtain ⟨-, -, -, -, -, -, -, -, -, -, -, hc, -⟩ := s.announceRestart_keeps
  obtain ⟨-, -, r1, r2, r3, r4, -, r6⟩ := s.restartBlocks.raiseLevels_keeps
  obtain ⟨p1, p2, p3, p4, p5⟩ := s.restartBlocks.raiseLevels.lossTold_port
  rw [hc]
  refine ⟨p1.trans r1, p4.trans r4, p2.trans r2, p3.trans r3, p5.trans ?_⟩
  have : s.restartBlocks.ctl.reports.length = 0 := rfl
  omega

theorem State.Inv.announceRestart (h : s.Inv) : s.announceRestart.Inv := by
  obtain ⟨ht, -, hsol, htab, hst, hcon, hsaw, hlane, hruns, -⟩ := s.announceRestart_keeps
  obtain ⟨hrep, hin, -, -, hreports⟩ := s.announceRestart_port
  generalize s.announceRestart = t at *
  have hring : t.tracker.ring = [] := by rw [ht]
  have hgeo : t.geo = s.geo := by
    unfold State.geo
    rw [htab]
  exact
    { memory := by
        unfold State.memoryKept
        rw [hst]
        exact memWf_stopSave h.memory
      geometry := by
        unfold State.geometryKept
        rw [hgeo, htab]
        exact h.geometry
      pos := by
        unfold State.posKept
        rw [hgeo, ht]
        exact Nat.lt_of_le_of_lt (Nat.zero_le _) h.pos
      ring := by
        unfold State.ringKept
        rw [ht]
        exact ⟨List.Pairwise.nil, fun x hx => absurd hx List.not_mem_nil, rfl, Nat.zero_lt_succ _⟩
      slots := by
        unfold State.slotsKept
        rw [hring, hsol]
        exact ⟨fun x hx => absurd hx List.not_mem_nil, fun j hj => absurd hj (Option.not_mem_none j)⟩
      exchange := by
        unfold State.exchangeKept
        rw [hsaw]
        exact fun ex hex => absurd hex (Option.not_mem_none ex)
      claims := fun c => by
        rw [State.claims_length, hring]
        exact Nat.zero_le _
      queues := by
        refine ⟨hreports, by rw [hrep]; exact Nat.zero_le _, fun c => ?_, by rw [hlane]; exact Nat.zero_le _, by
          rw [hlane]
          exact fun q hq => absurd hq List.not_mem_nil⟩
        rw [hcon, Bank.get_map]
        exact ⟨Nat.zero_le _, Nat.zero_le _⟩
      runs := h.runs.emptied hring hruns
      request := by
        have hw : t.heldWrite = none := by
          unfold State.heldWrite
          rw [hin]
        unfold State.requestKept
        rw [hw, hst]
        exact ⟨nofun, nofun⟩ }

/-! ## Power-on and reset -/

/-- The one run after power-on. -/
theorem State.runsKept_of_reset (hr : t.runs = State.reset.runs) (hring : t.tracker.ring = []) : t.runsKept := by
  have hopen : ∀ q, t.openSlots q = 0 := fun q => by
    unfold State.openSlots
    rw [hring]
    rfl
  have hrec : t.runs.records = [{ seq := 1, product := 0, state := .both, saturated := false, tally := Tally.zero }] := by
    rw [hr]
    rfl
  refine t.runsKept_iff.mpr ⟨⟨?_, fun r hm => ?_, ?_, ?_, ?_, ?_, ?_⟩, fun r hm => ?_, fun x hx => ?_⟩
  · rw [hrec]
    exact List.pairwise_singleton _ _
  · rw [hrec, List.mem_singleton] at hm
    subst hm
    rw [hr]
    refine ⟨Nat.le_refl 1, Nat.le_refl 1, fun c => ?_⟩
    show Tally.zero.get c ≤ _ ∧ (_ → Tally.zero.get c < _)
    rw [Tally.get_zero]
    exact ⟨Nat.zero_le _, fun _ => by decide⟩
  · rw [hr]
    decide
  · rw [hrec]
    decide
  · rw [hrec]
    rfl
  · rw [hrec]
    rfl
  · unfold State.boardSeq State.logSeq State.boardRun State.logRun
    rw [hrec]
    exact Nat.le_refl 1
  · rw [hrec, List.mem_singleton] at hm
    subst hm
    exact ⟨nofun, nofun⟩
  · rw [hring] at hx
    cases hx

theorem Geometry.default_kept : Tables.default.geometry.valid = true ∧ Tables.default.sawBus.modules = Tables.default.geometry.modules :=
  ⟨by decide, by decide⟩

/-- A state with the blocks of power-on keeps the invariant. -/
theorem State.Inv.of_reset (hm : t.memoryKept) (htab : t.tables = State.reset.tables) (hsol : t.solver = State.reset.solver)
    (htr : (t.tracker.pos, t.tracker.ring, t.tracker.nextTag) = (0, [], 0)) (hsaw : t.saw = State.reset.saw)
    (hcon : t.consoles = State.reset.consoles) (hq : t.lane.queue = [])
    (hc : (t.ctl.inProcess, t.ctl.replies, t.ctl.reports) = (State.reset.ctl.inProcess, State.reset.ctl.replies, State.reset.ctl.reports))
    (ha : t.store.activity = .loading .startUp) (hr : t.runs = State.reset.runs) : t.Inv := by
  obtain ⟨hpos, hring, hnext⟩ : t.tracker.pos = 0 ∧ t.tracker.ring = [] ∧ t.tracker.nextTag = 0 := by simpa using htr
  obtain ⟨hin, hrep, hreports⟩ : t.ctl.inProcess = none ∧ t.ctl.replies = []
      ∧ t.ctl.reports = [{ kind := 0xE3, tag := 0, payload := [5, 0, 0x20] }] := by simpa [State.reset] using hc
  obtain ⟨hv, hmod⟩ := Geometry.default_kept
  have hgeo : t.geo = Tables.default.geometry := by
    unfold State.geo
    rw [htab]
    rfl
  exact
    { memory := hm
      geometry := by
        unfold State.geometryKept
        rw [hgeo, htab]
        exact ⟨hv, hmod⟩
      pos := by
        unfold State.posKept
        rw [hgeo, hpos]
        decide
      ring := by
        unfold State.ringKept
        rw [hring, hnext]
        exact ⟨List.Pairwise.nil, fun x hx => absurd hx List.not_mem_nil, rfl, by decide⟩
      slots := by
        unfold State.slotsKept
        rw [hring, hsol]
        exact ⟨fun x hx => absurd hx List.not_mem_nil, fun j hj => absurd hj (Option.not_mem_none j)⟩
      exchange := by
        unfold State.exchangeKept
        rw [hsaw]
        exact fun ex hex => absurd hex (Option.not_mem_none ex)
      claims := fun c => by
        rw [State.claims_length, hring]
        exact Nat.zero_le _
      queues := by
        refine ⟨by rw [hreports]; decide, by rw [hrep]; exact Nat.zero_le _, fun c => ?_, by rw [hq]; exact Nat.zero_le _, by
          rw [hq]
          exact fun q hq => absurd hq List.not_mem_nil⟩
        rw [hcon, show State.reset.consoles.get c = _ from Bank.get_fill _ c]
        exact ⟨Nat.zero_le _, Nat.zero_le _⟩
      runs := State.runsKept_of_reset hr hring
      request := by
        have hw : t.heldWrite = none := by
          unfold State.heldWrite
          rw [hin]
        unfold State.requestKept
        rw [hw, ha]
        exact ⟨nofun, nofun⟩ }

theorem State.reset_inv : State.reset.Inv := State.Inv.of_reset rfl rfl rfl rfl rfl rfl rfl rfl rfl rfl

theorem State.Inv.powerOn (h : s.memoryKept) (a b : Bool) (p : Byte) : (s.powerOn a b p).Inv :=
  State.Inv.of_reset (memWf_memoryAtPowerLoss h) rfl rfl rfl rfl rfl rfl rfl rfl rfl

/-- The level causes of a state with the heads, modules, tables and causes of power-on and no input ACTIVE. -/
theorem State.levelsPending_of_reset (hh : t.scan.heads = State.reset.scan.heads) (hc : t.ctl.pendingCauses = State.reset.ctl.pendingCauses)
    (hi : ∀ i : Fin 8, (t.field.inputs.get i).filtered = false) : t.levelsPending := by
  refine t.levelsPending_iff.mpr ⟨fun h => ?_, fun _ => ?_, fun h => ?_⟩
  · obtain ⟨i, hi⟩ := t.headDown_iff.mp h
    rw [hh, show State.reset.scan.heads = Bank.fill 4 { status := .up, misses := 0 } from rfl, Bank.get_fill] at hi
    cases hi
  · unfold State.isPending
    rw [hc]
    rfl
  · obtain ⟨i, -, hf⟩ := t.inhibitActive_iff.mp h
    rw [hi i] at hf
    cases hf

theorem State.powerOn_levels (s : State) (a b : Bool) (p : Byte) : (s.powerOn a b p).levelsPending := by
  refine State.levelsPending_of_reset rfl rfl fun i => ?_
  exact congrArg Input.filtered (Bank.get_ofFn _ i)

/-! ## Half a millisecond -/

theorem State.Inv.tick (h : s.Inv) : s.tick.Inv :=
  { memory := h.memory, geometry := h.geometry, pos := h.pos, ring := h.ring, slots := h.slots, exchange := h.exchange,
    claims := h.claims, queues := h.queues, runs := h.runs,
    request := ⟨h.request.1, fun ft ha => by
      have ha' : s.store.activity.runDown = .loading (.request ft) := ha
      refine h.request.2 ft ?_
      unfold Activity.runDown at ha'
      split at ha'
      · cases ha'
      · exact ha'⟩ }

theorem State.tick_levels (h : s.levelsPending) : s.tick.levelsPending := by
  obtain ⟨h1, h2, h3⟩ := s.levelsPending_iff.mp h
  refine s.tick.levelsPending_iff.mpr ⟨h1, h2, fun hi => h3 ?_⟩
  obtain ⟨i, hf, ha⟩ := s.tick.inhibitActive_iff.mp hi
  refine s.inhibitActive_iff.mpr ⟨i, hf, ?_⟩
  have ha' : ((s.field.inputs.map fun i => { i with timer := runDown i.timer }).get i).filtered = true := ha
  rwa [Bank.get_map] at ha'

/-! ## Every step -/

/-- Every command keeps the invariant. -/
theorem State.Inv.after (h : s.Inv) (c : Instr) : (s.after c).Inv := by
  by_cases hp : ∃ a b p, c = .powerOn a b p
  · obtain ⟨a, b, p, rfl⟩ := hp
    exact .powerOn h.memory a b p
  · by_cases hr : c = .restartAnnounced
    · subst hr
      rw [State.after_restartAnnounced]
      split
      · exact h.announceRestart
      · exact h
    · obtain ⟨n, -, hc⟩ := State.ChainLE.of_after (I := True) s (fun _ => (s.inv_iff.mp h).1)
        (fun a b p e => hp ⟨a, b, p, e⟩) hr
      exact hc.inv trivial h

theorem State.Inv.setPending (h : s.Inv) (l : List Instr) : ({ s with pending := l } : State).Inv :=
  { memory := h.memory, geometry := h.geometry, pos := h.pos, ring := h.ring, slots := h.slots, exchange := h.exchange,
    claims := h.claims, queues := h.queues, runs := h.runs, request := h.request }

theorem State.Inv.step (h : s.Inv) (hs : Sys2Proof.Machine.step s = .next t) : t.Inv := by
  rcases step_cases hs with ⟨c, rest, -, rfl⟩ | ⟨-, rfl⟩
  · exact (h.setPending rest).after c
  · exact h.tick

/-- A chain of events keeps every level cause pending whose condition holds. -/
theorem State.Chain.levels {n : Nat} (h : State.Chain False n s t) (hs : s.levelsPending) : t.levelsPending := by
  induction h with
  | refl => exact hs
  | calm _ hc ih => exact hc.levels (ih hs)
  | logEntry fault m reject _ ih => exact (State.LevelFrame.enter _ _ _).levels (ih hs)
  | openRun p _ _ _ ih => exact (State.LevelFrame.of_eq (s := _)).levels (ih hs)
  | cutOver _ _ ih => exact (State.LevelFrame.of_eq (s := _)).levels (ih hs)
  | releaseRun seq r _ _ _ ih => exact (State.LevelFrame.of_eq (s := _)).levels (ih hs)
  | @clearLine _ _ u _ ih =>
    obtain ⟨-, -, -, hsaw, htab, -, hscan, hin, -⟩ := u.clearLine_keeps
    refine State.LevelFrame.levels (s := u) (.of_eq (by rw [hscan]) (by rw [hsaw]) htab hin fun x hx => ?_) (ih hs)
    unfold State.isPending
    rw [u.clearLine_ctl]
    split
    · refine (State.raise_isPending _ _).2 x ?_
      unfold State.isPending
      rwa [State.beforeClear_ctl]
    · exact hx
  | advance f synth pos last _ _ _ ih =>
    refine State.LevelFrame.levels ?_ (ih hs)
    exact .trans (.of_eq (t := State.setTracker _ f)) (.trans (.advance _ synth) .of_eq)
  | tables new _ _ _ hl ih _ => exact hl (ih hs)

/-- Every command keeps every level cause pending whose condition holds. -/
theorem State.after_levelsPending (h : s.levelsPending) (c : Instr) : (s.after c).levelsPending := by
  by_cases hp : ∃ a b p, c = .powerOn a b p
  · obtain ⟨a, b, p, rfl⟩ := hp
    exact s.powerOn_levels a b p
  · by_cases hr : c = .restartAnnounced
    · subst hr
      rw [State.after_restartAnnounced]
      split
      · exact s.announceRestart_levels
      · exact h
    · obtain ⟨n, -, hc⟩ := State.ChainLE.of_after (I := False) s False.elim (fun a b p e => hp ⟨a, b, p, e⟩) hr
      exact hc.levels h

end

/-! ## The statements -/

/-- Settles O50: every event of a chain keeps the whole invariant, of which this is a part. -/
theorem stepKeepsGeometryPosAndRequest : Obligations.StepKeepsGeometryPosAndRequest := fun _ _ h hs =>
  ⟨(h.step hs).geometry, (h.step hs).pos, (h.step hs).request⟩

/-- Settles O51: the ring's part of the invariant; offsets fall from 30 at the most, so 31 slots are the most. -/
theorem stepKeepsTheRing : Obligations.StepKeepsTheRing := fun _ _ h hs => ⟨(h.step hs).ring, (h.step hs).ring.length_le⟩

/-- Settles O52: the slots' part of the invariant. -/
theorem stepKeepsSlotsAndClaims : Obligations.StepKeepsSlotsAndClaims := fun _ _ h hs =>
  ⟨(h.step hs).slots, (h.step hs).claims, (h.step hs).exchange⟩

/-- Settles O53: the queues' part of the invariant. -/
theorem stepKeepsTheQueueBounds : Obligations.StepKeepsTheQueueBounds := fun _ _ h hs => (h.step hs).queues

/-- Settles O54: the run table's part of the invariant. -/
theorem stepKeepsTheRunTable : Obligations.StepKeepsTheRunTable := fun _ _ h hs => (h.step hs).runs

/-- Settles O57: of a chain's events each that brings a level condition about raises its cause, and CLEAR CAUSES alone clears one. -/
theorem levelCausesStayPending : Obligations.LevelCausesStayPending := by
  intro s t h hs
  rcases step_cases hs with ⟨c, rest, -, rfl⟩ | ⟨-, rfl⟩
  · exact State.after_levelsPending (s := { s with pending := rest }) h c
  · exact State.tick_levels h

/-- Settles O48: the blocks of power-on, one by one; the one run has counted nothing and the ring is empty. -/
theorem invariantsHoldAtReset : Obligations.InvariantsHoldAtReset := by
  refine ⟨State.reset_inv, State.levelsPending_of_reset rfl rfl fun i => ?_, fun r hr => ?_, fun o => ?_⟩
  · exact congrArg Input.filtered (Bank.get_fill _ i)
  · rw [show State.reset.runs.records = [{ seq := 1, product := 0, state := .both, saturated := false, tally := Tally.zero }] from rfl,
      List.mem_singleton] at hr
    subst hr
    exact ⟨fun _ => by decide, fun _ => ⟨by decide, by decide⟩⟩
  · rw [show State.reset.field.outputs.get o = _ from Bank.get_fill _ o]
    exact ⟨rfl, rfl⟩

end Sys2Proof.Machine


/-! PROOF. A relation between the states before and after each event of a chain holds between the first and the last; the growth of
the tallies is the first such relation (O58). -/

namespace Sys2Proof.Machine

-- One proof after the other: together they would ask for more threads than the check has memory for.
set_option Elab.async false

section
variable {s t u : State}

/-! ## Relations along a chain -/

/-- A relation, with a number of advances, that every kind of event is a case of, in a state that meets the invariant. -/
structure State.EventRel (R : Nat → State → State → Prop) : Prop where
  refl : ∀ s, R 0 s s
  trans : ∀ {n k s u t}, R n s u → R k u t → R (n + k) s t
  calm : ∀ {s t}, s.InvButPos → s.Calm True t → R 0 s t
  logEntry : ∀ {s : State}, s.InvButPos → ∀ fault m reject, R 0 s (s.enter s.logSeq (logEntry fault m reject))
  openRun : ∀ {s : State}, s.InvButPos → ∀ p, s.cutoverPending = false → s.runs.hasRoom = true →
    R 0 s { s with runs := s.runs.openRun p }
  cutOver : ∀ {s : State}, s.InvButPos → R 0 s (s.setRuns (·.map (Run.cutOver (s.drainedState s.boardSeq))))
  releaseRun : ∀ {s : State}, s.InvButPos → ∀ seq r, s.run? seq = some r → r.state = .closed → R 0 s (s.setRuns (·.filter (·.seq != seq)))
  clearLine : ∀ {s : State}, s.InvButPos → R 0 s s.clearLine
  advance : ∀ {s : State}, s.InvButPos → ∀ synth, R 1 s (s.advance synth)
  tracker : ∀ {s : State}, s.InvButPos → ∀ f : Tracker → Tracker,
    ((f s.tracker).ring, (f s.tracker).nextTag) = (s.tracker.ring, s.tracker.nextTag) → R 0 s (s.setTracker f)
  tables : ∀ {s : State}, s.InvButPos → ∀ new : Tables, new.geometry.valid = true ∧ new.sawBus.modules = new.geometry.modules →
    R 0 s (s.beforeInputs new)

/-- Such a relation holds between the ends of a chain. -/
theorem State.EventRel.chain {R : Nat → State → State → Prop} (hR : State.EventRel R) {n : Nat} (h : State.Chain True n s t)
    (hs : s.InvButPos) : R n s t ∧ t.InvButPos := by
  have zero : ∀ {n : Nat} {u t : State}, R n s u → R 0 u t → R n s t := fun h h' => hR.trans h h'
  induction h with
  | refl s => exact ⟨hR.refl s, hs⟩
  | calm _ hc ih =>
    obtain ⟨kr, ki⟩ := ih hs zero
    exact ⟨zero kr (hR.calm ki hc), hc.inv trivial ki⟩
  | logEntry fault m reject _ ih =>
    obtain ⟨kr, ki⟩ := ih hs zero
    exact ⟨zero kr (hR.logEntry ki _ _ _), ki.enter _ _⟩
  | openRun p _ h1 h2 ih =>
    obtain ⟨kr, ki⟩ := ih hs zero
    exact ⟨zero kr (hR.openRun ki p h1 h2), ki.openRun p h1 h2⟩
  | cutOver _ _ ih =>
    obtain ⟨kr, ki⟩ := ih hs zero
    exact ⟨zero kr (hR.cutOver ki), ki.setRuns ki.runs.cutOver⟩
  | releaseRun seq r _ h1 h2 ih =>
    obtain ⟨kr, ki⟩ := ih hs zero
    exact ⟨zero kr (hR.releaseRun ki seq r h1 h2), ki.setRuns (ki.runs.releaseRun h1 h2)⟩
  | clearLine _ ih =>
    obtain ⟨kr, ki⟩ := ih hs zero
    exact ⟨zero kr (hR.clearLine ki), ki.clearLine⟩
  | advance f synth pos last _ h1 _ ih =>
    obtain ⟨kr, ki⟩ := ih hs zero
    have kt := ki.setTracker h1
    have ka := kt.advance synth
    refine ⟨zero (hR.trans (zero kr (hR.tracker ki f h1)) (hR.advance kt synth)) (hR.tracker ka _ rfl), ?_⟩
    exact ka.setTracker (f := fun t => { t with pos := pos, lastAdvance := last }) rfl
  | tables new _ h1 _ _ ih ihk =>
    obtain ⟨kr, ki⟩ := ih hs zero
    have hg := h1 trivial ki
    obtain ⟨kr', ki'⟩ := ihk (ki.beforeInputs hg) fun h h' => hR.trans h h'
    exact ⟨hR.trans (zero kr (hR.tables ki new hg)) kr', ki'⟩

/-- A relation that every announcement of a slot at a station is a case of holds across the whole round of them. -/
theorem State.Moving.announced_rel {R : State → State → Prop} (refl : ∀ s, R s s) (trans : ∀ {s u t}, R s u → R u t → R s t)
    (step : ∀ {u : State} (tag : Nat) (st : Station), u.Moving → u.geo.valid = true → u.inOrder tag st → R u (u.arriveAt tag st))
    (h : s.Moving) (hg : s.geo.valid = true) : R s s.announced := by
  have hall : ∀ {u : State} (tag : Nat), u.Moving → u.geo.valid = true → R u (u.arriveAll tag) := by
    intro u tag h hg
    obtain ⟨-, h2, h3, h4, -⟩ := Geometry.valid_stations hg
    have sgSD : u.geo.station .sd = u.geo.sd := rfl
    have sgGW : u.geo.station .gw = u.geo.gw := rfl
    have sgCM : u.geo.station .cm = u.geo.cm := rfl
    have sgTR : u.geo.station .tr = u.geo.cm + 1 := rfl
    have sgEX : u.geo.station .ex = u.geo.ex := rfl
    have hval : ∀ {v : State} (st : Station), v.geo.valid = true → (v.arriveAt tag st).geo.valid = true := fun st hv => by
      rwa [State.arriveAt_geo]
    have h1 := h.arriveAt_sd tag
    have iGW := h.apart.inOrder_arriveAt (tag := tag) (st := .sd) (st' := .gw) nofun rfl (by omega)
    have hgw := h1.arriveAt_gw iGW
    have iCM := h1.apart.inOrder_arriveAt (tag := tag) (st := .gw) (st' := .cm) nofun rfl (by rw [State.arriveAt_geo]; omega)
    have hcm := hgw.arriveAt_cm iCM
    have iTR := hgw.apart.inOrder_arriveAt (tag := tag) (st := .cm) (st' := .tr) nofun rfl
      (by rw [State.arriveAt_geo, State.arriveAt_geo]; omega)
    have htr := hcm.arriveAt_tr iTR
    have iEX := hcm.apart.inOrder_arriveAt (tag := tag) (st := .tr) (st' := .ex) nofun rfl
      (by rw [State.arriveAt_geo, State.arriveAt_geo, State.arriveAt_geo]; omega)
    have v1 := hval .sd hg
    have v2 := hval .gw v1
    have v3 := hval .cm v2
    exact trans (trans (trans (trans (step tag .sd h hg fun _ _ _ _ _ => nofun) (step tag .gw h1 v1 iGW)) (step tag .cm hgw v2 iCM))
      (step tag .tr hcm v3 iTR)) (step tag .ex htr (hval .tr v3) iEX)
  unfold State.announced
  induction s.tracker.ring.map (·.tag) generalizing s with
  | nil => exact refl s
  | cons tag tags ih => exact trans (hall tag h hg) (ih (h.arriveAll hg tag) ((s.arriveAll_geo tag).symm ▸ hg))

/-! ## The tallies grow (R146) -/

/-- A run later on: no counter lower, its saturated mark not cleared, its product the same. -/
structure Run.Grown (r r' : Run) : Prop where
  counters : ∀ c : Counter, r.tally.get c ≤ r'.tally.get c
  saturated : r.saturated = true → r'.saturated = true
  product : r'.product = r.product

namespace Run.Grown
variable {r q p : Run}

theorem of_eq (ht : q.tally = r.tally := by rfl) (hs : q.saturated = r.saturated := by rfl) (hp : q.product = r.product := by rfl) :
    r.Grown q := ⟨fun _ => by rw [ht], fun h => hs.trans h, hp⟩

theorem trans (h : r.Grown q) (k : q.Grown p) : r.Grown p :=
  ⟨fun c => (h.counters c).trans (k.counters c), fun hs => k.saturated (h.saturated hs), k.product.trans h.product⟩

theorem countAll (h : r.countersKept) (l : List (Counter × Nat)) : r.Grown (r.countAll l) :=
  ⟨Run.le_get_countAll h l, (r.countAll_keeps l).2.2.2, Run.countAll_product l r⟩

end Run.Grown

/-- The runs later on: each that was there before has grown, and a run opened since has a later number. -/
def State.RunsGrow (s t : State) : Prop :=
  (∀ r ∈ s.runs.records, r.countersKept) → (∀ r ∈ t.runs.records, r.countersKept) ∧ s.runs.lastIssued ≤ t.runs.lastIssued
    ∧ ∀ r' ∈ t.runs.records, r'.seq ≤ s.runs.lastIssued → ∃ r ∈ s.runs.records, r.seq = r'.seq ∧ r.Grown r'

namespace State.RunsGrow

theorem trans (h : s.RunsGrow u) (k : u.RunsGrow t) : s.RunsGrow t := fun hs => by
  obtain ⟨hu, hl, hr⟩ := h hs
  obtain ⟨ht, kl, kr⟩ := k hu
  refine ⟨ht, hl.trans kl, fun r' hr' hle => ?_⟩
  obtain ⟨q, hq, e, g⟩ := kr r' hr' (hle.trans hl)
  obtain ⟨r, hr, e', g'⟩ := hr q hq (e ▸ hle)
  exact ⟨r, hr, e'.trans e, g'.trans g⟩

/-- Runs of before, each changed or not. -/
theorem of_mem (hl : t.runs.lastIssued = s.runs.lastIssued)
    (h : ∀ r' ∈ t.runs.records, ∃ r ∈ s.runs.records, r.seq = r'.seq ∧ (r.countersKept → r'.countersKept ∧ r.Grown r')) :
    s.RunsGrow t := fun hs => by
  refine ⟨fun r' hr' => ?_, Nat.le_of_eq hl.symm, fun r' hr' _ => ?_⟩
  · obtain ⟨r, hr, -, hc⟩ := h r' hr'
    exact (hc (hs r hr)).1
  · obtain ⟨r, hr, e, hc⟩ := h r' hr'
    exact ⟨r, hr, e, (hc (hs r hr)).2⟩

theorem of_runs (h : t.runs = s.runs) : s.RunsGrow t :=
  of_mem (by rw [h]) fun r hr => ⟨r, h ▸ hr, rfl, fun hc => ⟨hc, .of_eq⟩⟩

theorem of_map {f : Run → Run} (hl : t.runs.lastIssued = s.runs.lastIssued) (hr : t.runs.records = s.runs.records.map f)
    (hf : ∀ r, (f r).seq = r.seq ∧ (r.countersKept → (f r).countersKept ∧ r.Grown (f r))) : s.RunsGrow t :=
  of_mem hl fun r' hr' => by
    rw [hr] at hr'
    obtain ⟨r, hm, rfl⟩ := List.mem_map.mp hr'
    exact ⟨r, hm, (hf r).1.symm, (hf r).2⟩

theorem countersKept_of_eq {r q : Run} (ht : q.tally = r.tally) (hs : q.saturated = r.saturated) (h : r.countersKept) :
    q.countersKept := by
  unfold Run.countersKept
  rwa [ht, hs]

theorem enter (s : State) (seq : Nat) (l : List (Counter × Nat)) : s.RunsGrow (s.enter seq l) :=
  of_map (f := fun r => if r.seq == seq then r.countAll l else r) (by simp) (by rw [State.enter_runs]; rfl) fun r => by
    split
    · exact ⟨Run.countAll_seq l r, fun h => ⟨Run.countersKept_countAll h l, .countAll h l⟩⟩
    · exact ⟨rfl, fun h => ⟨h, .of_eq⟩⟩

theorem closeDrained (s : State) : s.RunsGrow s.closeDrained :=
  of_map (f := Run.closeIfDrained s.tracker.ring) (by simp) (by rw [State.closeDrained_runs]) fun r => by
    obtain ⟨h1, h2, h3⟩ := r.closeIfDrained_tally s.tracker.ring
    exact ⟨(closeIfDrained_keepsCurrent _).seq r, fun h => ⟨countersKept_of_eq h1 h2 h, .of_eq h1 h2 h3⟩⟩

/-- The runs of a ring that is emptied. -/
theorem emptied {ring : List Slot} (h : t.runs = { s.runs with records := s.runs.records.map (Run.emptied ring) }) : s.RunsGrow t :=
  of_map (f := Run.emptied ring) (by rw [h]) (by rw [h]) fun r => by
    obtain ⟨h1, h2, h3⟩ := (r.lose (boardsOf ring r.seq)).closeIfDrained_tally []
    refine ⟨((closeIfDrained_keepsCurrent []).seq _).trans (Run.lose_seq _ r), fun hc => ⟨?_, ?_⟩⟩
    · exact countersKept_of_eq h1 h2 (Run.lose_countersKept _ hc)
    · exact (Run.Grown.countAll hc _).trans (.of_eq h1 h2 h3)

theorem openRun (s : State) (p : Fin 8) : s.RunsGrow { s with runs := s.runs.openRun p } := fun hs => by
  refine ⟨fun r hr => ?_, Nat.le_succ _, fun r hr hle => ?_⟩
  · rcases List.mem_append.mp hr with hr | hr
    · obtain ⟨q, hq, rfl⟩ := List.mem_map.mp hr
      obtain ⟨-, h1, h2, -⟩ := q.yieldLogs_keeps
      exact countersKept_of_eq h1 h2 (hs q hq)
    · rw [List.mem_singleton.mp hr]
      exact Run.opened_countersKept _ _
  · rcases List.mem_append.mp hr with hr | hr
    · obtain ⟨q, hq, rfl⟩ := List.mem_map.mp hr
      obtain ⟨h0, h1, h2, h3⟩ := q.yieldLogs_keeps
      exact ⟨q, hq, h0.symm, .of_eq h1 h2 h3⟩
    · rw [List.mem_singleton.mp hr] at hle
      exact absurd hle (Nat.not_succ_le_self _)

theorem exited (s : State) (x : Slot) : s.RunsGrow (s.exited x) := by
  unfold State.exited State.exitPiece
  split
  · split
    · next c _ => exact (enter s x.run (exitEntry (s.productOf x.run) s.geo.pitch x c)).trans (of_runs rfl)
    · exact of_runs rfl
  · exact of_runs rfl

theorem arriveAt (s : State) (tag : Nat) (st : Station) : s.RunsGrow (s.arriveAt tag st) := by
  unfold State.arriveAt
  split
  · exact of_runs rfl
  · next x _ =>
    split
    · refine .trans (u := s.updateSlot tag fun y => { y with passed := y.passed ++ [st] }) (of_runs rfl) ?_
      by_cases hst : st = .ex
      · subst hst
        show RunsGrow _ (State.arriveEX _ _)
        rw [State.arriveEX_eq]
        exact (exited _ _).trans (.trans (u := State.removeSlot _ _) (of_runs rfl) (closeDrained _))
      · exact of_runs (State.SameKeys.announce _ hst _).runs
    · exact of_runs rfl

theorem foldl {α : Type} {f : State → α → State} (hf : ∀ (s : State) a, s.RunsGrow (f s a)) (l : List α) (s : State) :
    s.RunsGrow (l.foldl f s) := by
  induction l generalizing s with
  | nil => exact of_runs rfl
  | cons a l ih => exact (hf s a).trans (ih _)

theorem advance (s : State) (synth : Bool) : s.RunsGrow (s.advance synth) := by
  have hmoved : s.RunsGrow s.movedOn := by
    unfold State.movedOn State.fixKind
    dsimp only
    split
    · split
      · exact .trans (u := s.moveRing.updateSlot _ Slot.fixKind) (of_runs rfl) (enter _ _ _)
      · exact .trans (u := s.moveRing.updateSlot _ Slot.fixKind) (of_runs rfl) (closeDrained _)
    · exact of_runs rfl
  exact (hmoved.trans (foldl (fun s tag => foldl (fun s st => arriveAt s tag st) _ s) _ _)).trans (of_runs rfl)

/-- Every event leaves the runs grown. -/
theorem eventRel : State.EventRel fun _ => State.RunsGrow where
  refl _ := of_runs rfl
  trans h k := h.trans k
  calm _ h := of_runs h.runs
  logEntry _ _ _ _ := enter _ _ _
  openRun _ p _ _ := openRun _ p
  cutOver {s} _ := of_map (f := Run.cutOver (s.drainedState s.boardSeq)) rfl rfl fun r => by
    obtain ⟨h0, h1, h2, h3⟩ := r.cutOver_keeps (s.drainedState s.boardSeq)
    exact ⟨h0, fun h => ⟨countersKept_of_eq h1 h2 h, .of_eq h1 h2 h3⟩⟩
  releaseRun _ _ _ _ _ := of_mem rfl fun r hr => ⟨r, (List.mem_filter.mp hr).1, rfl, fun h => ⟨h, .of_eq⟩⟩
  clearLine {s} _ := by
    obtain ⟨-, -, -, -, -, -, -, -, -, -, hruns, -⟩ := s.clearLine_keeps
    exact emptied hruns
  advance _ synth := advance _ synth
  tracker _ _ _ := of_runs rfl
  tables {s} _ new _ := of_runs (by simp [State.beforeInputs, State.tablesSet, State.outputsRewritten])

end State.RunsGrow

/-- Settles O58: no event lowers a counter, and a run is opened only with a number above all before. -/
theorem talliesNeverDecrease : Obligations.TalliesNeverDecrease := by
  intro c s t h hp he r hr r' hr' hseq
  rw [← State.after_of_exec he] at hr'
  obtain ⟨hb, -⟩ := s.inv_iff.mp h
  obtain ⟨htab, -⟩ := s.runsKept_iff.mp h.runs
  have hgrow : s.RunsGrow (s.after c) := by
    by_cases hc : c = .restartAnnounced
    · subst hc
      rw [State.after_restartAnnounced]
      split
      · obtain ⟨-, -, -, -, -, -, -, -, hruns, -⟩ := s.announceRestart_keeps
        exact .emptied hruns
      · exact .of_runs rfl
    · obtain ⟨n, -, hn⟩ := State.ChainLE.of_after (I := True) s (fun _ => hb) hp hc
      exact (State.RunsGrow.eventRel.chain hn hb).1
  obtain ⟨-, -, hall⟩ := hgrow fun q hq => (htab.each q hq).2.2
  obtain ⟨q, hq, e, g⟩ := hall r' hr' (hseq ▸ (htab.each r hr).2.1)
  obtain rfl := htab.eq_of_seq hq hr (e.trans hseq)
  exact ⟨g.counters, g.saturated, g.product⟩

end

end Sys2Proof.Machine


/-! PROOF. The balances of the board and log side of every run (R140, R145; O55). -/

namespace Sys2Proof.Machine

-- One proof after the other: together they would ask for more threads than the check has memory for.
set_option Elab.async false

/-! ## One run -/

theorem Tally.keptPieces_eq (t : Tally) : t.keptPieces = ∑ g : Fin 8, ∑ n : Fin 15, t.get (.kept g n) := by
  unfold Tally.keptPieces
  rw [Bank.items_eq, List.map_ofFn, List.sum_ofFn]
  refine Finset.sum_congr rfl fun g _ => ?_
  rw [Function.comp, Bank.items_eq, List.sum_ofFn]
  rfl

theorem Tally.classes_eq (t : Tally) : t.classes.items.sum = ∑ c : Fin 8, t.get (.logClass c) := by
  rw [Bank.items_eq, List.sum_ofFn]
  rfl

/-- What a list of increases adds to the pieces kept, over all grades and lengths. -/
def gainKept (l : List (Counter × Nat)) : Nat := ∑ g : Fin 8, ∑ n : Fin 15, gain l (.kept g n)

/-- What it adds to the logs classed. -/
def gainClassed (l : List (Counter × Nat)) : Nat := ∑ c : Fin 8, gain l (.logClass c)

/-- The board-side balance of a run with so many BOARD slots in the ring (R140). -/
def Run.boardBalanced (r : Run) (boards : Nat) : Prop :=
  r.saturated = false → r.tally.scanned = r.tally.keptPieces + r.tally.scrapped + r.tally.lost + boards

theorem State.balanced_iff (s : State) (r : Run) : s.balanced r ↔ r.boardBalanced (s.boardSlots r.seq) := Iff.rfl

/-- A run that has counted nothing has no log to balance. -/
theorem Tally.zero_logs : Tally.zero.logsMeasured
      = Tally.zero.accepted + (Tally.zero.rejectedFault + Tally.zero.rejectedSed + Tally.zero.rejectedLength)
    ∧ Tally.zero.classes.items.sum + Tally.zero.faulted = Tally.zero.logsMeasured := by decide

theorem Run.boardBalanced_of_eq {r q : Run} (ht : q.tally = r.tally) (hs : q.saturated = r.saturated) {b : Nat}
    (h : r.boardBalanced b) : q.boardBalanced b := by
  unfold Run.boardBalanced
  rwa [ht, hs]

theorem Run.logBalanced_of_eq {r q : Run} (ht : q.tally = r.tally) (hs : q.saturated = r.saturated) (h : r.logBalanced) :
    q.logBalanced := by
  unfold Run.logBalanced
  rwa [ht, hs]

section
variable {r : Run} {l : List (Counter × Nat)}

/-- Increases that add to the pieces scanned what they add to kept, scrapped and lost ones and to the BOARD slots in the ring. -/
theorem Run.boardBalanced_countAll (hk : r.countersKept) {b b' : Nat} (h : r.boardBalanced b)
    (hg : gain l .scanned + b = gainKept l + gain l .scrapped + gain l .lost + b') : (r.countAll l).boardBalanced b' := by
  intro hs
  obtain ⟨hr, hget⟩ := Run.get_countAll_of_unsaturated hk hs
  have h0 := h hr
  have hkept : (r.countAll l).tally.keptPieces = r.tally.keptPieces + gainKept l := by
    rw [Tally.keptPieces_eq, Tally.keptPieces_eq, gainKept, ← Finset.sum_add_distrib]
    refine Finset.sum_congr rfl fun g _ => ?_
    rw [← Finset.sum_add_distrib]
    exact Finset.sum_congr rfl fun n _ => hget _
  have h1 : (r.countAll l).tally.scanned = r.tally.scanned + gain l .scanned := hget .scanned
  have h2 : (r.countAll l).tally.scrapped = r.tally.scrapped + gain l .scrapped := hget .scrapped
  have h3 : (r.countAll l).tally.lost = r.tally.lost + gain l .lost := hget .lost
  omega

/-- Increases that add to the logs measured what they add to accepted and rejected ones, and to classed and faulted ones. -/
theorem Run.logBalanced_countAll (hk : r.countersKept) (h : r.logBalanced)
    (hg : gain l .logsMeasured = gain l .accepted + (gain l (.rejected .fault) + gain l (.rejected .sed) + gain l (.rejected .length))
      ∧ gainClassed l + gain l .faulted = gain l .logsMeasured) : (r.countAll l).logBalanced := by
  intro hs
  obtain ⟨hr, hget⟩ := Run.get_countAll_of_unsaturated hk hs
  obtain ⟨h1, h2⟩ := h hr
  obtain ⟨g1, g2⟩ := hg
  have hcls : (r.countAll l).tally.classes.items.sum = r.tally.classes.items.sum + gainClassed l := by
    rw [Tally.classes_eq, Tally.classes_eq, gainClassed, ← Finset.sum_add_distrib]
    exact Finset.sum_congr rfl fun c _ => hget _
  have k1 : (r.countAll l).tally.logsMeasured = r.tally.logsMeasured + gain l .logsMeasured := hget .logsMeasured
  have k2 : (r.countAll l).tally.accepted = r.tally.accepted + gain l .accepted := hget .accepted
  have k3 : (r.countAll l).tally.rejectedFault = r.tally.rejectedFault + gain l (.rejected .fault) := hget (.rejected .fault)
  have k4 : (r.countAll l).tally.rejectedSed = r.tally.rejectedSed + gain l (.rejected .sed) := hget (.rejected .sed)
  have k5 : (r.countAll l).tally.rejectedLength = r.tally.rejectedLength + gain l (.rejected .length) := hget (.rejected .length)
  have k6 : (r.countAll l).tally.faulted = r.tally.faulted + gain l .faulted := hget .faulted
  constructor <;> omega

end

theorem gain_replicate (n : Nat) (d c : Counter) : gain (List.replicate n (d, 1)) c = if d = c then n else 0 := by
  induction n with
  | zero => simp
  | succ n ih =>
    rw [List.replicate_succ, gain_cons, ih]
    split <;> omega

theorem gainKept_eq_zero {l : List (Counter × Nat)} (h : ∀ g n, gain l (.kept g n) = 0) : gainKept l = 0 := by simp [gainKept, h]

theorem gainClassed_eq_zero {l : List (Counter × Nat)} (h : ∀ c, gain l (.logClass c) = 0) : gainClassed l = 0 := by
  simp [gainClassed, h]

/-- A log's entry keeps the log-side balances (R145). -/
theorem logEntry_gains (fault : Option LogFault) (m : LogMeasures) (reject : Option RejectReason) :
    (gain (logEntry fault m reject) .logsMeasured = gain (logEntry fault m reject) .accepted
        + (gain (logEntry fault m reject) (.rejected .fault) + gain (logEntry fault m reject) (.rejected .sed)
          + gain (logEntry fault m reject) (.rejected .length))
      ∧ gainClassed (logEntry fault m reject) + gain (logEntry fault m reject) .faulted = gain (logEntry fault m reject) .logsMeasured)
      ∧ (gain (logEntry fault m reject) .scanned = 0 ∧ gainKept (logEntry fault m reject) = 0
        ∧ gain (logEntry fault m reject) .scrapped = 0 ∧ gain (logEntry fault m reject) .lost = 0) := by
  cases fault <;> rcases reject with _ | _ | _ | _ <;> simp [logEntry, gainKept, gainClassed]

/-- An exit's entry counts one piece kept or scrapped (R141). -/
theorem exitEntry_gains (p : Product) (pitch : Nat) (x : Slot) (c : CommitRecord) :
    gain (exitEntry p pitch x c) .scanned = 0
      ∧ gainKept (exitEntry p pitch x c) + gain (exitEntry p pitch x c) .scrapped + gain (exitEntry p pitch x c) .lost = 1
      ∧ (gain (exitEntry p pitch x c) .logsMeasured, gain (exitEntry p pitch x c) .accepted,
          gain (exitEntry p pitch x c) (.rejected .fault), gain (exitEntry p pitch x c) (.rejected .sed),
          gain (exitEntry p pitch x c) (.rejected .length), gain (exitEntry p pitch x c) .faulted) = (0, 0, 0, 0, 0, 0)
      ∧ gainClassed (exitEntry p pitch x c) = 0 := by
  have hkept : ∀ k : Keep, ∑ g : Fin 8, ∑ n : Fin 15, (if k.grade.index = g ∧ lengthIndex k.length = n then 1 else 0) = 1 := by
    intro k
    rw [Finset.sum_eq_single k.grade.index (fun g _ hg => ?_) (by simp)]
    · simp
    · simp [Ne.symm hg]
  cases hk : c.keep with
  | none => simp [exitEntry, hk, gainKept, gainClassed]
  | some k => simp [exitEntry, hk, gainKept, gainClassed, -Finset.sum_boole, hkept]

/-! ## BOARD slots in the ring -/

/-- A count after one slot of the ring has changed. -/
theorem countP_changeSlot (p : Slot → Bool) {l : List Slot} (hn : (l.map (·.tag)).Nodup) {x : Slot} (hx : x ∈ l) (f : Slot → Slot) :
    (changeSlot x.tag f l).countP p + (if p x then 1 else 0) = l.countP p + if p (f x) then 1 else 0 := by
  induction l with
  | nil => cases hx
  | cons y l ih =>
    rw [List.map_cons, List.nodup_cons] at hn
    obtain ⟨hy, hn⟩ := hn
    have hcons : changeSlot x.tag f (y :: l) = (if y.tag == x.tag then f y else y) :: changeSlot x.tag f l := rfl
    rw [hcons, List.countP_cons, List.countP_cons]
    rcases List.mem_cons.mp hx with rfl | hx
    · have hrest : changeSlot x.tag f l = l := by
        refine (List.map_congr_left fun z hz => ?_).trans (List.map_id l)
        have : z.tag ≠ x.tag := fun e => hy (e ▸ List.mem_map_of_mem hz)
        simp [this]
      rw [hrest, if_pos (beq_iff_eq.mpr rfl)]
      omega
    · have hne : y.tag ≠ x.tag := fun e => hy (e ▸ List.mem_map_of_mem hx)
      rw [if_neg (mt beq_iff_eq.mp hne)]
      have := ih hn hx
      omega

/-- A count after one slot has left the ring. -/
theorem countP_removeSlot (p : Slot → Bool) {l : List Slot} (hn : (l.map (·.tag)).Nodup) {x : Slot} (hx : x ∈ l) :
    (l.filter (·.tag != x.tag)).countP p + (if p x then 1 else 0) = l.countP p := by
  induction l with
  | nil => cases hx
  | cons y l ih =>
    rw [List.map_cons, List.nodup_cons] at hn
    obtain ⟨hy, hn⟩ := hn
    rw [List.filter_cons, List.countP_cons]
    rcases List.mem_cons.mp hx with rfl | hx
    · have hrest : l.filter (·.tag != x.tag) = l := List.filter_eq_self.mpr fun z hz =>
        bne_iff_ne.mpr fun e => hy (e ▸ List.mem_map_of_mem hz)
      rw [if_neg (by simp), hrest]
    · have hne : y.tag ≠ x.tag := fun e => hy (e ▸ List.mem_map_of_mem hx)
      rw [if_pos (bne_iff_ne.mpr hne), List.countP_cons]
      have := ih hn hx
      omega

section
variable {s t : State}

/-- Every run is balanced on both sides. -/
def State.allBalanced (s : State) : Prop := ∀ r ∈ s.runs.records, s.balanced r ∧ r.logBalanced

namespace State.allBalanced

/-- The BOARD slots of each run as before, and of each run the number, the tally and the saturated mark. -/
theorem of_same (h : s.allBalanced) (hb : ∀ q, t.boardSlots q = s.boardSlots q)
    (hr : ∀ r' ∈ t.runs.records, ∃ r ∈ s.runs.records, (r'.seq, r'.saturated, r'.tally) = (r.seq, r.saturated, r.tally)) :
    t.allBalanced := by
  intro r' hr'
  obtain ⟨r, hm, e⟩ := hr r' hr'
  obtain ⟨e1, e2, e3⟩ : r'.seq = r.seq ∧ r'.saturated = r.saturated ∧ r'.tally = r.tally := by simpa using e
  obtain ⟨h1, h2⟩ := h r hm
  refine ⟨?_, Run.logBalanced_of_eq e3 e2 h2⟩
  rw [State.balanced_iff, e1, hb]
  exact Run.boardBalanced_of_eq e3 e2 h1

theorem of_runs (h : s.allBalanced) (hr : t.runs = s.runs) (hb : ∀ q, t.boardSlots q = s.boardSlots q) : t.allBalanced :=
  h.of_same hb fun r hm => ⟨r, hr ▸ hm, rfl⟩

/-- A tally entry of one run, with the BOARD slots of that run as the entry has them. -/
theorem enter (h : s.allBalanced) (hk : ∀ r ∈ s.runs.records, r.countersKept) {seq : Nat} {l : List (Counter × Nat)}
    (hr : t.runs.records = changeRun seq (·.countAll l) s.runs.records) (hother : ∀ q, q ≠ seq → t.boardSlots q = s.boardSlots q)
    (hb : gain l .scanned + s.boardSlots seq = gainKept l + gain l .scrapped + gain l .lost + t.boardSlots seq)
    (hl : gain l .logsMeasured = gain l .accepted + (gain l (.rejected .fault) + gain l (.rejected .sed) + gain l (.rejected .length))
      ∧ gainClassed l + gain l .faulted = gain l .logsMeasured) : t.allBalanced := by
  intro r' hr'
  rw [hr] at hr'
  obtain ⟨r, hm, rfl⟩ := List.mem_map.mp hr'
  obtain ⟨h1, h2⟩ := h r hm
  have h1' : r.boardBalanced (s.boardSlots r.seq) := h1
  split
  · next e =>
    have e' := beq_iff_eq.mp e
    refine ⟨?_, Run.logBalanced_countAll (hk r hm) h2 hl⟩
    rw [State.balanced_iff, Run.countAll_seq]
    rw [e'] at h1' ⊢
    exact Run.boardBalanced_countAll (hk r hm) h1' hb
  · next e =>
    refine ⟨?_, h2⟩
    rw [State.balanced_iff, hother _ (mt beq_iff_eq.mpr e)]
    exact h1'

/-- The ring emptied and its pieces lost. -/
theorem emptied (h : s.allBalanced) (hk : ∀ r ∈ s.runs.records, r.countersKept) (hring : t.tracker.ring = [])
    (hr : t.runs = { s.runs with records := s.runs.records.map (Run.emptied s.tracker.ring) }) : t.allBalanced := by
  have h0 : ∀ q, t.boardSlots q = 0 := fun q => by
    unfold State.boardSlots
    rw [hring]
    rfl
  intro r' hr'
  rw [hr] at hr'
  obtain ⟨r, hm, rfl⟩ := List.mem_map.mp hr'
  obtain ⟨h1, h2⟩ := h r hm
  obtain ⟨e1, e2, -⟩ := (r.lose (boardsOf s.tracker.ring r.seq)).closeIfDrained_tally []
  have hg := gain_replicate (boardsOf s.tracker.ring r.seq) .lost
  refine ⟨?_, Run.logBalanced_of_eq e1 e2 (Run.logBalanced_countAll (hk r hm) h2 ?_)⟩
  · rw [State.balanced_iff, h0]
    refine Run.boardBalanced_of_eq e1 e2 (Run.boardBalanced_countAll (b := s.boardSlots r.seq) (hk r hm) h1 ?_)
    rw [gainKept_eq_zero fun g n => by rw [hg]; rfl, hg, hg, hg]
    show 0 + boardsOf s.tracker.ring r.seq = _
    simp
  · rw [gainClassed_eq_zero fun c => by rw [hg]; rfl]
    simp [hg]

/-! ## The advance -/

theorem boardSlots_of_keys (h : t.keys.map (fun k => (k.run, k.kind)) = s.keys.map fun k => (k.run, k.kind)) (q : Nat) :
    t.boardSlots q = s.boardSlots q := by
  have hk : ∀ u : State, u.boardSlots q = (u.keys.map fun k => (k.run, k.kind)).countP fun p => p.1 == q && p.2 == .board := by
    intro u
    unfold State.keys State.boardSlots
    rw [List.countP_map, List.countP_map]
    rfl
  rw [hk, hk, h]

theorem movedOn (h : s.InvButPos) (hs : s.allBalanced) : s.movedOn.allBalanced := by
  obtain ⟨htab, -⟩ := s.runsKept_iff.mp h.runs
  have hk : ∀ r ∈ s.runs.records, r.countersKept := fun r hr => (htab.each r hr).2.2
  have hplain : s.moveRing.allBalanced := hs.of_runs rfl fun q => by
    unfold State.boardSlots
    rw [State.moveRing_ring, List.countP_map]
    rfl
  unfold State.movedOn
  split
  · next x hx =>
    obtain ⟨y, hy, h0, rfl⟩ := (State.arriving_eq h.ring).mp hx
    obtain ⟨-, hall, -, -⟩ := id h.ring
    have hkind : y.further.kind = .undecided := (hall y hy).2.2.mpr h0
    have hn : (s.moveRing.tracker.ring.map (·.tag)).Nodup := by
      rw [State.moveRing_ring, List.map_map]
      exact h.ring.nodup
    have hcount : ∀ q, (s.moveRing.updateSlot y.further.tag Slot.fixKind).boardSlots q =
        s.moveRing.boardSlots q + if y.run = q ∧ y.further.fixedKind = .board then 1 else 0 := by
      intro q
      have := countP_changeSlot (fun x => x.run == q && x.kind == .board) hn (List.mem_map_of_mem (f := Slot.further) hy) Slot.fixKind
      have hx : (y.further.run == q && y.further.kind == SlotKind.board) = false := by
        rw [hkind]
        exact Bool.and_false _
      have hf : (y.further.fixKind.run == q && y.further.fixKind.kind == SlotKind.board) = true ↔
          y.run = q ∧ y.further.fixedKind = .board := by
        rw [Slot.fixKind_eq, Bool.and_eq_true_iff, beq_iff_eq, beq_iff_eq]
        exact Iff.rfl
      rw [if_neg (by rw [hx]; exact Bool.false_ne_true)] at this
      exact this.trans (congrArg _ (if_congr hf rfl rfl))
    unfold State.fixKind
    dsimp only
    split
    · next hb =>
      have hb' : y.further.fixedKind = .board := beq_iff_eq.mp hb
      refine hplain.enter (seq := y.further.run) (l := [(.scanned, 1)]) hk (by rw [State.enter_runs]; rfl) (fun q hq => ?_) ?_
        ⟨by simp, by simp [gainClassed]⟩
      · have : y.run ≠ q := Ne.symm hq
        rw [State.boardSlots, State.enter_tracker]
        exact (hcount q).trans (by simp [this])
      · have hc := hcount y.further.run
        rw [if_pos ⟨rfl, hb'⟩] at hc
        rw [State.boardSlots, State.boardSlots, State.enter_tracker]
        rw [State.boardSlots, State.boardSlots] at hc
        rw [hc]
        simp [gainKept]
        omega
    · next hb =>
      have hb' : y.further.fixedKind ≠ .board := mt beq_iff_eq.mpr hb
      refine hplain.of_same (fun q => (hcount q).trans (by simp [hb'])) fun r hr => ?_
      rw [State.closeDrained_runs] at hr
      obtain ⟨r0, hr0, rfl⟩ := List.mem_map.mp hr
      obtain ⟨e1, e2, -⟩ := r0.closeIfDrained_tally _
      exact ⟨r0, hr0, by rw [(closeIfDrained_keepsCurrent _).seq, e2, e1]⟩
  · exact hplain

/-- An arrival before EX leaves the runs and their BOARD slots. -/
theorem arriveAt_of_ne_ex (h : s.Moving) (hs : s.allBalanced) (tag : Nat) {st : Station} (hst : st ≠ .ex) :
    (s.arriveAt tag st).allBalanced := by
  obtain ⟨hk, hr⟩ := State.arriveAt_keys h.apart.tags tag hst
  refine hs.of_runs hr (boardSlots_of_keys ?_)
  rw [hk, List.map_map]
  refine List.map_congr_left fun k _ => ?_
  simp only [Function.comp]
  split <;> simp

/-- An arrival at EX counts its BOARD slot kept or scrapped. -/
theorem arriveAt_ex {tag : Nat} (h : s.Moving) (hs : s.allBalanced) (hin : s.inOrder tag .ex) : (s.arriveAt tag .ex).allBalanced := by
  by_cases hd : ∃ x, s.slot? tag = some x ∧ Station.ex ∉ x.passed ∧ s.geo.station .ex ≤ x.offset
  · obtain ⟨x, hx, hp, ho⟩ := hd
    obtain ⟨hm, rfl⟩ := State.slot?_some hx
    obtain ⟨htab, -⟩ := s.runsKept_iff.mp h.runs
    have hk : ∀ r ∈ s.runs.records, r.countersKept := fun r hr => (htab.each r hr).2.2
    have htr : Station.tr ∈ x.passed := hin x hm rfl ho _ rfl
    have hring := State.arriveAt_ex_ring h.apart.tags h.apart.inLine x.tag
    have hring' : (s.arriveAt x.tag .ex).tracker.ring = s.tracker.ring.filter (·.tag != x.tag) := by
      rw [hring]
      refine List.filter_congr fun y hy => ?_
      by_cases hyx : y.tag = x.tag
      · have hyx' : y = x := Slot.eq_of_tag h.apart.tags hy hm hyx
        have : s.geo.ex ≤ x.offset := ho
        simp [hyx', this]
      · rw [bne, beq_eq_false_iff_ne.mpr hyx, Bool.false_and]
    have hcount : ∀ q, (s.arriveAt x.tag .ex).boardSlots q + (if x.run = q ∧ x.kind = .board then 1 else 0) = s.boardSlots q := by
      intro q
      have := countP_removeSlot (fun x => x.run == q && x.kind == .board) h.apart.tags hm
      rw [← hring'] at this
      refine Eq.trans (congrArg _ (if_congr ?_ rfl rfl)) this
      rw [Bool.and_eq_true_iff, beq_iff_eq, beq_iff_eq]
    have heq := State.arriveAt_of_due hx ho hp
    have hruns : ∃ f : Run → Run, (∀ r, ((f r).seq, (f r).saturated, (f r).tally) = (r.seq, r.saturated, r.tally))
        ∧ (s.arriveAt x.tag .ex).runs.records = (((s.updateSlot x.tag (Slot.pass .ex)).exited (x.pass .ex)).runs.records).map f := by
      rw [heq]
      have hf : ∀ ring r, ((Run.closeIfDrained ring r).seq, (Run.closeIfDrained ring r).saturated, (Run.closeIfDrained ring r).tally)
          = (r.seq, r.saturated, r.tally) := fun ring r => by
        obtain ⟨e1, e2, -⟩ := r.closeIfDrained_tally ring
        rw [(closeIfDrained_keepsCurrent _).seq, e2, e1]
      exact ⟨_, hf _, rfl⟩
    obtain ⟨f, hf, hrec⟩ := hruns
    -- The state with the entry made and the slot gone, before drained runs are closed.
    have hentered : ({ s.arriveAt x.tag .ex with runs := ((s.updateSlot x.tag (Slot.pass .ex)).exited (x.pass .ex)).runs } : State).allBalanced := by
      by_cases hb : x.kind = .board
      · have hc : x.commit.isSome := (h.sound hm).commit.mpr ⟨hb, (h.sound hm).tr htr⟩
        obtain ⟨c, hc⟩ := Option.isSome_iff_exists.mp hc
        set l := exitEntry ((s.updateSlot x.tag (Slot.pass .ex)).productOf x.run) (s.updateSlot x.tag (Slot.pass .ex)).geo.pitch
          (x.pass .ex) c with hl
        have he : ((s.updateSlot x.tag (Slot.pass .ex)).exited (x.pass .ex)).runs.records = changeRun x.run (·.countAll l) s.runs.records := by
          unfold State.exited State.exitPiece
          rw [if_pos (beq_iff_eq.mpr hb : ((x.pass .ex).kind == .board) = true), show (x.pass .ex).commit = some c from hc]
          show (State.report _ _ _).runs.records = _
          rw [State.report_runs, State.enter_runs]
          rfl
        obtain ⟨g1, g2, g3, g4⟩ := exitEntry_gains ((s.updateSlot x.tag (Slot.pass .ex)).productOf x.run)
          (s.updateSlot x.tag (Slot.pass .ex)).geo.pitch (x.pass .ex) c
        rw [← hl] at g1 g2 g3 g4
        simp only [Prod.mk.injEq] at g3
        obtain ⟨g31, g32, g33, g34, g35, g36⟩ := g3
        refine hs.enter hk he (fun q hq => ?_) ?_ ⟨by omega, by omega⟩
        · have hq' : x.run ≠ q := Ne.symm hq
          have := hcount q
          rw [if_neg fun h => hq' h.1] at this
          exact this
        · have := hcount x.run
          rw [if_pos ⟨rfl, hb⟩] at this
          have h' : ∀ u : RunTable, ({ s.arriveAt x.tag .ex with runs := u } : State).boardSlots x.run = (s.arriveAt x.tag .ex).boardSlots x.run :=
            fun _ => rfl
          rw [h']
          omega
      · refine hs.of_runs ?_ fun q => ?_
        · show ((s.updateSlot x.tag (Slot.pass .ex)).exited (x.pass .ex)).runs = s.runs
          unfold State.exited
          rw [if_neg (mt beq_iff_eq.mp hb : ¬((x.pass .ex).kind == .board) = true)]
          rfl
        · have := hcount q
          rw [if_neg fun h => hb h.2] at this
          exact this
    refine hentered.of_same (fun _ => rfl) fun r hr => ?_
    rw [hrec] at hr
    obtain ⟨r0, hr0, rfl⟩ := List.mem_map.mp hr
    exact ⟨r0, hr0, hf r0⟩
  · rw [State.arriveAt_of_not_due fun x hx hp => ?_]
    · exact hs
    · exact Nat.lt_of_not_le fun ho => hd ⟨x, hx, hp, ho⟩

theorem advance (h : s.InvButPos) (hs : s.allBalanced) (synth : Bool) : (s.advance synth).allBalanced := by
  have hann := State.Moving.announced_rel (R := fun u v => u.allBalanced → v.allBalanced) (fun _ h => h) (fun h k hu => k (h hu))
    (fun {u} tag st hu _ hin hb => by
      by_cases hst : st = .ex
      · subst hst
        exact arriveAt_ex hu hb hin
      · exact arriveAt_of_ne_ex hu hb tag hst)
    h.movedOn (s.movedOn_geo ▸ h.geometry.1) (movedOn h hs)
  refine hann.of_runs rfl fun q => ?_
  show (s.beforeCreate.tracker.ring ++ [s.beforeCreate.newSlot synth]).countP _ = _
  rw [List.countP_append, List.countP_singleton]
  simp [State.newSlot, State.boardSlots]

/-- Every event keeps the balances. -/
theorem eventRel : State.EventRel fun _ s t => s.allBalanced → t.allBalanced where
  refl _ h := h
  trans h k hs := k (h hs)
  calm {s t} hi h hs := hs.of_runs h.runs fun q => by
    have := congrArg (List.countP fun p : Nat × Nat × SlotKind × Nat × List Station => p.2.2.2.1 == q && p.2.2.1 == .board)
      (h.places trivial hi)
    rwa [List.countP_map, List.countP_map] at this
  logEntry {s} hi fault m reject hs := by
    obtain ⟨htab, -⟩ := s.runsKept_iff.mp hi.runs
    obtain ⟨hl, h1, h2, h3, h4⟩ := logEntry_gains fault m reject
    have hb : ∀ q, (s.enter s.logSeq (logEntry fault m reject)).boardSlots q = s.boardSlots q := fun q => by
      unfold State.boardSlots
      rw [State.enter_tracker]
    exact hs.enter (fun r hr => (htab.each r hr).2.2) (by rw [State.enter_runs]) (fun q _ => hb q)
      (by rw [hb, h1, h2, h3, h4]) hl
  openRun {s} hi p _ _ hs := by
    obtain ⟨htab, -, hslots⟩ := s.runsKept_iff.mp hi.runs
    intro r hr
    rcases List.mem_append.mp hr with hr | hr
    · obtain ⟨q, hq, rfl⟩ := List.mem_map.mp hr
      obtain ⟨e0, e1, e2, -⟩ := q.yieldLogs_keeps
      obtain ⟨h1, h2⟩ := hs q hq
      refine ⟨?_, Run.logBalanced_of_eq e1 e2 h2⟩
      rw [State.balanced_iff, e0]
      exact Run.boardBalanced_of_eq e1 e2 h1
    · rw [List.mem_singleton.mp hr]
      have h0 : s.boardSlots (s.runs.lastIssued + 1) = 0 := by
        refine List.countP_eq_zero.mpr fun x hx hb => ?_
        obtain ⟨h1, h2⟩ := Bool.and_eq_true_iff.mp hb
        have hk : x.kind ≠ .empty := by
          rw [beq_iff_eq.mp h2]
          decide
        obtain ⟨q, hq, hseq⟩ := (s.run?_isSome_iff _).mp (hslots x hx hk)
        have := (htab.each q hq).2.1
        rw [hseq, beq_iff_eq.mp h1] at this
        exact Nat.not_succ_le_self _ this
      refine ⟨fun _ => ?_, fun _ => Tally.zero_logs⟩
      show Tally.zero.scanned = Tally.zero.keptPieces + Tally.zero.scrapped + Tally.zero.lost + s.boardSlots (s.runs.lastIssued + 1)
      rw [h0]
      decide
  cutOver {s} _ hs := hs.of_same (fun _ => rfl) fun r hr => by
    obtain ⟨q, hq, rfl⟩ := List.mem_map.mp hr
    obtain ⟨e0, e1, e2, -⟩ := q.cutOver_keeps (s.drainedState s.boardSeq)
    exact ⟨q, hq, by rw [e0, e1, e2]⟩
  releaseRun _ _ _ _ _ hs := hs.of_same (fun _ => rfl) fun r hr => ⟨r, (List.mem_filter.mp hr).1, rfl⟩
  clearLine {s} hi hs := by
    obtain ⟨htab, -⟩ := s.runsKept_iff.mp hi.runs
    obtain ⟨ht, -, -, -, -, -, -, -, -, -, hruns, -⟩ := s.clearLine_keeps
    exact hs.emptied (fun r hr => (htab.each r hr).2.2) (by rw [ht]) hruns
  advance hi synth hs := hs.advance hi synth
  tracker {s} _ f hf hs := hs.of_runs rfl fun q => by
    show (f s.tracker).ring.countP _ = _
    rw [(Prod.mk.inj hf).1]
    rfl
  tables {s} _ new _ hs := hs.of_runs (by simp [State.beforeInputs, State.tablesSet, State.outputsRewritten]) fun q => by
    unfold State.boardSlots State.beforeInputs
    rw [State.changeModuleCount_tracker]
    rfl

end State.allBalanced

theorem State.allBalanced_of_reset (hring : t.tracker.ring = [])
    (hr : t.runs = State.reset.runs) : t.allBalanced := by
  intro r hm
  rw [hr, show State.reset.runs.records = [{ seq := 1, product := 0, state := .both, saturated := false, tally := Tally.zero }] from rfl,
    List.mem_singleton] at hm
  subst hm
  refine ⟨fun _ => ?_, fun _ => ⟨by decide, by decide⟩⟩
  unfold State.boardSlots
  rw [hring]
  decide

/-- Every command keeps the balances. -/
theorem State.allBalanced.after (hi : s.Inv) (h : s.allBalanced) (c : Instr) : (s.after c).allBalanced := by
  obtain ⟨hb, -⟩ := s.inv_iff.mp hi
  by_cases hp : ∃ a b p, c = .powerOn a b p
  · obtain ⟨a, b, p, rfl⟩ := hp
    exact State.allBalanced_of_reset rfl rfl
  · by_cases hr : c = .restartAnnounced
    · subst hr
      rw [State.after_restartAnnounced]
      split
      · obtain ⟨htab, -⟩ := s.runsKept_iff.mp hi.runs
        obtain ⟨ht, -, -, -, -, -, -, -, hruns, -⟩ := s.announceRestart_keeps
        exact h.emptied (fun r hr => (htab.each r hr).2.2) (by rw [ht]) hruns
      · exact h
    · obtain ⟨n, -, hn⟩ := State.ChainLE.of_after (I := True) s (fun _ => hb) (fun a b p e => hp ⟨a, b, p, e⟩) hr
      exact (State.allBalanced.eventRel.chain hn hb).1 h

/-- Settles O55: each entry adds to one side of a balance what it adds to the other, the slots in the ring counted. -/
theorem stepKeepsTheBalances : Obligations.StepKeepsTheBalances := by
  intro s t hi h hs
  rcases step_cases hs with ⟨c, rest, -, rfl⟩ | ⟨-, rfl⟩
  · exact State.allBalanced.after (hi.setPending rest) h c
  · exact h

end

end Sys2Proof.Machine


/-! PROOF. A slot through every event: a decision fixed and a scan closed stay as they are (R28, R100, R102, R104; O59, O60). -/

namespace Sys2Proof.Machine

-- One proof after the other: together they would ask for more threads than the check has memory for.
set_option Elab.async false

section
variable {s t u : State} {tag : Nat}

/-! ## The ring after an arrival at SD and at GW -/

theorem State.arriveAt_sd_ring {x : Slot} (hx : s.slot? tag = some x) (hp : Station.sd ∉ x.passed)
    (ho : s.geo.station .sd ≤ x.offset) :
    (s.arriveAt tag .sd).tracker.ring = s.tracker.ring.map fun y => if y.tag == tag then y.atSD else y := by
  obtain ⟨-, htag⟩ := State.slot?_some hx
  rw [State.arriveAt_of_due hx ho hp]
  show ((s.updateSlot tag _).arriveSD _).tracker.ring = _
  rw [State.arriveSD_ring, Slot.pass_tag, htag]
  exact changeSlot_changeSlot tag (f := Slot.pass .sd) (fun _ => rfl) _

theorem State.arriveAt_gw_ring {x : Slot} (hx : s.slot? tag = some x) (hp : Station.gw ∉ x.passed)
    (ho : s.geo.station .gw ≤ x.offset) :
    (s.arriveAt tag .gw).tracker.ring = s.tracker.ring.map fun y => if y.tag == tag then y.atGW else y := by
  obtain ⟨-, htag⟩ := State.slot?_some hx
  rw [State.arriveAt_of_due hx ho hp]
  show ((s.updateSlot tag _).arriveGW _).tracker.ring = _
  rw [State.arriveGW_ring, Slot.pass_tag, htag]
  exact changeSlot_changeSlot tag (f := Slot.pass .gw) (fun _ => rfl) _

theorem State.arriveAt_cm_ring_of_not_board {x : Slot} (hx : s.slot? tag = some x) (hp : Station.cm ∉ x.passed)
    (ho : s.geo.station .cm ≤ x.offset) (hk : x.kind ≠ .board) :
    (s.arriveAt tag .cm).tracker.ring = s.tracker.ring.map fun y => if y.tag == tag then (y.pass .cm).withdrawn else y := by
  obtain ⟨-, htag⟩ := State.slot?_some hx
  rw [State.arriveAt_of_due hx ho hp]
  show (State.arriveCM _ (x.pass .cm)).tracker.ring = _
  rw [State.arriveCM_ring_of_not_board (x := x.pass .cm) hk, Slot.pass_tag, htag]
  exact changeSlot_changeSlot tag (f := Slot.pass .cm) (fun _ => rfl) _

/-! ## One slot at a station -/

namespace Slot.Kept

theorem pass (x : Slot) (st : Station) : x.Kept (x.pass st) := .of_eq

theorem abandonedBy (x : Slot) (ex : Option Exchange) : x.Kept (x.abandonedBy ex) := by
  obtain ⟨f, hf⟩ := x.abandonedBy_eq ex
  rw [hf]
  exact .setCommit x fun _ => by constructor <;> rfl

theorem atSD (x : Slot) : x.Kept x.atSD := by
  rw [Slot.atSD_eq]
  refine Slot.Kept.trans ?_ (pass _ _)
  unfold Slot.deadline
  dsimp only
  split
  · next ho =>
    rw [Slot.closeScan_eq _ (by decide)]
    exact .of_open (beq_iff_eq.mp ho) rfl rfl rfl
  · exact ⟨rfl, fun _ => rfl, fun c hc => ⟨c, hc, .refl c⟩, fun _ => ⟨rfl, rfl, rfl, rfl⟩, fun _ _ => rfl⟩

/-- A slot that has no decision yet. -/
theorem committed {x : Slot} (hc : x.commit = none) (c : CommitRecord) : x.Kept (x.committed c) where
  tag := rfl
  kind _ := rfl
  commit _ hd := absurd (hc.symm.trans hd) nofun
  scan _ := ⟨rfl, rfl, rfl, rfl⟩
  profile _ _ := rfl

theorem withdrawn (x : Slot) : x.Kept x.withdrawn := .of_eq

theorem moved {x : Slot} (hk : x.kind = .undecided ↔ x.offset = 0) : x.Kept x.moved := by
  unfold Slot.moved
  split
  · next h0 =>
    have hu := hk.mpr h0
    rw [Slot.fixKind_eq]
    exact ⟨rfl, fun h => absurd hu h, fun c hc => ⟨c, hc, .refl c⟩, fun _ => ⟨rfl, rfl, rfl, rfl⟩, fun _ h => absurd hu h⟩
  · exact .of_eq

end Slot.Kept

/-! ## The ring -/

/-- Every slot of the later ring is one of the earlier, kept, or bears one of the `n` tags given since. -/
def State.SlotsHold (n : Nat) (s t : State) : Prop :=
  t.tracker.nextTag % 65536 = (s.tracker.nextTag + n) % 65536
    ∧ ∀ y ∈ t.tracker.ring, (∃ x ∈ s.tracker.ring, x.Kept y) ∨ ∃ k < n, y.tag = (s.tracker.nextTag + k) % 65536

namespace State.SlotsHold

theorem of_mem (hn : t.tracker.nextTag = s.tracker.nextTag) (h : ∀ y ∈ t.tracker.ring, ∃ x ∈ s.tracker.ring, x.Kept y) :
    s.SlotsHold 0 t := ⟨by rw [hn]; rfl, fun y hy => .inl (h y hy)⟩

theorem of_map (hn : t.tracker.nextTag = s.tracker.nextTag) {g : Slot → Slot} (hr : t.tracker.ring = s.tracker.ring.map g)
    (hg : ∀ x ∈ s.tracker.ring, x.Kept (g x)) : s.SlotsHold 0 t :=
  of_mem hn fun y hy => by
    rw [hr] at hy
    obtain ⟨x, hx, rfl⟩ := List.mem_map.mp hy
    exact ⟨x, hx, hg x hx⟩

theorem of_tracker (h : t.tracker = s.tracker) : s.SlotsHold 0 t :=
  of_mem (by rw [h]) fun y hy => ⟨y, h ▸ hy, .refl y⟩

theorem trans {n k : Nat} (h : s.SlotsHold n u) (hk : u.SlotsHold k t) : s.SlotsHold (n + k) t := by
  obtain ⟨h1, h2⟩ := h
  obtain ⟨k1, k2⟩ := hk
  refine ⟨by omega, fun y hy => ?_⟩
  rcases k2 y hy with ⟨x, hx, hxy⟩ | ⟨i, hi, e⟩
  · rcases h2 x hx with ⟨w, hw, hwx⟩ | ⟨i, hi, e⟩
    · exact .inl ⟨w, hw, hwx.trans hxy⟩
    · exact .inr ⟨i, by omega, hxy.tag.trans e⟩
  · exact .inr ⟨n + i, by omega, by omega⟩

/-- The announcement of one slot at one station. -/
theorem arriveAt (h : s.Moving) (tag : Nat) (st : Station) (hin : s.inOrder tag st) : s.SlotsHold 0 (s.arriveAt tag st) := by
  have hnext := (State.LineFrame.arriveAt s tag st).nextTag
  by_cases hd : ∃ x, s.slot? tag = some x ∧ st ∉ x.passed ∧ s.geo.station st ≤ x.offset
  · obtain ⟨x, hx, hp, ho⟩ := hd
    obtain ⟨hm, htag⟩ := State.slot?_some hx
    cases st with
    | sd =>
      refine of_map hnext (State.arriveAt_sd_ring hx hp ho) fun y _ => ?_
      split
      · exact .atSD y
      · exact .refl y
    | gw =>
      refine of_map hnext (State.arriveAt_gw_ring hx hp ho) fun y _ => ?_
      split
      · exact .of_eq
      · exact .refl y
    | cm =>
      by_cases hk : x.kind = .board
      · refine of_map hnext (State.arriveAt_cm_ring hx hp ho hk) fun y hy => ?_
        unfold Slot.atCM
        split
        · next hyt =>
          obtain rfl : y = x := Slot.eq_of_tag h.apart.tags hy hm (hyt.trans htag.symm)
          have hc : y.commit = none := Option.not_isSome_iff_eq_none.mp fun hc => hp ((h.sound hy).commit.mp hc).2
          exact (((Slot.Kept.pass y .cm).trans (.committed (x := y.pass .cm) hc _)).trans (.abandonedBy _ _)).trans (.withdrawn _)
        · exact .abandonedBy y _
      · refine of_map hnext (State.arriveAt_cm_ring_of_not_board hx hp ho hk) fun y _ => ?_
        split
        · exact .of_eq
        · exact .refl y
    | tr =>
      obtain ⟨⟨ex, f, hf, hring⟩, -⟩ := State.arriveAt_tr_keeps hx hp ho
      have hf' : ∀ c : CommitRecord, c.SameDecision (f c) := by
        rcases hf with rfl | ⟨missed, rfl⟩
        · exact .refl
        · exact fun _ => by constructor <;> rfl
      refine of_map hnext hring fun y _ => ?_
      unfold Slot.atTR
      split
      · exact ((Slot.Kept.pass y .tr).trans (.abandonedBy _ _)).trans (.setCommit _ hf')
      · exact .abandonedBy y _
    | ex =>
      refine of_mem hnext fun y hy => ⟨y, ?_, .refl y⟩
      rw [State.arriveAt_ex_ring h.apart.tags h.apart.inLine] at hy
      exact (List.mem_filter.mp hy).1
  · rw [State.arriveAt_of_not_due fun x hx hp => ?_]
    · exact of_tracker rfl
    · exact Nat.lt_of_not_le fun ho => hd ⟨x, hx, hp, ho⟩

theorem advance (h : s.InvButPos) (synth : Bool) : s.SlotsHold 1 (s.advance synth) := by
  obtain ⟨-, hall, -, hlt⟩ := id h.ring
  have hmoved : s.SlotsHold 0 s.movedOn :=
    of_map (State.LineFrame.movedOn s).nextTag (State.movedOn_ring h.ring) fun x hx => .moved (hall x hx).2.2
  have hann := State.Moving.announced_rel (R := State.SlotsHold 0) (fun s => of_tracker rfl) (fun h k => h.trans k)
    (fun tag st hu _ hin => arriveAt hu tag st hin) h.movedOn (s.movedOn_geo ▸ h.geometry.1)
  have hbefore : s.SlotsHold 0 s.beforeCreate := hmoved.trans hann
  refine hbefore.trans (n := 0) (k := 1) ⟨?_, fun y hy => ?_⟩
  · rw [State.advance_nextTag, State.beforeCreate_nextTag]
    exact Nat.mod_mod _ _
  · rcases List.mem_append.mp hy with hy | hy
    · exact .inl ⟨y, hy, .refl y⟩
    · rw [List.mem_singleton.mp hy]
      refine .inr ⟨0, Nat.one_pos, ?_⟩
      rw [Nat.add_zero, State.beforeCreate_nextTag, Nat.mod_eq_of_lt hlt]
      exact s.beforeCreate_nextTag

/-- Every event keeps the slots. -/
theorem eventRel : State.EventRel State.SlotsHold where
  refl _ := of_tracker rfl
  trans h k := h.trans k
  calm hi h := by
    obtain ⟨g, hr, hg⟩ := h.ring trivial hi
    exact of_map h.nextTag hr fun x hx => (hg x hx).toKept
  logEntry _ _ _ _ := of_tracker (State.enter_tracker ..)
  openRun _ _ _ _ := of_tracker rfl
  cutOver _ := of_tracker rfl
  releaseRun _ _ _ _ _ := of_tracker rfl
  clearLine {s} _ := by
    obtain ⟨ht, -⟩ := s.clearLine_keeps
    generalize s.clearLine = t at *
    refine of_mem (by rw [ht]) fun y hy => ?_
    rw [ht] at hy
    exact absurd hy List.not_mem_nil
  advance hi synth := advance hi synth
  tracker {s} _ f hf := by
    obtain ⟨hr, hn⟩ := Prod.mk.inj hf
    exact of_mem hn fun y hy => ⟨y, hr ▸ hy, .refl y⟩
  tables {s} _ new _ := of_map (g := id) (by rw [State.beforeInputs, State.changeModuleCount_tracker]; rfl)
    (by rw [List.map_id, State.beforeInputs, State.changeModuleCount_tracker]; rfl) fun x _ => .refl x

/-- A slot in the ring before and after is kept: so few tags are given at one command that none comes again. -/
theorem kept (hs : s.ringKept) {n : Nat} (hn : n ≤ 8) (h : s.SlotsHold n t) {x y : Slot} (hx : x ∈ s.tracker.ring)
    (hy : y ∈ t.tracker.ring) (ht : y.tag = x.tag) : x.Kept y := by
  obtain ⟨-, h2⟩ := h
  rcases h2 y hy with ⟨w, hw, hwy⟩ | ⟨k, hk, e⟩
  · rwa [hs.eq_of_tag hx hw (ht.symm.trans hwy.tag)]
  · have hl := hs.length_le
    obtain ⟨-, -, htags, hnext⟩ := hs
    have hm : x.tag ∈ s.tracker.ring.map (·.tag) := List.mem_map_of_mem hx
    rw [htags] at hm
    obtain ⟨i, hi, e'⟩ := List.mem_map.mp hm
    have := List.mem_range.mp hi
    rw [← ht, e] at e'
    unfold tagBefore at e'
    omega

end State.SlotsHold

/-- Every command keeps each slot that is in the ring before and after. -/
theorem State.Inv.slot_kept (h : s.Inv) {c : Instr} (he : exec c s = .next t) {x y : Slot} (hx : x ∈ s.tracker.ring)
    (hy : y ∈ t.tracker.ring) (ht : y.tag = x.tag) : x.Kept y := by
  rw [← State.after_of_exec he] at hy
  obtain ⟨hb, -⟩ := s.inv_iff.mp h
  by_cases hp : ∃ a b p, c = .powerOn a b p
  · obtain ⟨a, b, p, rfl⟩ := hp
    exact absurd hy List.not_mem_nil
  · by_cases hr : c = .restartAnnounced
    · subst hr
      rw [State.after_restartAnnounced] at hy
      split at hy
      · obtain ⟨htr, -⟩ := s.announceRestart_keeps
        generalize s.announceRestart = t at *
        rw [htr] at hy
        exact absurd hy List.not_mem_nil
      · rw [h.ring.eq_of_tag hx hy ht.symm]
    · obtain ⟨n, hle, hn⟩ := State.ChainLE.of_after (I := True) s (fun _ => hb) (fun a b p e => hp ⟨a, b, p, e⟩) hr
      exact (State.SlotsHold.eventRel.chain hn hb).1.kept h.ring hle hx hy ht

end

/-- Settles O59: a slot that has its commit record is kept by every event. -/
theorem decisionNeverChanges : Obligations.DecisionNeverChanges := by
  intro i s t h he x hx y hy ht c hc
  obtain ⟨d, hd, ⟨h1, h2, h3, h4, h5, h6, h7⟩⟩ := (h.slot_kept he hx hy ht).commit c hc
  exact ⟨d, hd, h1, h2, h3, h4, h5, h6, h7⟩

/-- Settles O60: a slot whose scan is closed is kept by every event. -/
theorem closedScanNeverChanges : Obligations.ClosedScanNeverChanges := by
  intro i s t h he x hx y hy ht ho
  have hk := h.slot_kept he hx hy ht
  obtain ⟨h1, h2, h3, h4⟩ := hk.scan ho
  exact ⟨h1, h2, h3, h4, hk.profile ho⟩

end Sys2Proof.Machine


/-! PROOF. No change of a term of an output goes unjudged (R94, R155, R157; O56). -/

namespace Sys2Proof.Machine

-- One proof after the other: together they would ask for more threads than the check has memory for.
set_option Elab.async false

section
variable {s t : State} {tag : Nat}

namespace State.outputsJudged

/-- Outputs, tables, alert condition and ring as before. -/
theorem of_ring (h : s.outputsJudged) (hf : (t.field.outputs, t.tables, t.alert) = (s.field.outputs, s.tables, s.alert))
    (hr : t.tracker.ring = s.tracker.ring) : t.outputsJudged := by
  obtain ⟨h1, h2, h3⟩ : t.field.outputs = s.field.outputs ∧ t.tables = s.tables ∧ t.alert = s.alert := by simpa using hf
  exact h.of_eq h1 h2 h3 fun _ => by rw [hr]

/-- One slot changed that calls as it did. -/
theorem updateSlot (h : s.outputsJudged) {f : Slot → Slot}
    (hf : ∀ x ∈ s.tracker.ring, x.tag = tag → ∀ g, (f x).calls g = x.calls g) : (s.updateSlot tag f).outputsJudged :=
  h.of_eq rfl rfl rfl (any_calls_map fun x hx g => by
    split
    · next ht => exact hf x hx (beq_iff_eq.mp ht) g
    · rfl)

theorem enter (h : s.outputsJudged) (seq : Nat) (l : List (Counter × Nat)) : (s.enter seq l).outputsJudged := by
  have hr : (s.setRuns (changeRun seq (·.countAll l))).outputsJudged := h.of_ring rfl rfl
  unfold State.enter
  dsimp only
  split
  · exact State.raise_outputsJudged _ hr
  · exact hr

theorem endExchangeOf (h : s.outputsJudged) (tag : Nat) : (s.endExchangeOf tag).outputsJudged := by
  obtain ⟨hring, -⟩ := s.endExchangeOf_keeps tag
  have hframe : ((s.endExchangeOf tag).field.outputs, (s.endExchangeOf tag).tables, (s.endExchangeOf tag).alert) =
      (s.field.outputs, s.tables, s.alert) := by
    unfold State.endExchangeOf State.abandonExchange
    split
    · split <;> rfl
    · rfl
  obtain ⟨h1, h2, h3⟩ : (s.endExchangeOf tag).field.outputs = s.field.outputs ∧ (s.endExchangeOf tag).tables = s.tables
      ∧ (s.endExchangeOf tag).alert = s.alert := by simpa using hframe
  refine h.of_eq h1 h2 h3 fun g => ?_
  rw [hring]
  refine any_calls_map (fun x _ g => ?_) g
  obtain ⟨f, hf⟩ := x.abandonedBy_eq (s.exchangeOf tag)
  rw [hf]
  rfl

theorem trimPiece (h : s.outputsJudged) (tag : Nat) : (s.trimPiece tag).outputsJudged := by
  have he := h.endExchangeOf tag
  rw [State.trimPiece_eq]
  split
  · exact he
  · next c _ =>
    have hu := he.updateSlot (tag := tag) (f := (·.setCommit (CommitRecord.trim ((s.endExchangeOf tag).exchangeIncomplete c))))
      fun _ _ _ _ => rfl
    dsimp only
    split
    · exact State.raise_outputsJudged _ hu
    · exact hu

theorem exited (h : s.outputsJudged) (x : Slot) : (s.exited x).outputsJudged := by
  unfold State.exited State.exitPiece
  split
  · split
    · exact State.judge_outputsJudged _
    · exact h
  · exact h

/-- The announcement of one slot at one station: what it changes of a call or a cause is judged. -/
theorem arriveAt (h : s.outputsJudged) (hm : s.Moving) (tag : Nat) (st : Station) (hin : s.inOrder tag st) :
    (s.arriveAt tag st).outputsJudged := by
  by_cases hd : ∃ x, s.slot? tag = some x ∧ st ∉ x.passed ∧ s.geo.station st ≤ x.offset
  · obtain ⟨x, hx, hp, ho⟩ := hd
    obtain ⟨hmem, htag⟩ := State.slot?_some hx
    have hone : ∀ y ∈ s.tracker.ring, y.tag = tag → y = x := fun y hy ht =>
      Slot.eq_of_tag hm.apart.tags hy hmem (ht.trans htag.symm)
    have hx' := hm.sound hmem
    have hpass : (s.updateSlot tag (Slot.pass st)).outputsJudged := h.updateSlot fun _ _ _ _ => rfl
    rw [State.arriveAt_of_due hx ho hp]
    cases st with
    | sd =>
      have hbefore : x.console.window ≠ .open := by
        have hgw : Station.gw ∉ x.passed := fun hg => hp (hx'.gw hg)
        rw [hx'.window, windowAt]
        simp [hgw, hx'.cm_not_mem hgw]
      have hd : ((s.updateSlot tag (Slot.pass .sd)).updateSlot tag Slot.deadline).outputsJudged := by
        refine h.of_eq rfl rfl rfl fun g => ?_
        show (changeSlot tag _ (changeSlot tag _ s.tracker.ring)).any _ = _
        rw [changeSlot_changeSlot tag (f := Slot.pass .sd) fun _ => rfl]
        show (s.tracker.ring.map fun y => if y.tag == tag then y.atSD else y).any _ = _
        refine any_calls_map (fun y hy g => ?_) g
        split
        · next ht =>
          obtain rfl := hone y hy (beq_iff_eq.mp ht)
          have hw : (y.pass .sd).deadline.console.window ≠ .open := by
            show y.atSD.console.window ≠ .open
            rw [Slot.atSD_eq]
            unfold Slot.deadline
            dsimp only
            split
            · rw [Slot.closeScan_eq _ (by decide)]
              exact hbefore
            · exact hbefore
          exact (Slot.calls_of_not_open hw g).trans (Slot.calls_of_not_open hbefore g).symm
        · rfl
      show (State.arriveSD _ _).outputsJudged
      unfold State.arriveSD
      rw [Slot.pass_tag, htag]
      dsimp only
      split
      · exact State.raise_outputsJudged _ (hd.of_ring rfl rfl)
      · exact hd.of_ring rfl rfl
    | gw => exact State.judge_outputsJudged _
    | cm => exact State.judge_outputsJudged _
    | tr =>
      have hf : ((s.updateSlot tag (Slot.pass .tr)).pulse .fire).outputsJudged := State.judge_outputsJudged _
      show (State.arriveTR _ _).outputsJudged
      unfold State.arriveTR
      dsimp only
      split
      · exact hf.trimPiece _
      · exact hf
    | ex =>
      have htr : Station.tr ∈ x.passed := hin x hmem htag ho _ rfl
      have hclosed : x.console.window ≠ .open := by
        rw [hx'.window, windowAt]
        simp [hx'.tr htr]
      show (State.arriveEX _ _).outputsJudged
      rw [State.arriveEX_eq]
      refine (hpass.exited _).of_eq rfl rfl rfl fun g => ?_
      show ((((s.updateSlot tag (Slot.pass .ex)).exited _).tracker.ring).filter _).any _ = _
      rw [List.any_filter, Bool.eq_iff_iff, List.any_eq_true, List.any_eq_true, Slot.pass_tag, htag]
      refine exists_congr fun y => and_congr_right fun hy => ?_
      rw [Bool.and_eq_true_iff, and_iff_right_iff_imp, bne_iff_ne]
      intro hc hyt
      rw [State.exited_tracker] at hy
      obtain ⟨z, hz, hzy⟩ := List.mem_map.mp hy
      by_cases hzt : z.tag = tag
      · rw [if_pos (beq_iff_eq.mpr hzt), hone z hz hzt] at hzy
        rw [← hzy, Slot.calls_of_not_open (x := x.pass .ex) hclosed] at hc
        cases hc
      · rw [if_neg (mt beq_iff_eq.mp hzt)] at hzy
        exact hzt (hzy ▸ hyt)
  · rw [State.arriveAt_of_not_due fun x hx hp => ?_]
    · exact h
    · exact Nat.lt_of_not_le fun ho => hd ⟨x, hx, hp, ho⟩

theorem movedOn (h : s.outputsJudged) (hi : s.InvButPos) : s.movedOn.outputsJudged := by
  have hplain : s.moveRing.outputsJudged := h.of_eq rfl rfl rfl (any_calls_map fun _ _ _ => rfl)
  unfold State.movedOn
  split
  · next x hx =>
    obtain ⟨y, hy, h0, rfl⟩ := (State.arriving_eq hi.ring).mp hx
    obtain ⟨-, hall, -, -⟩ := id hi.ring
    have hk := (hall y hy).2.2.mpr h0
    have hu : (s.moveRing.updateSlot y.further.tag Slot.fixKind).outputsJudged := by
      refine hplain.updateSlot fun z hz hzt g => ?_
      obtain ⟨w, hw, rfl⟩ := List.mem_map.mp hz
      obtain rfl := hi.ring.eq_of_tag hw hy hzt
      have hwin : w.console.window ≠ .open := by
        rw [((s.slotsKept_iff.mp hi.slots).1 w hw).window, ((s.slotsKept_iff.mp hi.slots).1 w hw).undecided hk]
        nofun
      have hfix : w.further.fixKind.console.window ≠ .open := by
        rw [Slot.fixKind_eq]
        exact hwin
      exact (Slot.calls_of_not_open hfix g).trans (Slot.calls_of_not_open (x := w.further) hwin g).symm
    unfold State.fixKind
    dsimp only
    split
    · exact hu.enter _ _
    · exact hu.of_ring rfl rfl
  · exact hplain

theorem advance (h : s.outputsJudged) (hi : s.InvButPos) (synth : Bool) : (s.advance synth).outputsJudged := by
  have hann : s.beforeCreate.outputsJudged :=
    State.Moving.announced_rel (R := fun u v => u.outputsJudged → v.outputsJudged) (fun _ h => h) (fun h k hu => k (h hu))
      (fun tag st hu _ hin hj => hj.arriveAt hu tag st hin) hi.movedOn (s.movedOn_geo ▸ hi.geometry.1) (h.movedOn hi)
  refine hann.of_eq rfl rfl rfl fun g => ?_
  show (s.beforeCreate.tracker.ring ++ [s.beforeCreate.newSlot synth]).any _ = _
  rw [List.any_append]
  simp [State.newSlot, Slot.calls]

/-- Every event leaves the outputs judged. -/
theorem eventRel : State.EventRel fun _ s t => s.outputsJudged → t.outputsJudged where
  refl _ h := h
  trans h k hs := k (h hs)
  calm hi h := h.judged trivial hi
  logEntry _ _ _ _ h := h.enter _ _
  openRun _ _ _ _ h := h.of_ring rfl rfl
  cutOver _ h := h.of_ring rfl rfl
  releaseRun _ _ _ _ _ h := h.of_ring rfl rfl
  clearLine {s} _ _ := by
    rw [State.clearLine_eq]
    exact State.judge_outputsJudged _
  advance hi synth h := h.advance hi synth
  tracker _ _ hf h := h.of_ring rfl (Prod.mk.inj hf).1
  tables {s} _ new _ _ := by
    have hset : (s.tablesSet new).outputsJudged :=
      (State.judge_outputsJudged (({ s with tables := new } : State).setOutputs _)).of_ring rfl rfl
    unfold State.beforeInputs
    rw [State.changeModuleCount_eq]
    split
    · exact State.raise_outputsJudged _ (hset.of_ring rfl rfl)
    · exact hset.of_ring rfl rfl

end State.outputsJudged

end

/-- Settles O56: every event leaves the outputs judged that were. -/
theorem outputsAlwaysJudged : Obligations.OutputsAlwaysJudged := by
  intro c s t hi hj hp hr he
  rw [← State.after_of_exec he]
  obtain ⟨hb, -⟩ := s.inv_iff.mp hi
  obtain ⟨n, -, hn⟩ := State.ChainLE.of_after (I := True) s (fun _ => hb) hp hr
  exact (State.outputsJudged.eventRel.chain hn hb).1 hj

end Sys2Proof.Machine


/-! PROOF. The resets: what power-on, a line clear and a restart leave in every block (O4, O5, O7). -/

namespace Sys2Proof.Machine

-- One proof after the other: together they would ask for more threads than the check has memory for.
set_option Elab.async false

/-! ## Power-on -/

/-- Settles O4: the other blocks of the reset state, field by field, with the straps and the pins as they are. -/
theorem powerOnOtherBlocks : Obligations.PowerOnOtherBlocks := by
  intro a b pins s
  refine ⟨_, exec_powerOn a b pins s, rfl, rfl, rfl, rfl, rfl, fun h => ⟨Bank.get_fill _ h, Bank.get_fill _ h⟩, rfl,
    fun m => Bank.get_fill _ m, rfl, rfl, rfl, rfl, rfl, ⟨_, rfl, rfl, rfl, rfl, rfl, fun c => Tally.get_zero c⟩, fun i => ?input,
    fun o => Bank.get_fill _ o, rfl, rfl, rfl, rfl, rfl, fun l => Bank.get_fill _ l, rfl, fun hn => ?memory⟩
  case input =>
    refine (Bank.get_ofFn _ i).trans ?_
    rw [show State.reset.tables.inputs.get i = _ from Bank.get_fill _ i]
    cases pins.getLsbD i.val <;> rfl
  case memory =>
    show s.memoryAtPowerLoss = _
    unfold State.memoryAtPowerLoss
    split
    · next job h => exact absurd h (hn job)
    · rfl

section
variable {s t : State}

/-! ## The ring lost -/

/-- A ring emptied with its BOARD slots counted lost, run by run. -/
theorem State.ringLost_of_emptied (hk : ∀ r ∈ s.runs.records, r.countersKept) (hring : t.tracker.ring = [])
    (hruns : t.runs = { s.runs with records := s.runs.records.map (Run.emptied s.tracker.ring) }) : s.ringLost t := by
  have htally : ∀ r : Run, (r.emptied s.tracker.ring).tally = (r.lose (s.boardSlots r.seq)).tally := fun r =>
    (Run.closeIfDrained_tally _ _).1
  refine ⟨hring, by rw [hruns], ?_, fun c hc => ?_⟩
  · rw [hruns, List.map_map]
    refine List.map_congr_left fun r hr => ?_
    have hstate : (r.emptied s.tracker.ring).state = if r.state = .draining then .closed else r.state := by
      unfold Run.emptied Run.closeIfDrained
      rw [Run.lose_state]
      by_cases h : r.state = .draining
      · simp [h]
      · simp [h]
    have hseq : (r.emptied s.tracker.ring).seq = r.seq := ((closeIfDrained_keepsCurrent []).seq _).trans (Run.lose_seq _ r)
    have hprod : (r.emptied s.tracker.ring).product = r.product :=
      ((Run.closeIfDrained_tally _ _).2.2).trans (Run.lose_product _ r)
    simp only [Function.comp]
    rw [hseq, hprod, hstate, htally, Run.lose_lost (hk r hr)]
  · rw [hruns, List.map_map]
    exact List.map_congr_left fun r _ => (congrArg (·.get c) (htally r)).trans (Run.lose_get_of_ne _ r hc)

/-- A loss stops a counter where a run's lost pieces come to the maximum (R146). -/
theorem State.lossSaturates_iff (hk : ∀ r ∈ s.runs.records, r.countersKept) :
    s.lossSaturates s.tracker.ring = true ↔
      ∃ r ∈ s.runs.records, r.saturated = false ∧ Config.tallyMax ≤ r.tally.lost + s.boardSlots r.seq := by
  unfold State.lossSaturates
  rw [List.any_eq_true]
  refine exists_congr fun r => and_congr_right fun hr => ?_
  have hs : (r.lose (boardsOf s.tracker.ring r.seq)).saturated = true ↔
      r.saturated = true ∨ Config.tallyMax ≤ r.tally.lost + s.boardSlots r.seq := Run.lose_saturated (hk r hr) _
  rw [Bool.and_eq_true_iff, hs]
  cases r.saturated <;> simp

/-! ## A running wave -/

/-- The alert condition stays where a cause is raised. -/
theorem State.raise_alert (h : s.alert = true) (x : Cause) : (s.raise x).alert = true := by
  obtain ⟨hpend, hmask⟩ : (∀ n, s.ctl.pendingCauses.getLsbD n = true → (s.raise x).ctl.pendingCauses.getLsbD n = true)
      ∧ (s.raise x).ctl.alertMask = s.ctl.alertMask := by
    unfold State.raise
    split
    · exact ⟨fun _ => id, rfl⟩
    · obtain ⟨-, k1, k2, -⟩ := ControlPort.report_keeps { s.ctl with pendingCauses := s.ctl.pendingCauses ||| x.bit } causeKind
        (causePayload x (s.ctl.pendingCauses ||| x.bit))
      exact ⟨fun n hn => k1 n (by simp [hn]), k2⟩
  unfold State.alert at h ⊢
  rw [bne_iff_ne] at h ⊢
  intro hz
  refine h (BitVec.eq_of_getLsbD_eq fun i hi => ?_)
  have := congrArg (·.getLsbD i) hz
  simp only [BitVec.getLsbD_and, hmask] at this ⊢
  cases hp : s.ctl.pendingCauses.getLsbD i with
  | false => simp
  | true => simpa [hpend i hp] using this

theorem judgeWave_of_some {e : OutputEntry} (he : e.function = .beacon) (w : Wave) : judgeWave true e (some w) = some w := by
  simp [judgeWave, he]

/-- A judged output keeps its force, and its wave where it is a BEACON that runs on. -/
theorem State.judge_keepsOutput (s : State) (o : Fin 8) :
    (s.judge.field.outputs.get o).force = (s.field.outputs.get o).force
      ∧ (s.judge.field.outputs.get o).pulse = (s.field.outputs.get o).pulse
      ∧ ((s.tables.outputs.get o).function = .beacon → s.alert = true → ∀ w, (s.field.outputs.get o).wave = some w →
          (s.judge.field.outputs.get o).wave = some w) := by
  obtain ⟨h1, h2⟩ := s.judge_output o
  refine ⟨h1, h2, fun hb ha w hw => ?_⟩
  have : (s.judge.field.outputs.get o).wave = judgeWave s.alert (s.tables.outputs.get o) (s.field.outputs.get o).wave :=
    congrArg Output.wave (Bank.get_ofFn _ o)
  rw [this, ha, hw, judgeWave_of_some hb]

/-- So does a raise. -/
theorem State.raise_keepsOutput (s : State) (x : Cause) (o : Fin 8) :
    ((s.raise x).field.outputs.get o).force = (s.field.outputs.get o).force
      ∧ ((s.tables.outputs.get o).function = .beacon → s.alert = true → ∀ w, (s.field.outputs.get o).wave = some w →
          ((s.raise x).field.outputs.get o).wave = some w) := by
  have hal := fun h => State.raise_alert (s := s) h x
  unfold State.raise at hal ⊢
  split
  · exact ⟨rfl, fun _ _ _ hw => hw⟩
  · next hx =>
    rw [if_neg hx] at hal
    obtain ⟨h1, -, h3⟩ := State.judge_keepsOutput
      { s with
        ctl :=
          ControlPort.report { s.ctl with pendingCauses := s.ctl.pendingCauses ||| x.bit } causeKind
            (causePayload x (s.ctl.pendingCauses ||| x.bit)) } o
    exact ⟨h1, fun hb ha w hw => h3 hb (hal ha) w hw⟩

/-! ## The reports that wait -/

theorem ControlPort.offer_prefix (c : ControlPort) (k : Byte) (p : List Byte) : c.reports <+: (c.offer k p).reports := by
  unfold ControlPort.offer
  dsimp only
  split
  · exact List.prefix_append ..
  · exact List.prefix_rfl

theorem ControlPort.report_prefix (c : ControlPort) (k : Byte) (p : List Byte) : c.reports <+: (c.report k p).reports := by
  unfold ControlPort.report
  dsimp only
  split
  · exact c.offer_prefix k p
  · exact (c.offer_prefix k p).trans (ControlPort.offer_prefix
      { c.offer k p with pendingCauses := (c.offer k p).pendingCauses ||| Cause.reportOverflow.bit } _ _)

/-- A raise leaves the reports that wait at the front of the queue. -/
theorem State.raise_prefix (s : State) (x : Cause) : s.ctl.reports <+: (s.raise x).ctl.reports := by
  unfold State.raise
  split
  · exact List.prefix_rfl
  · exact ControlPort.report_prefix { s.ctl with pendingCauses := s.ctl.pendingCauses ||| x.bit } _ _

/-! ## The line clear -/

/-- The outputs of a line clear: no pulse runs, forces stay, and so do waves that run. -/
theorem State.clearLine_outputs (s : State) (o : Fin 8) :
    (s.clearLine.field.outputs.get o).pulse = none
      ∧ (s.clearLine.field.outputs.get o).force = (s.field.outputs.get o).force
      ∧ ∀ w, s.outputsJudged → (s.field.outputs.get o).wave = some w → (s.clearLine.field.outputs.get o).wave = some w := by
  obtain ⟨hb, -⟩ := s.beforeClear_keeps
  obtain ⟨hk, -⟩ := s.beforeClear.emptyRing_keeps
  have hfield : s.beforeClear.field = s.field := (congrArg State.field hb :)
  have htab : s.beforeClear.tables = s.tables := (congrArg State.tables hb :)
  have hctl := s.beforeClear_ctl
  -- The ring emptied: TALLY_SATURATED raised or not.
  have hempty : (s.beforeClear.emptyRing.field.outputs.get o).force = (s.field.outputs.get o).force
      ∧ ((s.tables.outputs.get o).function = .beacon → s.alert = true →
          s.beforeClear.emptyRing.alert = true ∧ ∀ w, (s.field.outputs.get o).wave = some w →
            (s.beforeClear.emptyRing.field.outputs.get o).wave = some w) := by
    obtain ⟨h1, h2⟩ := s.beforeClear.emptyRing_told
    have hal : s.beforeClear.alert = s.alert := by
      unfold State.alert
      rw [hctl]
    have hal' : s.beforeClear.emptyRing.alert = s.beforeClear.lossTold.alert := by
      unfold State.alert
      rw [h1]
    rw [h2, hal']
    rcases s.beforeClear.lossTold_eq with e | e <;> rw [e]
    · rw [hfield, hal]
      exact ⟨rfl, fun _ ha => ⟨ha, fun _ hw => hw⟩⟩
    · obtain ⟨k1, k2⟩ := s.beforeClear.raise_keepsOutput .tallySaturated o
      rw [hfield] at k1 k2
      rw [htab, hal] at k2
      exact ⟨k1, fun hf ha => ⟨State.raise_alert (hal.trans ha) _, k2 hf ha⟩⟩
  obtain ⟨hforce, hwave⟩ := hempty
  have htab' : s.beforeClear.emptyRing.tables = s.tables := (congrArg State.tables hk :).trans htab
  rw [State.clearLine_eq]
  generalize s.beforeClear.emptyRing = v at *
  obtain ⟨j1, j2, j3⟩ := State.judge_keepsOutput
    (((v.setTracker Tracker.clear).stopSolving.dropLogs).setOutputs (v.field.outputs.map fun o => { o with pulse := none })) o
  have hget : (((v.setTracker Tracker.clear).stopSolving.dropLogs).setOutputs
      (v.field.outputs.map fun o => { o with pulse := none })).field.outputs.get o = { v.field.outputs.get o with pulse := none } :=
    Bank.get_map _ _ o
  rw [hget] at j1 j2 j3
  refine ⟨j2, j1.trans hforce, fun w hj hw => ?_⟩
  obtain ⟨hf, ha⟩ := (hj o).2.mp (by rw [hw]; rfl)
  obtain ⟨ha', hw'⟩ := hwave hf ha
  refine j3 ?_ ha' w (hw' w hw)
  show (v.tables.outputs.get o).function = _
  rw [htab']
  exact hf

/-- The pieces of the window, oldest first. -/
def State.offered (s : State) : List Slot := s.tracker.ring.filter fun x => decide (x.kind = .board ∧ x.console.window = .open)

/-- The withdrawals of a line clear at one console. -/
def Console.withdrawAll (l : List Slot) (c : Console) : Console :=
  l.foldl (fun c x => c.withdraw x.tag (withdrawFrame x.tag .cleared)) c

theorem State.withdrawCleared_console (s : State) (c : Fin 4) :
    s.withdrawCleared.consoles.get c =
      if (s.consoles.get c).subscribed then (s.consoles.get c).withdrawAll s.offered else s.consoles.get c := by
  have hf : (s.tracker.ring.filter fun x => x.kind == .board && x.console.window == .open) = s.offered := by
    unfold State.offered
    refine List.filter_congr fun x _ => ?_
    rw [Bool.eq_iff_iff, Bool.and_eq_true_iff, decide_eq_true_iff, beq_iff_eq, beq_iff_eq]
  unfold State.withdrawCleared
  rw [hf]
  generalize s.offered = l at hf ⊢
  clear hf
  unfold Console.withdrawAll
  induction l generalizing s with
  | nil => simp
  | cons x l ih =>
    rw [List.foldl_cons, ih]
    have hget : (s.withdraw x.tag .cleared).consoles.get c =
        if (s.consoles.get c).subscribed then (s.consoles.get c).withdraw x.tag (withdrawFrame x.tag .cleared) else s.consoles.get c :=
      Bank.get_map _ _ c
    rw [hget]
    split
    · next hs =>
      have : ((s.consoles.get c).withdraw x.tag (withdrawFrame x.tag .cleared)).subscribed = true := by
        unfold Console.withdraw Console.joinOffer
        split <;> exact hs
      rw [if_pos this, List.foldl_cons]
    · rfl

/-- A withdrawal leaves no PROPOSAL for its tag, adds none, and changes the queue alone, or the count. -/
theorem Console.withdraw_eq (c : Console) (tag : Nat) (f : Frame) :
    c.withdraw tag f =
      if (c.queue.filter fun g => !g.isProposalFor tag).countP ConsoleFrame.isOffer < 32 then
        { c with queue := (c.queue.filter fun g => !g.isProposalFor tag) ++ [.withdraw tag f] }
      else { c with queue := c.queue.filter fun g => !g.isProposalFor tag, dropped := min (c.dropped + 1) 65535 } := rfl

theorem Console.withdrawAll_keeps (l : List Slot) (c : Console) :
    (c.withdrawAll l).subscribed = c.subscribed ∧ (c.withdrawAll l).sending = c.sending
      ∧ (∀ f ∈ (c.withdrawAll l).queue, f ∈ c.queue ∨ ∀ tag, f.isProposalFor tag = false)
      ∧ (∀ x ∈ l, ∀ f ∈ (c.withdrawAll l).queue, f.isProposalFor x.tag = false) := by
  induction l generalizing c with
  | nil => exact ⟨rfl, rfl, fun f hf => .inl hf, fun x hx => absurd hx List.not_mem_nil⟩
  | cons x l ih =>
    obtain ⟨h1, h2, h3, h4⟩ := ih (c.withdraw x.tag (withdrawFrame x.tag .cleared))
    have hw : (c.withdraw x.tag (withdrawFrame x.tag .cleared)).subscribed = c.subscribed
        ∧ (c.withdraw x.tag (withdrawFrame x.tag .cleared)).sending = c.sending
        ∧ ∀ f ∈ (c.withdraw x.tag (withdrawFrame x.tag .cleared)).queue,
            (f ∈ c.queue ∧ f.isProposalFor x.tag = false) ∨ ∀ tag, f.isProposalFor tag = false := by
      rw [Console.withdraw_eq]
      have hmem : ∀ f ∈ c.queue.filter fun g => !g.isProposalFor x.tag, f ∈ c.queue ∧ f.isProposalFor x.tag = false := fun f hf => by
        obtain ⟨m, hp⟩ := List.mem_filter.mp hf
        exact ⟨m, by simpa using hp⟩
      split
      · refine ⟨rfl, rfl, fun f hf => ?_⟩
        rcases List.mem_append.mp hf with hf | hf
        · exact .inl (hmem f hf)
        · rw [List.mem_singleton.mp hf]
          exact .inr fun _ => rfl
      · exact ⟨rfl, rfl, fun f hf => .inl (hmem f hf)⟩
    obtain ⟨w1, w2, w3⟩ := hw
    refine ⟨h1.trans w1, h2.trans w2, fun f hf => ?_, fun y hy f hf => ?_⟩
    · rcases h3 f hf with hf | hf
      · exact (w3 f hf).imp_left And.left
      · exact .inr hf
    · rcases List.mem_cons.mp hy with rfl | hy
      · rcases h3 f hf with hf | hf
        · exact (w3 f hf).elim And.right fun h => h _
        · exact hf _
      · exact h4 y hy f hf

/-- With room for every withdrawal, each joins the tail. -/
theorem Console.withdrawAll_eq (l : List Slot) (c : Console) (h : c.offersWaiting + l.length ≤ 32) :
    c.withdrawAll l =
      { c with queue := (c.queue.filter fun f => l.all fun x => !f.isProposalFor x.tag)
          ++ l.map fun x => .withdraw x.tag (withdrawFrame x.tag .cleared) } := by
  induction l generalizing c with
  | nil =>
    show c = _
    simp
  | cons x l ih =>
    have hlen : (x :: l).length = l.length + 1 := rfl
    have hoff : c.offersWaiting = c.queue.countP ConsoleFrame.isOffer := rfl
    have hle : (c.queue.filter fun g => !g.isProposalFor x.tag).countP ConsoleFrame.isOffer ≤ c.queue.countP ConsoleFrame.isOffer :=
      List.filter_sublist.countP_le
    show (c.withdraw x.tag _).withdrawAll l = _
    rw [Console.withdraw_eq, if_pos (by omega), ih _ (by
      show ((c.queue.filter fun g => !g.isProposalFor x.tag) ++ [ConsoleFrame.withdraw x.tag _]).countP ConsoleFrame.isOffer + _ ≤ 32
      rw [List.countP_append, List.countP_singleton]
      simp only [ConsoleFrame.isOffer, if_true]
      omega)]
    simp only [List.filter_append, List.filter_filter, List.all_cons, List.map_cons, List.append_assoc]
    congr 1
    refine congrArg₂ (· ++ ·) ?_ ?_
    · refine List.filter_congr fun f _ => ?_
      rw [Bool.and_comm]
    · have hnone : ∀ y, (ConsoleFrame.withdraw x.tag (withdrawFrame x.tag .cleared)).isProposalFor y = false := fun _ => rfl
      simp [hnone]

/-- Settles O5: the line clear by its stages, each block as its stage leaves it. -/
theorem lineClearEmptiesTheLine : Obligations.LineClearEmptiesTheLine := by
  intro ft s hi h
  obtain ⟨htab, -⟩ := s.runsKept_iff.mp hi.runs
  have hk : ∀ r ∈ s.runs.records, r.countersKept := fun r hr => (htab.each r hr).2.2
  have hexec : exec (.lineClear ft []) s = .next ((s.received .control []).clearLine.ok lineClearKind ft []) := by
    rw [exec_eq_after, State.after_lineClear]
    exact congrArg _ (State.request_serving h _ _ _ _ _)
  rw [hexec]
  obtain ⟨ht, hsol, hlane, hsaw, htables, hstore, hscan, hin, hlinks, hclock, hruns, hcon⟩ := (s.received .control []).clearLine_keeps
  obtain ⟨hrep, -⟩ := (s.received .control []).clearLine_port
  have hout := (s.received .control []).clearLine_outputs
  have hctl := (s.received .control []).clearLine_ctl
  have hbctl := (s.received .control []).beforeClear_ctl
  have hcause := (s.received .control []).beforeClear.raise_causeRaised .tallySaturated
  have hpre := (s.received .control []).beforeClear.raise_prefix .tallySaturated
  have hjudged : (s.received .control []).clearLine.outputsJudged := State.judge_outputsJudged _
  have hwith := (s.received .control []).withdrawCleared_console
  have hlost := State.ringLost_of_emptied (s := s.received .control []) hk (by rw [ht]) hruns
  have hsat : (s.received .control []).lossSaturates (s.received .control []).tracker.ring = true ↔
      ∃ r ∈ s.runs.records, r.saturated = false ∧ Config.tallyMax ≤ r.tally.lost + s.boardSlots r.seq :=
    State.lossSaturates_iff (s := s.received .control []) hk
  obtain ⟨hrep', hmask, -⟩ := (s.received .control []).beforeClear.raise_port .tallySaturated
  rw [hbctl] at hcause hpre hrep' hmask
  generalize (s.received .control []).beforeClear.raise .tallySaturated = v at *
  generalize (s.received .control []).clearLine = t at *
  refine ⟨_, rfl, hlost, by rw [show (t.ok lineClearKind ft []).tracker = t.tracker from rfl, ht]; rfl, congrArg Tracker.pos ht,
    congrArg Tracker.lastAdvance ht, hsol, hlane, hsaw, htables, hstore, hscan, hout, State.ok_outputsJudged hjudged _ _ _, hin,
    hlinks, hclock, fun c => ?consoles, ?mask, ?reports, congrArg (· ++ [_]) hrep, ?causes⟩
  case consoles =>
    have hc : (t.ok lineClearKind ft []).consoles.get c =
        if (s.consoles.get c).subscribed then (s.consoles.get c).withdrawAll s.offered else s.consoles.get c :=
      (congrArg (Bank.get · c) hcon).trans (hwith c)
    rw [hc]
    obtain ⟨w1, w2, -, w4⟩ := (s.consoles.get c).withdrawAll_keeps s.offered
    cases hs : (s.consoles.get c).subscribed with
    | true =>
      refine ⟨w1.trans hs, w2, nofun, fun _ => ⟨w4, fun hroom => ?_⟩⟩
      exact Console.withdrawAll_eq _ _ hroom
    | false => exact ⟨hs, rfl, fun _ => rfl, nofun⟩
  case mask =>
    show t.ctl.alertMask = _
    rw [hctl]
    split
    · exact hmask
    · rfl
  case reports =>
    show _ <+: t.ctl.reports
    rw [hctl]
    split
    · exact hpre
    · exact List.prefix_rfl
  case causes =>
    have hport : ∀ u : ControlPort, u.replies = s.ctl.replies → t.ctl = u →
        { (t.ok lineClearKind ft []).ctl with replies := s.ctl.replies } = u := by
      rintro u hu rfl
      rw [← hu]
      rfl
    by_cases hl : (s.received .control []).lossSaturates (s.received .control []).tracker.ring = true
    · rw [if_pos hl] at hctl
      rw [if_pos (hsat.mp hl), hport _ hrep' hctl]
      exact hcause
    · rw [if_neg hl] at hctl
      rw [if_neg (mt hsat.mpr hl)]
      exact hport _ rfl hctl

/-! ## The restart -/

/-- What a raise does, to the port alone. -/
def ControlPort.raised (x : Cause) (c : ControlPort) : ControlPort :=
  if c.pendingCauses.getLsbD x.number.val then c
  else
    ControlPort.report { c with pendingCauses := c.pendingCauses ||| x.bit } causeKind (causePayload x (c.pendingCauses ||| x.bit))

/-- A clear cause raised where a report has room, with the set, the number and the queue worked out. -/
theorem ControlPort.raised_to {c : ControlPort} {x : Cause} {p p' : CauseSet} {n n' : Nat} {r r' : List Frame}
    (hp : c.pendingCauses = p) (hn : c.nextReport = n) (hr : c.reports = r)
    (h : p.getLsbD x.number.val = false ∧ r.length < 64
      ∧ (p ||| x.bit, (n + 1) % 256, r ++ [{ kind := 0xE3, tag := u8 n, payload := u8 x.number.val :: u16 (p ||| x.bit).toNat }])
        = (p', n', r')) : c.raised x = { c with pendingCauses := p', nextReport := n', reports := r' } := by
  subst hp hn hr
  obtain ⟨hx, hlen, he⟩ := h
  simp only [Prod.mk.injEq] at he
  obtain ⟨h1, h2, h3⟩ := he
  have hlen' : c.reports.length < Config.reportPlaces := hlen
  subst h1 h2 h3
  unfold ControlPort.raised
  rw [hx, if_neg Bool.false_ne_true, ControlPort.report]
  dsimp only
  rw [if_pos (by simp [hlen']), ControlPort.offer]
  dsimp only
  rw [if_pos hlen']
  rfl

/-- The CAUSE reports of a restart. -/
def offlineReport : Frame := { kind := 0xE3, tag := 0, payload := [5, 0, 0x20] }

def inhibitReport : Frame := { kind := 0xE3, tag := 1, payload := [7, 0, 0xA0] }

/-- The port of a restart with the causes that become pending, numbered from 0. -/
theorem ControlPort.restart_raised (c : ControlPort) :
    c.restart.raised .moduleOffline = { c.restart with pendingCauses := 0x20, nextReport := 1, reports := [offlineReport] }
      ∧ (c.restart.raised .moduleOffline).raised .inhibitActive =
        { c.restart with pendingCauses := 0xA0, nextReport := 2, reports := [offlineReport, inhibitReport] }
      ∧ (c.restart.raised .moduleOffline).raised .tallySaturated =
        { c.restart with
          pendingCauses := 0x2020
          nextReport := 2
          reports := [offlineReport, { kind := 0xE3, tag := 1, payload := 13 :: u16 0x2020 }] }
      ∧ ((c.restart.raised .moduleOffline).raised .inhibitActive).raised .tallySaturated =
        { c.restart with
          pendingCauses := 0x20A0
          nextReport := 3
          reports := [offlineReport, inhibitReport, { kind := 0xE3, tag := 2, payload := 13 :: u16 0x20A0 }] } := by
  have h1 : c.restart.raised .moduleOffline = { c.restart with pendingCauses := 0x20, nextReport := 1, reports := [offlineReport] } :=
    ControlPort.raised_to (p := 0) (n := 0) (r := []) rfl rfl rfl (by decide)
  have h2 : (c.restart.raised .moduleOffline).raised .inhibitActive =
      { c.restart with pendingCauses := 0xA0, nextReport := 2, reports := [offlineReport, inhibitReport] } := by
    rw [h1]
    exact ControlPort.raised_to (p := 0x20) (n := 1) (r := [offlineReport]) rfl rfl rfl (by decide)
  refine ⟨h1, h2, ?_, ?_⟩
  · rw [h1]
    exact ControlPort.raised_to (p := 0x20) (n := 1) (r := [offlineReport]) rfl rfl rfl (by decide)
  · rw [h2]
    exact ControlPort.raised_to (p := 0xA0) (n := 2) (r := [offlineReport, inhibitReport]) rfl rfl rfl (by decide)

theorem State.raise_ctl (s : State) (x : Cause) : (s.raise x).ctl = s.ctl.raised x := by
  unfold State.raise ControlPort.raised State.isPending
  split <;> rfl

/-- The heads of a restart are UP or DISABLED: none is DOWN. -/
theorem State.restartBlocks_headDown (s : State) : s.restartBlocks.headDown = false := by
  refine Bool.eq_false_iff.mpr fun h => ?_
  obtain ⟨i, hi⟩ := s.restartBlocks.headDown_iff.mp h
  have : s.restartBlocks.scan.heads.get i = freshHead (s.tables.heads.get i) := Bank.get_map _ _ i
  rw [this] at hi
  unfold freshHead at hi
  split at hi <;> cases hi

/-- With a module in the count, one is OFFLINE. -/
theorem State.restartBlocks_moduleOffline (h : 0 < s.tables.sawBus.modules) : s.restartBlocks.moduleOffline = true := by
  refine s.restartBlocks.moduleOffline_iff.mpr ⟨0, h, ?_⟩
  exact congrArg Module.online (Bank.get_fill _ (0 : Fin 2))

/-- The control port after a restart's level causes: MODULE_OFFLINE, then INHIBIT_ACTIVE where the input is active. -/
theorem State.restartLevels_ctl (h : 0 < s.tables.sawBus.modules) :
    s.restartBlocks.raiseLevels.ctl =
      (if s.inputActive .trimInhibit then (s.ctl.restart.raised .moduleOffline).raised .inhibitActive
       else s.ctl.restart.raised .moduleOffline) := by
  unfold State.raiseLevels
  dsimp only
  rw [s.restartBlocks_headDown, if_neg Bool.false_ne_true, State.restartBlocks_moduleOffline h, if_pos rfl]
  have hin : (s.restartBlocks.raise .moduleOffline).inhibitActive = s.inputActive .trimInhibit := by
    unfold State.inhibitActive State.inputActive
    rw [State.raise_tables, (s.restartBlocks.raise_keeps .moduleOffline).2]
    rfl
  rw [hin]
  split
  · rw [State.raise_ctl, State.raise_ctl]
    rfl
  · exact State.raise_ctl _ _

/-- The causes pending after a restart, INHIBIT_ACTIVE and TALLY_SATURATED among them or not. -/
def restartPending : Bool → Bool → CauseSet
  | false, false => 0x20
  | true, false => 0xA0
  | false, true => 0x2020
  | true, true => 0x20A0

theorem restartPending_of_ne (a b : Bool) (c : Cause) (h1 : c ≠ .moduleOffline) (h2 : c ≠ .inhibitActive) (h3 : c ≠ .tallySaturated) :
    (restartPending a b).getLsbD c.number.val = false := by
  cases c with
  | moduleOffline => exact absurd rfl h1
  | inhibitActive => exact absurd rfl h2
  | tallySaturated => exact absurd rfl h3
  | _ => cases a <;> cases b <;> decide

/-- Their CAUSE reports. -/
def restartReports : Bool → Bool → List Frame
  | false, false => [offlineReport]
  | true, false => [offlineReport, inhibitReport]
  | false, true => [offlineReport, { kind := 0xE3, tag := 1, payload := 13 :: u16 0x2020 }]
  | true, true => [offlineReport, inhibitReport, { kind := 0xE3, tag := 2, payload := 13 :: u16 0x20A0 }]

/-- Settles O7: a restart by its stages, its port computed from the port's own part. -/
theorem restartResetsEveryBlock : Obligations.RestartResetsEveryBlock := by
  intro s hi hproc hreply
  obtain ⟨htab, -⟩ := s.runsKept_iff.mp hi.runs
  have hk : ∀ r ∈ s.runs.records, r.countersKept := fun r hr => (htab.each r hr).2.2
  have hdue : s.restartDue = true := by
    unfold State.restartDue
    rw [hproc]
    simpa [restartKind] using hreply
  have hmod : 0 < s.tables.sawBus.modules := by
    obtain ⟨hv, hm⟩ := hi.geometry
    have := (s.geo.valid_iff.mp hv).1
    rw [hm]
    unfold Geometry.modules
    omega
  have hexec : exec .restartAnnounced s = .next s.announceRestart := by
    rw [exec_eq_after, State.after_restartAnnounced, if_pos hdue]
  rw [hexec]
  obtain ⟨ht, hscan, hsol, htables, hstore, hcon, hsaw, hlane, hruns, hfield, hlinks, hctl, -⟩ := s.announceRestart_keeps
  obtain ⟨hrep, hin, hmask, hrate, -⟩ := s.announceRestart_port
  have hport : s.restartBlocks.raiseLevels.lossTold.ctl =
      if s.restartBlocks.raiseLevels.lossSaturates s.restartBlocks.raiseLevels.tracker.ring then
        s.restartBlocks.raiseLevels.ctl.raised .tallySaturated
      else s.restartBlocks.raiseLevels.ctl := by
    unfold State.lossTold
    split
    · exact State.raise_ctl _ _
    · rfl
  rw [hport, State.restartLevels_ctl hmod] at hctl
  obtain ⟨c1, c2, c3, c4⟩ := s.ctl.restart_raised
  rw [apply_ite (ControlPort.raised .tallySaturated), c4, c3, c2, c1] at hctl
  clear c1 c2 c3 c4
  generalize s.restartBlocks.raiseLevels.lossSaturates s.restartBlocks.raiseLevels.tracker.ring = sat at hctl
  have hlost := State.ringLost_of_emptied (t := s.announceRestart) hk (by rw [ht]) hruns
  generalize s.announceRestart = t at *
  refine ⟨t, rfl, hlost, by rw [ht]; rfl, by rw [hsol], by rw [hlane], fun m => ?_, by rw [hsaw]; rfl, by rw [hsaw]; rfl, fun c => ?_,
    fun h => ?_, by rw [hscan]; rfl, htables, by rw [hfield], ?_, fun o => ?_, ?_, fun l => ?_, ?_⟩
  · rw [hsaw]
    exact Bank.get_fill _ m
  · rw [hcon]
    exact Bank.get_map _ _ c
  · rw [hscan]
    exact Bank.get_map _ _ h
  · rw [hstore]
    unfold Store.restart Store.stopSave
    cases s.store.activity <;> rfl
  · rw [hfield]
    exact Bank.get_fill _ o
  · rw [hrate, hmask, hin, hrep, hctl]
    cases s.inputActive .trimInhibit <;> cases sat <;> rfl
  · rw [hlinks, Bank.get_map]
  · obtain ⟨hp, hr, hn⟩ : t.ctl.pendingCauses = restartPending (s.inputActive .trimInhibit) sat
        ∧ t.ctl.reports = restartReports (s.inputActive .trimInhibit) sat
        ∧ t.ctl.nextReport = (restartReports (s.inputActive .trimInhibit) sat).length := by
      rw [hctl]
      cases s.inputActive .trimInhibit <;> cases sat <;> exact ⟨rfl, rfl, rfl⟩
    unfold State.isPending
    rw [hp, hr, hn, show (0 < s.tables.sawBus.modules) = True from eq_true hmod]
    cases s.inputActive .trimInhibit <;> cases sat <;> exact ⟨by decide, by decide, by decide, rfl, restartPending_of_ne _ _⟩

end

end Sys2Proof.Machine


/-! PROOF. Every table entry that passes its checks is read back from its bytes (section 11.6; O8). -/

namespace Sys2Proof.Machine

-- One proof after the other: together they would ask for more threads than the check has memory for.
set_option Elab.async false

/-! ## Numbers, flags and codes -/

theorem toNat_u8 {n : Nat} (h : n < 256) : (u8 n).toNat = n := by
  unfold u8
  rw [BitVec.toNat_ofNat]
  exact Nat.mod_eq_of_lt h

theorem within_iff (lo hi n : Nat) : within lo hi n = true ↔ lo ≤ n ∧ n ≤ hi := by simp [within]

theorem decodeWord_u16 {n : Nat} (h : n < 65536) : decodeWord (u16 n) = some n := congrArg some (word_u8 h)

theorem readYesNo_yesNo (b : Bool) : readYesNo (yesNo b) = some b := by cases b <;> rfl

theorem InputFunction.decode_code (f : InputFunction) : InputFunction.decode f.code = some f := by cases f <;> rfl

theorem Polarity.decode_code (p : Polarity) : Polarity.decode p.code = some p := by cases p <;> rfl

theorem OutputFunction.decode_code (f : OutputFunction) : OutputFunction.decode f.code = some f := by cases f <;> rfl

theorem BeaconRate.decode_code (r : BeaconRate) : BeaconRate.decode r.code = some r := by cases r <;> rfl

theorem Fallback.decode_code (f : Fallback) : Fallback.decode f.code = some f := by cases f <;> rfl

theorem TableKind.ofCode_code (k : TableKind) : TableKind.ofCode k.code = some k := by cases k <;> rfl

theorem place?_val {n : Nat} (i : Fin n) : place? n i.val = some i := place?_of_lt i.isLt

/-! ## Banks -/

theorem pieces_flatMap {α : Type} {k : Nat} {enc : α → List Byte} (l : List α) (hk : ∀ x ∈ l, (enc x).length = k) :
    pieces k l.length (l.flatMap enc) = l.map enc := by
  induction l with
  | nil => rfl
  | cons x l ih =>
    have hx := hk x List.mem_cons_self
    show (enc x ++ l.flatMap enc).take k :: pieces k l.length ((enc x ++ l.flatMap enc).drop k) = _
    rw [← hx, List.take_left, List.drop_left, hx, ih fun y hy => hk y (List.mem_cons_of_mem _ hy)]
    rfl

theorem mapM_map_eq_some {α β : Type} {enc : α → β} {dec : β → Option α} (l : List α) (h : ∀ x ∈ l, dec (enc x) = some x) :
    (l.map enc).mapM dec = some l := by
  induction l with
  | nil => rfl
  | cons x l ih =>
    rw [List.map_cons, List.mapM_cons, h x List.mem_cons_self, ih fun y hy => h y (List.mem_cons_of_mem _ hy)]
    rfl

/-- A bank of things that are each read back from `k` bytes is read back from its bytes. -/
theorem decodeBank_flatMap {α : Type} {n k : Nat} {enc : α → List Byte} {dec : List Byte → Option α} (b : Bank n α)
    (hk : ∀ x ∈ b.items, (enc x).length = k) (hd : ∀ x ∈ b.items, dec (enc x) = some x) :
    decodeBank n k dec (b.items.flatMap enc) = some b := by
  obtain ⟨items, rfl⟩ := b
  unfold decodeBank
  rw [pieces_flatMap items hk, mapM_map_eq_some items hd]
  exact dif_pos rfl

theorem length_flatMap_eq {α : Type} {k : Nat} {enc : α → List Byte} {l : List α} (hk : ∀ x ∈ l, (enc x).length = k) :
    (l.flatMap enc).length = l.length * k := by
  rw [List.length_flatMap, List.map_congr_left hk, List.map_const', List.sum_replicate, smul_eq_mul]

/-! ## The entries of each kind -/

theorem Geometry.decode_encode {g : Geometry} (h : g.valid = true) : Geometry.decode g.encode = some g := by
  obtain ⟨-, h1, -, h2, -, -, h3, -, h4, -, h5, -, h6, h7, h8, h9⟩ := g.valid_iff.mp h
  simp [Geometry.encode, Geometry.decode, u16, toNat_u8 (n := g.saws) (by omega), toNat_u8 (n := g.pitch) (by omega),
    word_u8 (n := g.lugPitch) (by omega), word_u8 (n := g.halfWidth) (by omega), word_u8 (n := g.stopTime) (by omega),
    toNat_u8 (n := g.sd) (by omega), toNat_u8 (n := g.gw) (by omega), toNat_u8 (n := g.cm) (by omega),
    toNat_u8 (n := g.ex) (by omega)]

theorem HeadEntry.decode_encode {g : Geometry} {e : HeadEntry} (h : e.valid g = true) : HeadEntry.decode e.encode = some e := by
  simp only [HeadEntry.valid, Bool.and_eq_true, within_iff] at h
  obtain ⟨⟨⟨-, hb⟩, -, hs⟩, -⟩ := h
  simp [HeadEntry.encode, HeadEntry.decode, readYesNo_yesNo, toNat_u8 (n := e.base) (by omega), toNat_u8 (n := e.span) (by omega)]

theorem GradeRecord.decode_encode {r : GradeRecord} (h : r.valid = true) : GradeRecord.decode r.encode = some r := by
  simp only [GradeRecord.valid, Bool.and_eq_true, within_iff] at h
  obtain ⟨⟨⟨⟨⟨-, h1⟩, -, h2⟩, -, h3⟩, -, h4⟩, -, h5⟩ := h
  simp [GradeRecord.encode, GradeRecord.decode, u16, readYesNo_yesNo, word_u8 (n := r.minThickness) (by omega),
    word_u8 (n := r.minWidth) (by omega), word_u8 (n := r.maxWane) (by omega), toNat_u8 (n := r.maxKnot) (by omega),
    toNat_u8 (n := r.allowance) (by omega)]

/-- A name of printable characters is read back from its 12 bytes. -/
theorem decodeName_encodeName {name : List Byte} (h : name.all printable = true) : decodeName (encodeName name) = some name := by
  have hne : ∀ b ∈ name, (b != 0) = true := fun b hb => by
    have := List.all_eq_true.mp h b hb
    rw [bne_iff_ne]
    rintro rfl
    exact absurd this (by decide)
  have htake : (encodeName name).takeWhile (· != 0) = name := by
    unfold encodeName
    rw [List.takeWhile_append_of_pos hne, List.takeWhile_replicate]
    simp
  unfold decodeName
  dsimp only
  rw [htake, h, encodeName, List.drop_left]
  simp

theorem encodeName_length {name : List Byte} (h : name.length ≤ 12) : (encodeName name).length = 12 := by
  rw [encodeName, List.length_append, List.length_replicate]
  omega

/-- The bytes of a product after its name. -/
def Product.encodeFields (p : Product) : List Byte :=
  [u8 p.thickness] ++ u16 p.width ++ [u8 p.gradeSet, u8 p.priceSet, u8 p.minLength, u8 p.unseen, p.fallback.code]
    ++ u16 p.sedMin ++ u16 p.sedMax ++ [u8 p.minSlices, yesNo p.kickOnFault]

theorem Product.encode_eq (p : Product) : p.encode = encodeName p.name ++ p.encodeFields := by
  simp [Product.encode, Product.encodeFields]

theorem Product.decode_encode {p : Product} (h : p.valid = true) : Product.decode p.encode = some p := by
  simp only [Product.valid, Bool.and_eq_true, within_iff, decide_eq_true_eq] at h
  obtain ⟨⟨⟨⟨⟨⟨⟨⟨⟨⟨⟨hl, hp⟩, -, h1⟩, -, h2⟩, -, h3⟩, -, h4⟩, -, h5⟩, -, h6⟩, -, h7⟩, -, h8⟩, -, h9⟩, -⟩ := h
  have hlen := encodeName_length hl
  have htake : p.encode.take 12 = encodeName p.name := by rw [Product.encode_eq, ← hlen, List.take_left]
  have hdrop : p.encode.drop 12 = p.encodeFields := by rw [Product.encode_eq, ← hlen, List.drop_left]
  unfold Product.decode
  rw [htake, hdrop, decodeName_encodeName hp]
  simp [Product.encodeFields, u16, readYesNo_yesNo, Fallback.decode_code, toNat_u8 (n := p.thickness) (by omega), word_u8 (n := p.width) (by omega),
    toNat_u8 (n := p.gradeSet) (by omega), toNat_u8 (n := p.priceSet) (by omega), toNat_u8 (n := p.minLength) (by omega),
    toNat_u8 (n := p.unseen) (by omega), word_u8 (n := p.sedMin) (by omega), word_u8 (n := p.sedMax) (by omega),
    toNat_u8 (n := p.minSlices) (by omega)]

theorem LogClasses.decode_encode {c : LogClasses} (h : c.valid = true) : LogClasses.decode c.encode = some c := by
  simp only [LogClasses.valid, Bool.and_eq_true, within_iff, List.all_eq_true] at h
  obtain ⟨⟨hb, -⟩, -, hk⟩ := h
  have hlen : (c.bounds.items.flatMap u16).length = 14 := by
    rw [length_flatMap_eq (k := 2) fun _ _ => rfl, c.bounds.size]
  have hbank : decodeBank 7 2 decodeWord (c.bounds.items.flatMap u16) = some c.bounds :=
    decodeBank_flatMap c.bounds (fun _ _ => rfl) fun n hn => decodeWord_u16 (Nat.lt_of_le_of_lt (hb n hn).2 (by decide))
  unfold LogClasses.decode LogClasses.encode
  rw [← hlen, List.take_left, List.drop_left, hbank, decodeWord_u16 (by omega)]
  rfl

theorem InputEntry.decode_encode {e : InputEntry} (h : e.filter < 256) : InputEntry.decode e.encode = some e := by
  simp [InputEntry.encode, InputEntry.decode, InputFunction.decode_code, Polarity.decode_code, toNat_u8 h]

theorem OutputEntry.decode_encode {e : OutputEntry} (h : e.valid = true) : OutputEntry.decode e.encode = some e := by
  simp only [OutputEntry.valid, Bool.and_eq_true, within_iff] at h
  obtain ⟨⟨-, hw⟩, -, hg⟩ := h
  simp [OutputEntry.encode, OutputEntry.decode, OutputFunction.decode_code, BeaconRate.decode_code,
    toNat_u8 (n := e.width) (by omega), toNat_u8 (n := e.callGrade) (by omega)]

theorem SawBusEntry.decode_encode {g : Geometry} {e : SawBusEntry} (hg : g.valid = true) (h : e.valid g = true) :
    SawBusEntry.decode e.encode = some e := by
  simp only [SawBusEntry.valid, Bool.and_eq_true, within_iff, decide_eq_true_eq] at h
  obtain ⟨⟨-, ht⟩, hm⟩ := h
  have hs := (g.valid_iff.mp hg).2.1
  have hm' : e.modules < 256 := by
    rw [hm]
    unfold Geometry.modules
    omega
  simp [SawBusEntry.encode, SawBusEntry.decode, toNat_u8 hm', toNat_u8 (n := e.timeout) (by omega)]

/-! ## Every entry -/

theorem Entry.decode_encode {t : Tables} {e : Entry} (hg : t.geometry.valid = true) (h : t.admits e = true) :
    Entry.decode e.kind e.index e.encode = some e := by
  cases e with
  | geometry e => exact congrArg (Option.map Entry.geometry) (Geometry.decode_encode h)
  | logClasses e => exact congrArg (Option.map Entry.logClasses) (LogClasses.decode_encode h)
  | sawBus e => exact congrArg (Option.map Entry.sawBus) (SawBusEntry.decode_encode hg h)
  | head i e =>
    show (do pure (Entry.head (← place? 4 i.val) (← HeadEntry.decode e.encode))) = _
    rw [place?_val, HeadEntry.decode_encode h]
    rfl
  | gradeSet i e =>
    have hd : decodeBank 6 10 GradeRecord.decode (e.items.flatMap GradeRecord.encode) = some e :=
      decodeBank_flatMap e (fun _ _ => rfl) fun r hr => GradeRecord.decode_encode (List.all_eq_true.mp h r hr)
    show (do pure (Entry.gradeSet (← place? 4 i.val) (← decodeBank 6 10 GradeRecord.decode _))) = _
    rw [place?_val, show (Entry.gradeSet i e).encode = e.items.flatMap GradeRecord.encode from rfl, hd]
    rfl
  | priceRow i e =>
    have hd : decodeBank 15 2 decodeWord (e.items.flatMap u16) = some e :=
      decodeBank_flatMap e (fun _ _ => rfl) fun n hn =>
        decodeWord_u16 (Nat.lt_of_le_of_lt ((within_iff _ _ _).mp (List.all_eq_true.mp h n hn)).2 (by decide))
    show (do pure (Entry.priceRow (← place? 28 i.val) (← decodeBank 15 2 decodeWord _))) = _
    rw [place?_val, show (Entry.priceRow i e).encode = e.items.flatMap u16 from rfl, hd]
    rfl
  | product i e =>
    show (do pure (Entry.product (← place? 8 i.val) (← Product.decode e.encode))) = _
    rw [place?_val, Product.decode_encode h]
    rfl
  | input i e =>
    have hf : e.filter < 256 := by
      have h' := (Bool.and_eq_true_iff.mp h).1
      have := (within_iff _ _ _).mp h'
      omega
    show (do pure (Entry.input (← place? 8 i.val) (← InputEntry.decode e.encode))) = _
    rw [place?_val, InputEntry.decode_encode hf]
    rfl
  | output i e =>
    show (do pure (Entry.output (← place? 8 i.val) (← OutputEntry.decode e.encode))) = _
    rw [place?_val, OutputEntry.decode_encode h]
    rfl

theorem Entry.encode_length {t : Tables} {e : Entry} (h : t.admits e = true) : e.encode.length = e.kind.entryLength := by
  cases e with
  | gradeSet i e =>
    show (e.items.flatMap GradeRecord.encode).length = 60
    rw [length_flatMap_eq (k := 10) fun _ _ => rfl, e.size]
  | priceRow i e =>
    show (e.items.flatMap u16).length = 30
    rw [length_flatMap_eq (k := 2) fun _ _ => rfl, e.size]
  | product i e =>
    have hl : e.name.length ≤ 12 := by
      have h' : e.valid = true := h
      simp only [Product.valid, Bool.and_eq_true, decide_eq_true_eq] at h'
      simp only [h']
    have := encodeName_length hl
    show e.encode.length = 26
    simp [Product.encode, u16, this]
  | logClasses e =>
    show (e.bounds.items.flatMap u16 ++ u16 e.kicker).length = 16
    rw [List.length_append, length_flatMap_eq (k := 2) fun _ _ => rfl, e.bounds.size]
    rfl
  | _ => rfl

/-- Settles O8: each kind of entry is read back from its bytes. -/
theorem entryBytesReadBack : Obligations.EntryBytesReadBack := fun _ _ hg h =>
  ⟨Entry.decode_encode hg h, Entry.encode_length h, TableKind.ofCode_code _⟩

end Sys2Proof.Machine


/-! PROOF. The image memory: a save page by page, and the tables read back from the pages written (R71, R73, R76; O12, O14). -/

namespace Sys2Proof.Machine

-- One proof after the other: together they would ask for more threads than the check has memory for.
set_option Elab.async false

/-! ## Saves -/

/-- Settles O14: a save's begin and the end of each of its page writes. -/
theorem imageSavesPageByPage : Obligations.ImageSavesPageByPage := by
  refine ⟨fun ft s h hidle => ?begin, fun ft s h hidle => ?busy, fun job s hjob => ?complete, fun job s hjob hm => ?timeout⟩
  case begin =>
    rw [exec_eq_after, State.after_imageSave, show hasLength [] 0 = true from rfl, State.request_serving h, State.saveImage,
      show (s.received .control []).imageIdle = s.imageIdle from rfl, hidle]
    rfl
  case busy =>
    rw [exec_eq_after, State.after_imageSave, show hasLength [] 0 = true from rfl, State.request_serving h, State.saveImage,
      show (s.received .control []).imageIdle = s.imageIdle from rfl, hidle]
    rfl
  case complete =>
    rw [exec_eq_after, State.after_pageWriteComplete]
    refine congrArg Host.Outcome.next ?_
    show { s with store := s.store.pageDone } = _
    congr 1
    unfold Store.pageDone
    rw [hjob]
    rfl
  case timeout =>
    rw [exec_eq_after, State.after_pageWriteTimeout]
    refine ⟨_, rfl, ?_⟩
    have heq : s.pageTimedOut = (({ s with freeCount := s.freeCount + 1 } : State).setStore fun t =>
        { t with activity := .idle, status := .fault, memory := pageTorn s.freeCount t.memory job.image job.write }).raise .imageFault := by
      unfold State.pageTimedOut
      rw [hjob]
    rw [heq]
    refine ⟨?_, (State.raise_isPending _ _).1, ?_, ?_, fun a ha => ?_⟩
    · rw [State.raise_store]
      rfl
    · exact State.raise_tables _ _
    · exact State.raise_tracker _ _
    · rw [State.raise_store]
      show memRead (pageTorn s.freeCount s.store.memory job.image job.write) a = _
      unfold pageTorn
      split
      · exact memRead_pageLeftOpen_of_outside _ _ _ hm ha
      · rfl

/-! ## The tables' bytes -/

theorem flatMap_finRange_get {n : Nat} {α : Type} (b : Bank n α) (c : Fin n → α → Entry) (enc : α → List Byte)
    (h : ∀ i x, (c i x).encode = enc x) :
    ((List.finRange n).map fun i => c i (b.get i)).flatMap Entry.encode = b.items.flatMap enc := by
  rw [Bank.items_eq, List.flatMap_map, List.ofFn_eq_map, List.flatMap_map]
  simp only [h]

/-- The bytes of all tables, kind by kind. -/
def Tables.segments (t : Tables) : List (List Byte) :=
  [t.geometry.encode, t.heads.items.flatMap HeadEntry.encode, t.gradeSets.items.flatMap fun b => b.items.flatMap GradeRecord.encode,
    t.priceRows.items.flatMap fun b => b.items.flatMap u16, t.products.items.flatMap Product.encode, t.logClasses.encode,
    t.inputs.items.flatMap InputEntry.encode, t.outputs.items.flatMap OutputEntry.encode, t.sawBus.encode]

theorem Tables.encode_eq (t : Tables) : t.encode = t.segments.flatten := by
  unfold Tables.encode Tables.entries Tables.segments
  simp only [List.flatMap_append, List.flatten_cons, List.flatten_nil, List.append_nil, List.append_assoc,
    flatMap_finRange_get t.heads Entry.head HeadEntry.encode fun _ _ => rfl,
    flatMap_finRange_get t.gradeSets Entry.gradeSet (fun b => b.items.flatMap GradeRecord.encode) fun _ _ => rfl,
    flatMap_finRange_get t.priceRows Entry.priceRow (fun b => b.items.flatMap u16) fun _ _ => rfl,
    flatMap_finRange_get t.products Entry.product Product.encode fun _ _ => rfl,
    flatMap_finRange_get t.inputs Entry.input InputEntry.encode fun _ _ => rfl,
    flatMap_finRange_get t.outputs Entry.output OutputEntry.encode fun _ _ => rfl, List.flatMap_singleton]
  rfl

/-- Each entry of valid tables passes the checks against the tables themselves. -/
theorem Tables.valid_iff (t : Tables) : t.valid = true ↔ ∀ e ∈ t.entries, t.admits e = true := List.all_eq_true

theorem Tables.mem_entries (t : Tables) : Entry.geometry t.geometry ∈ t.entries ∧ (∀ i, Entry.head i (t.heads.get i) ∈ t.entries)
    ∧ (∀ i, Entry.gradeSet i (t.gradeSets.get i) ∈ t.entries) ∧ (∀ i, Entry.priceRow i (t.priceRows.get i) ∈ t.entries)
    ∧ (∀ i, Entry.product i (t.products.get i) ∈ t.entries) ∧ Entry.logClasses t.logClasses ∈ t.entries
    ∧ (∀ i, Entry.input i (t.inputs.get i) ∈ t.entries) ∧ (∀ i, Entry.output i (t.outputs.get i) ∈ t.entries)
    ∧ Entry.sawBus t.sawBus ∈ t.entries := by
  simp [Tables.entries]

/-- A thing of a bank is one of its places. -/
theorem Bank.exists_get {n : Nat} {α : Type} {b : Bank n α} {x : α} (h : x ∈ b.items) : ∃ i, b.get i = x := by
  rw [Bank.items_eq] at h
  exact (List.mem_ofFn' _ _).mp h

/-- A list cut at a place: the segment there and what follows it. -/
theorem segment_of_drop {l a r : List Byte} {k n : Nat} (h : l.drop k = a ++ r) (ha : a.length = n) :
    (l.drop k).take n = a ∧ l.drop (k + n) = r := by
  rw [← List.drop_drop, h, ← ha]
  exact ⟨List.take_left, List.drop_left⟩

section
variable {t : Tables} (h : t.valid = true)
include h

theorem Tables.admits_entry {e : Entry} (he : e ∈ t.entries) : t.admits e = true := t.valid_iff.mp h e he

theorem Tables.geometry_valid : t.geometry.valid = true := Tables.admits_entry h t.mem_entries.1

/-- The lengths of the tables' bytes, kind by kind (section 11.6). -/
theorem Tables.segment_lengths : t.segments.map List.length = [12, 16, 240, 840, 208, 16, 24, 32, 2] := by
  obtain ⟨-, -, -, -, mp, ml, -⟩ := t.mem_entries
  have hp : ∀ p ∈ t.products.items, p.encode.length = 26 := fun p hp => by
    obtain ⟨i, rfl⟩ := Bank.exists_get hp
    exact Entry.encode_length (Tables.admits_entry h (mp i))
  have hl : t.logClasses.encode.length = 16 := Entry.encode_length (Tables.admits_entry h ml)
  have hg : ∀ b ∈ t.gradeSets.items, (b.items.flatMap GradeRecord.encode).length = 60 := fun b _ => by
    rw [length_flatMap_eq (k := 10) fun _ _ => rfl, b.size]
  have hr : ∀ b ∈ t.priceRows.items, (b.items.flatMap u16).length = 30 := fun b _ => by
    rw [length_flatMap_eq (k := 2) fun _ _ => rfl, b.size]
  unfold Tables.segments
  simp only [List.map_cons, List.map_nil, length_flatMap_eq hp, length_flatMap_eq hg, length_flatMap_eq hr, hl,
    length_flatMap_eq (enc := HeadEntry.encode) (k := 4) fun _ _ => rfl,
    length_flatMap_eq (enc := InputEntry.encode) (k := 3) fun _ _ => rfl,
    length_flatMap_eq (enc := OutputEntry.encode) (k := 4) fun _ _ => rfl, t.heads.size, t.gradeSets.size, t.priceRows.size,
    t.products.size, t.inputs.size, t.outputs.size]
  rfl

theorem Tables.encode_length : t.encode.length = 1390 := by
  rw [Tables.encode_eq, List.length_flatten, Tables.segment_lengths h]
  rfl

/-- Valid tables are read back from their bytes. -/
theorem Tables.decode_encode : Tables.decode t.encode = some t := by
  obtain ⟨-, mh, mg, mr, mp, ml, mi, mo, ms⟩ := t.mem_entries
  have hlen := Tables.segment_lengths h
  unfold Tables.segments at hlen
  simp only [List.map_cons, List.map_nil, List.cons.injEq] at hlen
  obtain ⟨l1, l2, l3, l4, l5, l6, l7, l8, l9, -⟩ := hlen
  have h0 : t.encode.drop 0 = t.segments.flatten := t.encode_eq
  unfold Tables.segments at h0
  simp only [List.flatten_cons, List.flatten_nil] at h0
  obtain ⟨e1, h1⟩ := segment_of_drop h0 l1
  obtain ⟨e2, h2⟩ := segment_of_drop h1 l2
  obtain ⟨e3, h3⟩ := segment_of_drop h2 l3
  obtain ⟨e4, h4⟩ := segment_of_drop h3 l4
  obtain ⟨e5, h5⟩ := segment_of_drop h4 l5
  obtain ⟨e6, h6⟩ := segment_of_drop h5 l6
  obtain ⟨e7, h7⟩ := segment_of_drop h6 l7
  obtain ⟨e8, h8⟩ := segment_of_drop h7 l8
  obtain ⟨e9, -⟩ := segment_of_drop h8 l9
  have d1 := Geometry.decode_encode (Tables.geometry_valid h)
  have d2 : decodeBank 4 4 HeadEntry.decode (t.heads.items.flatMap HeadEntry.encode) = some t.heads :=
    decodeBank_flatMap _ (fun _ _ => rfl) fun x hx => by
      obtain ⟨i, rfl⟩ := Bank.exists_get hx
      exact HeadEntry.decode_encode (g := t.geometry) (Tables.admits_entry h (mh i))
  have d3 : decodeBank 4 60 (decodeBank 6 10 GradeRecord.decode)
      (t.gradeSets.items.flatMap fun b => b.items.flatMap GradeRecord.encode) = some t.gradeSets :=
    decodeBank_flatMap _ (fun b _ => by rw [length_flatMap_eq (k := 10) fun _ _ => rfl, b.size]) fun x hx => by
      obtain ⟨i, rfl⟩ := Bank.exists_get hx
      exact decodeBank_flatMap _ (fun _ _ => rfl) fun r hr =>
        GradeRecord.decode_encode (List.all_eq_true.mp (Tables.admits_entry h (mg i)) r hr)
  have d4 : decodeBank 28 30 (decodeBank 15 2 decodeWord) (t.priceRows.items.flatMap fun b => b.items.flatMap u16) = some t.priceRows :=
    decodeBank_flatMap _ (fun b _ => by rw [length_flatMap_eq (k := 2) fun _ _ => rfl, b.size]) fun x hx => by
      obtain ⟨i, rfl⟩ := Bank.exists_get hx
      exact decodeBank_flatMap _ (fun _ _ => rfl) fun n hn => decodeWord_u16
        (Nat.lt_of_le_of_lt ((within_iff _ _ _).mp (List.all_eq_true.mp (Tables.admits_entry h (mr i)) n hn)).2 (by decide))
  have d5 : decodeBank 8 26 Product.decode (t.products.items.flatMap Product.encode) = some t.products :=
    decodeBank_flatMap _ (fun x hx => by
      obtain ⟨i, rfl⟩ := Bank.exists_get hx
      exact Entry.encode_length (Tables.admits_entry h (mp i))) fun x hx => by
      obtain ⟨i, rfl⟩ := Bank.exists_get hx
      exact Product.decode_encode (Tables.admits_entry h (mp i))
  have d6 := LogClasses.decode_encode (Tables.admits_entry h ml)
  have d7 : decodeBank 8 3 InputEntry.decode (t.inputs.items.flatMap InputEntry.encode) = some t.inputs :=
    decodeBank_flatMap _ (fun _ _ => rfl) fun x hx => by
      obtain ⟨i, rfl⟩ := Bank.exists_get hx
      have := (within_iff _ _ _).mp (Bool.and_eq_true_iff.mp (Tables.admits_entry h (mi i))).1
      exact InputEntry.decode_encode (by omega)
  have d8 : decodeBank 8 4 OutputEntry.decode (t.outputs.items.flatMap OutputEntry.encode) = some t.outputs :=
    decodeBank_flatMap _ (fun _ _ => rfl) fun x hx => by
      obtain ⟨i, rfl⟩ := Bank.exists_get hx
      exact OutputEntry.decode_encode (Tables.admits_entry h (mo i))
  have d9 := SawBusEntry.decode_encode (Tables.geometry_valid h) (Tables.admits_entry h ms)
  unfold Tables.decode
  rw [show t.encode.take 12 = (t.encode.drop 0).take 12 from rfl, e1, e2, e3, e4, e5, e6, e7, e8, e9, d1, d2, d3, d4, d5, d6, d7, d8, d9]
  rfl

end

/-! ## The memory after page writes -/

/-- The bytes of an image with these CRC bytes in its header. -/
def imageBytes (c1 c0 : Byte) (tables : List Byte) : List Byte := [0xC9, 1, 5, 0x74, c1, c0] ++ tables

theorem imageOf_eq (t : Tables) :
    imageOf t = imageBytes (u8 (crc16 (imageCovered t.encode) / 256)) (u8 (crc16 (imageCovered t.encode))) t.encode := rfl

theorem invertCrc_imageBytes (c1 c0 : Byte) (l : List Byte) : invertCrc (imageBytes c1 c0 l) = imageBytes (~~~c1) (~~~c0) l := rfl

/-- From address 6 on the two images are alike. -/
theorem imageBytes_getElem? {c1 c0 d1 d0 : Byte} {l : List Byte} {a : Nat} (ha : 6 ≤ a) :
    (imageBytes c1 c0 l)[a]? = (imageBytes d1 d0 l)[a]? := by
  obtain ⟨b, rfl⟩ := Nat.exists_eq_add_of_le' ha
  rfl

section
variable {t : Tables} {m : List Host.Cell} (hm : memWf m = true)
include hm

/-- A page write puts its page's bytes into the memory. -/
theorem memRead_pageWritten {image : List Byte} {w a : Nat} {v : Byte}
    (hp : 64 * pageOf w ≤ a ∧ a < 64 * pageOf w + 64) (hv : (if w = 1 then invertCrc image else image)[a]? = some v) :
    memRead (pageWritten m image w) a = v := by
  obtain ⟨h1, h2⟩ := hp
  unfold pageWritten pageBytes
  rw [memRead_memWriteBytes _ _ hm, if_pos (show pageSize * pageOf w ≤ a from h1), List.getElem?_take_of_lt (by unfold pageSize; omega), List.getElem?_drop,
    show pageSize * pageOf w + (a - pageSize * pageOf w) = a from Nat.add_sub_of_le h1, hv]
  rfl

theorem memWf_savedPages (t : Tables) (n : Nat) : memWf (savedPages t m n) = true := by
  unfold savedPages
  induction n with
  | zero => exact hm
  | succ n ih =>
    rw [List.range_succ, List.foldl_append]
    exact memWf_pageWritten _ _ ih

omit hm in
theorem savedPages_succ (t : Tables) (m : List Host.Cell) (n : Nat) :
    savedPages t m (n + 1) = pageWritten (savedPages t m n) (imageOf t) (n + 1) := by
  unfold savedPages
  rw [List.range_succ, List.foldl_append]
  rfl

/-- After writes 1 to `n` the first `n` pages hold the image with its CRC inverted. -/
theorem memRead_savedPages {n a : Nat} {v : Byte} (hn : n ≤ 22) (hv : (invertCrc (imageOf t))[a]? = some v) (ha : a < 64 * n) :
    memRead (savedPages t m n) a = v := by
  induction n with
  | zero => omega
  | succ n ih =>
    have hpage : pageOf (n + 1) = n := by
      unfold pageOf pageWrites
      rw [if_pos (by omega), Nat.add_sub_cancel]
    rw [savedPages_succ t m n]
    by_cases hin : 64 * n ≤ a
    · refine memRead_pageWritten (memWf_savedPages hm t n) (by rw [hpage]; omega) ?_
      by_cases h0 : n = 0
      · rw [if_pos (by omega), hv]
      · rw [if_neg (by omega), ← hv, imageOf_eq, invertCrc_imageBytes]
        exact imageBytes_getElem? (by omega)
    · rw [memRead_pageWritten_of_outside _ _ (memWf_savedPages hm t n) (by rw [hpage]; omega)]
      exact ih (by omega) (by omega)

/-- After all 23 writes the memory holds the image. -/
theorem memRead_savedPages_all {a : Nat} {v : Byte} (hlen : (imageOf t).length ≤ 1408) (hv : (imageOf t)[a]? = some v) :
    memRead (savedPages t m 23) a = v := by
  have ha : a < (imageOf t).length := (List.getElem?_eq_some_iff.mp hv).1
  have hpage : pageOf 23 = 0 := rfl
  rw [savedPages_succ t m 22]
  by_cases hin : a < 64
  · exact memRead_pageWritten (memWf_savedPages hm t 22) (by rw [hpage]; omega) hv
  · rw [memRead_pageWritten_of_outside _ _ (memWf_savedPages hm t 22) (by rw [hpage]; omega)]
    refine memRead_savedPages hm (by omega) ?_ (by omega)
    rw [← hv, imageOf_eq, invertCrc_imageBytes]
    exact imageBytes_getElem? (by omega)

end

/-! ## The judgement -/

theorem memReadBytes_eq {m : List Host.Cell} {l : List Byte} {a : Nat} (h : ∀ i v, l[i]? = some v → memRead m (a + i) = v) :
    memReadBytes m a l.length = l := by
  induction l generalizing a with
  | nil => rfl
  | cons x l ih =>
    show memRead m a :: memReadBytes m (a + 1) l.length = x :: l
    rw [show memRead m a = x from h 0 x rfl, ih fun i v hv => ?_]
    rw [show a + 1 + i = a + (i + 1) by omega]
    exact h (i + 1) v hv

/-- A memory that holds an image: its header and its table bytes. -/
theorem memory_of_imageBytes {m : List Host.Cell} {c1 c0 : Byte} {l : List Byte}
    (h : ∀ a v, (imageBytes c1 c0 l)[a]? = some v → memRead m a = v) :
    memRead m 0 = 0xC9 ∧ memRead m 1 = 1 ∧ memRead m 2 = 5 ∧ memRead m 3 = 0x74 ∧ memRead m 4 = c1 ∧ memRead m 5 = c0
      ∧ memReadBytes m 6 l.length = l :=
  ⟨h 0 _ rfl, h 1 _ rfl, h 2 _ rfl, h 3 _ rfl, h 4 _ rfl, h 5 _ rfl, memReadBytes_eq fun i v hv => h (6 + i) v (by
    rw [Nat.add_comm]
    exact hv)⟩

/-- The inverse of two bytes is not the number they hold. -/
theorem word_not_ne (n : Nat) : word (~~~u8 (n / 256)) (~~~u8 n) ≠ n := by
  unfold word u8
  rw [BitVec.toNat_not, BitVec.toNat_not, BitVec.toNat_ofNat, BitVec.toNat_ofNat]
  omega

/-- Settles O12: the pages hold the image, with its CRC inverted until the last write. -/
theorem savedImageLoadsBack : Obligations.SavedImageLoadsBack := by
  intro t m ht hm
  have hlen := Tables.encode_length ht
  have himg : (imageOf t).length = 1396 := by
    rw [imageOf_eq, imageBytes, List.length_append, hlen]
    rfl
  have hcrc := crc16_lt (imageCovered t.encode)
  constructor
  · obtain ⟨h0, h1, h2, h3, h4, h5, h6⟩ := memory_of_imageBytes (m := savedPages t m 23) fun a v hv =>
      memRead_savedPages_all hm (by omega) ((imageOf_eq t).symm ▸ hv)
    rw [hlen] at h6
    unfold judgeImage
    rw [h0, h1, h2, h3, h4, h5, show imageLength - 6 = 1390 from rfl, h6, if_neg (by decide), if_neg (by decide)]
    dsimp only
    rw [word_u8 hcrc, if_neg (not_not_intro rfl), Tables.decode_encode ht]
    exact if_pos ht
  · obtain ⟨h0, h1, h2, h3, h4, h5, h6⟩ := memory_of_imageBytes (m := savedPages t m 22) fun a v hv => by
      have hv' : (invertCrc (imageOf t))[a]? = some v := by
        rw [imageOf_eq, invertCrc_imageBytes]
        exact hv
      have hl : (invertCrc (imageOf t)).length = 1396 := by
        rw [imageOf_eq, invertCrc_imageBytes, imageBytes, List.length_append, hlen]
        rfl
      have ha := (List.getElem?_eq_some_iff.mp hv').1
      exact memRead_savedPages hm (by omega) hv' (by omega)
    rw [hlen] at h6
    unfold judgeImage
    rw [h0, h1, h2, h3, h4, h5, show imageLength - 6 = 1390 from rfl, h6, if_neg (by decide), if_neg (by decide)]
    dsimp only
    exact if_pos (word_not_ne _)

end Sys2Proof.Machine


/-! PROOF. How an image is judged: its header, then entry by entry (R73). -/

namespace Sys2Proof.Machine

-- One proof after the other: together they would ask for more threads than the check has memory for.
set_option Elab.async false

/-! ## A bank read place by place -/

theorem pieces_length (k n : Nat) (l : List Byte) : (pieces k n l).length = n := by
  induction n generalizing l with
  | zero => rfl
  | succ n ih => exact congrArg Nat.succ (ih _)

theorem pieces_getElem (k : Nat) {n i : Nat} (l : List Byte) (h : i < (pieces k n l).length) :
    (pieces k n l)[i] = (l.drop (i * k)).take k := by
  induction n generalizing l i with
  | zero => exact absurd h (Nat.not_lt_zero i)
  | succ n ih =>
    cases i with
    | zero =>
      rw [Nat.zero_mul]
      rfl
    | succ i =>
      show (pieces k n (l.drop k))[i]'_ = _
      rw [ih, List.drop_drop, show k + i * k = (i + 1) * k by rw [Nat.add_mul]; omega]

theorem mapM_eq_some_iff {α β : Type} {f : α → Option β} {l : List α} {r : List β} :
    l.mapM f = some r ↔ l.map f = r.map some := by
  induction l generalizing r with
  | nil =>
    cases r with
    | nil => exact ⟨fun _ => rfl, fun _ => rfl⟩
    | cons y r => exact ⟨nofun, nofun⟩
  | cons x l ih =>
    rw [List.mapM_cons, List.map_cons]
    cases hx : f x with
    | none =>
      refine ⟨nofun, fun h => ?_⟩
      cases r <;> cases h
    | some y =>
      cases hl : l.mapM f with
      | none =>
        refine ⟨nofun, fun h => ?_⟩
        cases r with
        | nil => cases h
        | cons z r =>
          have := ih.mpr (List.cons.inj h).2
          rw [hl] at this
          cases this
      | some ys =>
        have hys := ih.mp hl
        constructor
        · rintro h
          cases h
          rw [List.map_cons, hys]
        · intro h
          cases r with
          | nil => cases h
          | cons z r =>
            obtain ⟨h1, h2⟩ := List.cons.inj h
            cases h1
            rw [hys] at h2
            rw [List.map_injective_iff.mpr (Option.some_injective _) h2]
            rfl

/-- A bank is what its places are read as. -/
theorem decodeBank_eq_some_iff {α : Type} {n k : Nat} {dec : List Byte → Option α} {l : List Byte} {b : Bank n α} :
    decodeBank n k dec l = some b ↔ ∀ i : Fin n, dec ((l.drop (i.val * k)).take k) = some (b.get i) := by
  have hmap : (pieces k n l).map dec = b.items.map some ↔ ∀ i : Fin n, dec ((l.drop (i.val * k)).take k) = some (b.get i) := by
    constructor
    · intro h i
      have hi : i.val < ((pieces k n l).map dec).length := by
        rw [List.length_map, pieces_length]
        exact i.isLt
      have := List.getElem_of_eq h hi
      rw [List.getElem_map, List.getElem_map, pieces_getElem] at this
      exact this
    · intro h
      refine List.ext_getElem (by rw [List.length_map, List.length_map, pieces_length, b.size]) fun i h1 h2 => ?_
      rw [List.getElem_map, List.getElem_map, pieces_getElem]
      exact h ⟨i, by rwa [List.length_map, pieces_length] at h1⟩
  rw [← hmap, ← mapM_eq_some_iff]
  unfold decodeBank toBank?
  obtain ⟨items, hsize⟩ := b
  cases hm : (pieces k n l).mapM dec with
  | none => exact ⟨nofun, nofun⟩
  | some r =>
    constructor
    · intro h
      simp only [Option.bind_some] at h
      split at h
      · cases h
        rfl
      · cases h
    · intro h
      cases h
      exact dif_pos hsize

/-! ## The tables read entry by entry -/

/-- Where the first entry of a kind begins among the tables' bytes. -/
def TableKind.offset : TableKind → Nat
  | .geometry => 0 | .heads => 12 | .gradeSet => 28 | .priceRow => 268 | .product => 1108
  | .logClasses => 1316 | .inputs => 1332 | .outputs => 1356 | .sawBus => 1388

/-- The bytes of one entry among those of all tables. -/
def entryBytes (l : List Byte) (k : TableKind) (i : Nat) : List Byte := (l.drop (k.offset + i * k.entryLength)).take k.entryLength

theorem take_drop_within (l : List Byte) {a total k n : Nat} (h : k + n ≤ total) :
    ((((l.drop a).take total).drop k).take n) = (l.drop (a + k)).take n := by
  rw [List.drop_take, List.take_take, List.drop_drop, Nat.min_eq_left (by omega)]

/-- A bank of entries within the tables' bytes. -/
theorem decodeBank_entries {α : Type} {n : Nat} {dec : List Byte → Option α} {l : List Byte} {b : Bank n α} (k : TableKind)
    {total : Nat} (ht : total = n * k.entryLength) :
    decodeBank n k.entryLength dec ((l.drop k.offset).take total) = some b ↔
      ∀ i : Fin n, dec (entryBytes l k i.val) = some (b.get i) := by
  rw [decodeBank_eq_some_iff]
  refine forall_congr' fun i => ?_
  have hi : i.val * k.entryLength + k.entryLength ≤ total := by
    rw [ht, ← Nat.succ_mul]
    exact Nat.mul_le_mul_right _ i.isLt
  rw [take_drop_within l hi]
  rfl

/-- Entries of a kind with several places, read place by place. -/
theorem place_eq_some_iff {α : Type} {n i : Nat} (hi : i < n) {c : Fin n → α → Entry} (hc : ∀ j x y, c j x = c j y → x = y)
    {o : Option α} {b : Bank n α} :
    ((do pure (c (← place? n i) (← o))) : Option Entry) = (place? n i).map (fun j => c j (b.get j)) ↔ o = some (b.get ⟨i, hi⟩) := by
  have hp : place? n i = some ⟨i, hi⟩ := place?_of_lt hi
  rw [hp]
  cases o with
  | none => exact ⟨nofun, nofun⟩
  | some x =>
    constructor
    · intro h
      rw [hc _ _ _ (Option.some.inj h)]
    · rintro h
      rw [Option.some.inj h]
      rfl

theorem map_eq_some_iff_of_injective {α : Type} {c : α → Entry} (hc : ∀ x y, c x = c y → x = y) {o : Option α} {x : α} :
    o.map c = some (c x) ↔ o = some x := by
  cases o with
  | none => exact ⟨nofun, nofun⟩
  | some y => exact ⟨fun h => congrArg some (hc _ _ (Option.some.inj h)), fun h => by rw [h]; rfl⟩

theorem Entry.head_injective (j : Fin 4) (x y : HeadEntry) (h : Entry.head j x = .head j y) : x = y := (Entry.head.inj h).2
theorem Entry.gradeSet_injective (j : Fin 4) (x y : GradeSet) (h : Entry.gradeSet j x = .gradeSet j y) : x = y := (Entry.gradeSet.inj h).2
theorem Entry.priceRow_injective (j : Fin 28) (x y : PriceRow) (h : Entry.priceRow j x = .priceRow j y) : x = y :=
  (Entry.priceRow.inj h).2
theorem Entry.product_injective (j : Fin 8) (x y : Product) (h : Entry.product j x = .product j y) : x = y := (Entry.product.inj h).2
theorem Entry.input_injective (j : Fin 8) (x y : InputEntry) (h : Entry.input j x = .input j y) : x = y := (Entry.input.inj h).2
theorem Entry.output_injective (j : Fin 8) (x y : OutputEntry) (h : Entry.output j x = .output j y) : x = y := (Entry.output.inj h).2

/-- The tables read are those whose every entry is read from its bytes. -/
theorem Tables.decode_eq_some_iff {l : List Byte} {t : Tables} :
    Tables.decode l = some t ↔ ∀ k i, i < k.count → Entry.decode k i (entryBytes l k i) = t.entry? k i := by
  have hdecode : Tables.decode l = some t ↔
      Geometry.decode (entryBytes l .geometry 0) = some t.geometry
        ∧ (∀ i : Fin 4, HeadEntry.decode (entryBytes l .heads i) = some (t.heads.get i))
        ∧ (∀ i : Fin 4, decodeBank 6 10 GradeRecord.decode (entryBytes l .gradeSet i) = some (t.gradeSets.get i))
        ∧ (∀ i : Fin 28, decodeBank 15 2 decodeWord (entryBytes l .priceRow i) = some (t.priceRows.get i))
        ∧ (∀ i : Fin 8, Product.decode (entryBytes l .product i) = some (t.products.get i))
        ∧ LogClasses.decode (entryBytes l .logClasses 0) = some t.logClasses
        ∧ (∀ i : Fin 8, InputEntry.decode (entryBytes l .inputs i) = some (t.inputs.get i))
        ∧ (∀ i : Fin 8, OutputEntry.decode (entryBytes l .outputs i) = some (t.outputs.get i))
        ∧ SawBusEntry.decode (entryBytes l .sawBus 0) = some t.sawBus := by
    rw [← decodeBank_entries .heads (total := 16) rfl, ← decodeBank_entries .gradeSet (total := 240) rfl,
      ← decodeBank_entries .priceRow (total := 840) rfl, ← decodeBank_entries .product (total := 208) rfl,
      ← decodeBank_entries .inputs (total := 24) rfl, ← decodeBank_entries .outputs (total := 32) rfl]
    unfold Tables.decode
    simp only [Option.bind_eq_bind, Option.bind_eq_some_iff, Option.pure_def, Option.some.injEq]
    constructor
    · rintro ⟨g, h1, h, h2, gs, h3, pr, h4, pd, h5, lc, h6, inp, h7, out, h8, sb, h9, rfl⟩
      exact ⟨h1, h2, h3, h4, h5, h6, h7, h8, h9⟩
    · rintro ⟨h1, h2, h3, h4, h5, h6, h7, h8, h9⟩
      exact ⟨_, h1, _, h2, _, h3, _, h4, _, h5, _, h6, _, h7, _, h8, _, h9, rfl⟩
  rw [hdecode]
  constructor
  · rintro ⟨h1, h2, h3, h4, h5, h6, h7, h8, h9⟩ k i hi
    cases k with
    | geometry =>
      obtain rfl : i = 0 := Nat.lt_one_iff.mp hi
      exact congrArg (Option.map Entry.geometry) h1
    | logClasses =>
      obtain rfl : i = 0 := Nat.lt_one_iff.mp hi
      exact congrArg (Option.map Entry.logClasses) h6
    | sawBus =>
      obtain rfl : i = 0 := Nat.lt_one_iff.mp hi
      exact congrArg (Option.map Entry.sawBus) h9
    | heads => exact (place_eq_some_iff hi Entry.head_injective).mpr (h2 ⟨i, hi⟩)
    | gradeSet => exact (place_eq_some_iff hi Entry.gradeSet_injective).mpr (h3 ⟨i, hi⟩)
    | priceRow => exact (place_eq_some_iff hi Entry.priceRow_injective).mpr (h4 ⟨i, hi⟩)
    | product => exact (place_eq_some_iff hi Entry.product_injective).mpr (h5 ⟨i, hi⟩)
    | inputs => exact (place_eq_some_iff hi Entry.input_injective).mpr (h7 ⟨i, hi⟩)
    | outputs => exact (place_eq_some_iff hi Entry.output_injective).mpr (h8 ⟨i, hi⟩)
  · intro h
    exact
      ⟨(map_eq_some_iff_of_injective fun _ _ => Entry.geometry.inj).mp (h .geometry 0 Nat.one_pos),
        fun i => (place_eq_some_iff i.isLt Entry.head_injective).mp (h .heads i i.isLt),
        fun i => (place_eq_some_iff i.isLt Entry.gradeSet_injective).mp (h .gradeSet i i.isLt),
        fun i => (place_eq_some_iff i.isLt Entry.priceRow_injective).mp (h .priceRow i i.isLt),
        fun i => (place_eq_some_iff i.isLt Entry.product_injective).mp (h .product i i.isLt),
        (map_eq_some_iff_of_injective fun _ _ => Entry.logClasses.inj).mp (h .logClasses 0 Nat.one_pos),
        fun i => (place_eq_some_iff i.isLt Entry.input_injective).mp (h .inputs i i.isLt),
        fun i => (place_eq_some_iff i.isLt Entry.output_injective).mp (h .outputs i i.isLt),
        (map_eq_some_iff_of_injective fun _ _ => Entry.sawBus.inj).mp (h .sawBus 0 Nat.one_pos)⟩

theorem place?_isSome {n i : Nat} (h : i < n) : (place? n i).isSome := by
  rw [place?_of_lt h]
  rfl

/-- The entry of a kind at a place that it has. -/
theorem Tables.entry?_isSome (t : Tables) {k : TableKind} {i : Nat} (h : i < k.count) : (t.entry? k i).isSome := by
  cases k with
  | geometry | logClasses | sawBus =>
    obtain rfl : i = 0 := Nat.lt_one_iff.mp h
    rfl
  | heads | gradeSet | priceRow | product | inputs | outputs =>
    unfold Tables.entry?
    dsimp only
    rw [Option.isSome_map]
    exact place?_isSome h

/-! ## The judgement -/

/-- An entry's bytes in the memory. -/
theorem imageEntry_eq (m : List Host.Cell) {k : TableKind} {i : Nat} (h : i < k.count) :
    imageEntry m k i = entryBytes (memReadBytes m 6 1390) k i := by
  have hoff : imageAddress k = 6 + k.offset := by cases k <;> rfl
  have hmul : (i + 1) * k.entryLength ≤ k.count * k.entryLength := Nat.mul_le_mul_right _ h
  have hin : k.offset + k.count * k.entryLength ≤ 1390 := by cases k <;> decide
  rw [Nat.add_mul, Nat.one_mul] at hmul
  unfold imageEntry entryBytes
  rw [hoff, Nat.add_assoc]
  exact memReadBytes_within m 6 (by omega)

/-- A memory whose header is right is judged by its entries. -/
theorem judgeImage_of_header {m : List Host.Cell} (h : imageHeaderRight m) :
    judgeImage m =
      match Tables.decode (memReadBytes m 6 1390) with
      | some t => if t.valid then .good t else .badCrc
      | none => .badCrc := by
  obtain ⟨h0, h1, h2, h3⟩ := h
  unfold judgeImage
  rw [h0, h1, h2, h3, if_neg (by decide), if_neg (by decide)]
  dsimp only
  exact if_neg (not_not_intro rfl)

theorem judgeImage_of_entries {m : List Host.Cell} (h : imageHeaderRight m) :
    ((∃ kind i, i < kind.count ∧ Entry.decode kind i (imageEntry m kind i) = none) → judgeImage m = .badCrc)
      ∧ ∀ t : Tables, (∀ kind i, i < kind.count → Entry.decode kind i (imageEntry m kind i) = t.entry? kind i) →
          ((∃ e ∈ t.entries, t.admits e = false) → judgeImage m = .badCrc)
            ∧ ((∀ e ∈ t.entries, t.admits e = true) → judgeImage m = .good t) := by
  rw [judgeImage_of_header h]
  constructor
  · rintro ⟨k, i, hi, hn⟩
    cases hd : Tables.decode (memReadBytes m 6 1390) with
    | none => rfl
    | some t =>
      have := Tables.decode_eq_some_iff.mp hd k i hi
      rw [← imageEntry_eq m hi, hn] at this
      have hs := t.entry?_isSome hi
      rw [← this] at hs
      cases hs
  · intro t ht
    have hd : Tables.decode (memReadBytes m 6 1390) = some t := Tables.decode_eq_some_iff.mpr fun k i hi => by
      rw [← imageEntry_eq m hi]
      exact ht k i hi
    rw [hd]
    constructor
    · rintro ⟨e, he, hf⟩
      refine if_neg fun hv => ?_
      rw [Tables.admits_entry hv he] at hf
      cases hf
    · intro hall
      exact if_pos (t.valid_iff.mpr hall)

end Sys2Proof.Machine


/-! PROOF. TABLE WRITE: the entry replaced, what follows in the blocks, and its refusals (R16, R22, R62, R63, R70, R152 to R157; O10, O11). -/

namespace Sys2Proof.Machine

-- One proof after the other: together they would ask for more threads than the check has memory for.
set_option Elab.async false

section
variable {s t : State}

/-! ## Inputs through a change of their entry (R152) -/

/-- An input whose raw level has turned over under this entry (R152). -/
def Input.turned (e : InputEntry) (x : Input) : Input :=
  if rawLevel e x = x.filtered then { x with timer := none }
  else if e.filter = 0 then { x with filtered := rawLevel e x, timer := none }
  else { x with timer := some e.filter }

theorem State.lugPulse_inputs (s : State) : s.lugPulse.field.inputs = s.field.inputs :=
  State.lugPulse_induct (P := fun u => u.field.inputs = s.field.inputs) rfl (fun _ _ => State.advance_inputs s false) rfl
    (State.raise_inputs _ _)

theorem State.announceInput_inputs (s : State) (f : InputFunction) (active : Bool) :
    (s.announceInput f active).field.inputs = s.field.inputs :=
  State.announceInput_induct (P := fun u => u.field.inputs = s.field.inputs) rfl (fun _ _ => s.lugPulse_inputs) (fun _ _ => rfl)
    fun _ _ => State.raise_inputs _ _

theorem State.rawChanged_inputs (s : State) (i k : Fin 8) :
    (s.rawChanged i).field.inputs.get k =
      if k = i then (s.field.inputs.get i).turned (s.tables.inputs.get i) else s.field.inputs.get k := by
  have hset : ∀ f : Input → Input, (s.setInput i f).field.inputs.get k =
      if k = i then f (s.field.inputs.get i) else s.field.inputs.get k := fun f => Bank.get_modify _ _ _ _
  unfold Input.turned
  refine State.rawChanged_induct (P := fun u => u.field.inputs.get k = _) (fun hb => ?_) (fun hb h0 => ?_) fun hb h0 => ?_
  · rw [hset, if_pos hb]
  · unfold State.recognise
    rw [State.announceInput_inputs, hset, if_neg hb, if_pos h0]
  · rw [hset, if_neg hb, if_neg h0]

theorem State.inhibitRebound_frame (s : State) (o n : InputEntry) (i : Fin 8) :
    (s.inhibitRebound o n i).field.inputs = s.field.inputs ∧ (s.inhibitRebound o n i).tables = s.tables
      ∧ (s.inhibitRebound o n i).tracker = s.tracker ∧ (s.inhibitRebound o n i).scan = s.scan := by
  rcases s.inhibitRebound_eq o n i with h | h <;> rw [h]
  · exact ⟨rfl, rfl, rfl, rfl⟩
  · exact ⟨State.raise_inputs _ _, State.raise_tables _ _, State.raise_tracker _ _, State.raise_scan _ _⟩

/-- The inputs after one entry has been rewritten. -/
theorem State.inputRewritten_input (old new : Bank 8 InputEntry) (i k : Fin 8) :
    (State.inputRewritten old new s i).field.inputs.get k =
      if k = i ∧ (old.get i).polarity ≠ (new.get i).polarity then (s.field.inputs.get i).turned (s.tables.inputs.get i)
      else s.field.inputs.get k := by
  obtain ⟨h1, h2, -⟩ := s.inhibitRebound_frame (old.get i) (new.get i) i
  rw [State.inputRewritten_eq]
  by_cases hp : (old.get i).polarity = (new.get i).polarity
  · rw [if_pos (beq_iff_eq.mpr hp), if_neg fun h => h.2 hp, h1]
  · rw [if_neg (mt beq_iff_eq.mp hp), State.rawChanged_inputs, h1, h2]
    exact if_congr (and_iff_left hp).symm rfl rfl

/-- An entry that stays does nothing at its input. -/
theorem State.inputRewritten_of_eq {old new : Bank 8 InputEntry} {i : Fin 8} (h : old.get i = new.get i) :
    State.inputRewritten old new s i = s := by
  unfold State.inputRewritten
  dsimp only
  rw [h]
  simp

/-- Where one entry changes, the others do nothing. -/
theorem State.inputsRewritten_one {old new : Bank 8 InputEntry} {j : Fin 8} (h : ∀ i, i ≠ j → old.get i = new.get i) :
    s.inputsRewritten old new = State.inputRewritten old new s j := by
  have hskip : ∀ (l : List (Fin 8)) (u : State), j ∉ l → l.foldl (State.inputRewritten old new) u = u := by
    intro l
    induction l with
    | nil => exact fun _ _ => rfl
    | cons i l ih =>
      intro u hj
      rw [List.mem_cons, not_or] at hj
      rw [List.foldl_cons, State.inputRewritten_of_eq (h i (Ne.symm hj.1)), ih u hj.2]
  have hfold : ∀ (l : List (Fin 8)) (u : State), l.Nodup → j ∈ l →
      l.foldl (State.inputRewritten old new) u = State.inputRewritten old new u j := by
    intro l
    induction l with
    | nil => exact fun _ _ h => absurd h List.not_mem_nil
    | cons i l ih =>
      intro u hn hj
      rw [List.nodup_cons] at hn
      rw [List.foldl_cons]
      rcases List.mem_cons.mp hj with rfl | hj
      · exact hskip l _ hn.1
      · have hij : i ≠ j := fun e => hn.1 (e ▸ hj)
        rw [State.inputRewritten_of_eq (h i hij), ih u hn.2 hj]
  exact hfold _ _ (List.nodup_finRange 8) (List.mem_finRange j)

/-- No change of an input clears a cause. -/
theorem State.InputRel.pendingKept : State.InputRel fun s t => ∀ x, s.isPending x = true → t.isPending x = true where
  refl _ _ h := h
  trans h k x hx := k x (h x hx)
  raise s := (s.raise_isPending .inhibitActive).2
  lugPulse s := State.lugPulse_induct (P := fun u => ∀ x, s.isPending x = true → u.isPending x = true) (fun _ h => h)
    (fun _ _ x h => (State.LevelFrame.advance s false).pending x h) (fun _ h => h) (s.raise_isPending .lugExtra).2
  eyeActive _ _ h := h
  setInput _ _ _ _ h := h

/-- TRIM_INHIBIT bound to an input that is ACTIVE, or made ACTIVE by the write, leaves INHIBIT_ACTIVE pending (R153). -/
theorem State.inputRewritten_inhibit {old new : Bank 8 InputEntry} {i : Fin 8} (hnew : s.tables.inputs.get i = new.get i)
    (hf : (new.get i).function = .trimInhibit) (ho : (old.get i).function = .trimInhibit → (s.field.inputs.get i).filtered = false)
    (ha : ((State.inputRewritten old new s i).field.inputs.get i).filtered = true) :
    (State.inputRewritten old new s i).isPending .inhibitActive = true := by
  rw [State.inputRewritten_input] at ha
  obtain ⟨h1, h2, -⟩ := s.inhibitRebound_frame (old.get i) (new.get i) i
  rw [State.inputRewritten_eq]
  by_cases hx : (s.field.inputs.get i).filtered = true
  · have hpend : (s.inhibitRebound (old.get i) (new.get i) i).isPending .inhibitActive = true := by
      have hne : (old.get i).function ≠ .trimInhibit := fun e => by
        rw [ho e] at hx
        cases hx
      unfold State.inhibitRebound
      rw [if_pos (by simp [hf, hne, hx])]
      exact (s.raise_isPending _).1
    split
    · exact hpend
    · exact State.InputRel.pendingKept.rawChanged _ i _ hpend
  · by_cases hp : (old.get i).polarity = (new.get i).polarity
    · rw [if_neg fun h => h.2 hp] at ha
      exact absurd ha hx
    · rw [if_pos ⟨rfl, hp⟩] at ha
      rw [if_neg (mt beq_iff_eq.mp hp)]
      unfold Input.turned at ha
      split at ha
      · exact absurd ha hx
      · next hraw =>
        split at ha
        · next h0 =>
          have heq : (s.inhibitRebound (old.get i) (new.get i) i).rawChanged i =
              (s.inhibitRebound (old.get i) (new.get i) i).recognise i :=
            State.rawChanged_at_once (by rw [h1, h2]; exact hraw) (by rw [h2]; exact h0)
          rw [heq]
          unfold State.recognise
          dsimp only
          rw [h1, h2, show rawLevel _ _ = true from ha, hnew, hf]
          exact (State.raise_isPending _ _).1
        · exact absurd ha hx

/-! ## Replacements that leave the inputs -/

theorem State.applyTables_of_inputs {new : Tables} (h : new.inputs = s.tables.inputs) : s.applyTables new = s.beforeInputs new := by
  rw [State.applyTables_eq_inputsRewritten, h, State.inputsRewritten_self]

/-- What a replacement of tables leaves in the blocks before the inputs follow. -/
theorem State.beforeInputs_keeps (s : State) (new : Tables) :
    (s.beforeInputs new).tracker = { s.tracker with pos := min s.tracker.pos (new.geometry.windowEnd - 1) }
      ∧ (s.beforeInputs new).runs = s.runs ∧ (s.beforeInputs new).lane = s.lane ∧ (s.beforeInputs new).solver = s.solver
      ∧ (s.beforeInputs new).consoles = s.consoles ∧ (s.beforeInputs new).field.inputs = s.field.inputs
      ∧ (s.beforeInputs new).links = s.links
      ∧ s.headsFollow (s.beforeInputs new) new
      ∧ { (s.beforeInputs new).saw with modules := s.saw.modules } = s.saw
      ∧ s.modulesFollow (s.beforeInputs new) new := by
  unfold State.beforeInputs
  refine ⟨by rw [State.changeModuleCount_tracker]; rfl, by rw [State.changeModuleCount_runs]; rfl,
    by rw [State.changeModuleCount_lane]; rfl, by rw [State.changeModuleCount_solver]; rfl,
    by rw [State.changeModuleCount_consoles]; rfl, by rw [State.changeModuleCount_inputs]; rfl,
    by rw [State.changeModuleCount_links]; rfl, fun h => ?_, by rw [State.changeModuleCount_saw]; rfl, fun m => ?_, fun hlt => ?_⟩
  · rw [State.changeModuleCount_scan]
    have : (s.tablesSet new).scan.heads.get h = (s.scan.heads.get h).afterWrite (s.tables.heads.get h) (new.heads.get h) :=
      Bank.get_ofFn _ h
    rw [this]
    unfold Head.afterWrite freshHead
    simp only [beq_iff_eq]
  · rw [State.changeModuleCount_saw]
    refine (Bank.get_ofFn _ m).trans (if_congr ?_ rfl rfl)
    exact eq_iff_iff
  · rw [State.changeModuleCount_eq, if_pos hlt]
    exact (State.raise_isPending _ _).1

/-! ## A write of OUTPUTS (R155 to R157) -/

section
variable {o : Fin 8} {n : OutputEntry}

/-- A write of OUTPUTS leaves the module count, the inputs and the offers, so the outputs are last touched when judged. -/
theorem State.applyTables_output :
    (s.applyTables (s.tables.put (.output o n))).outputsJudged
      ∧ ∀ p, (s.applyTables (s.tables.put (.output o n))).field.outputs.get p =
        judgeOutput s.alert (s.callCondition ((s.tables.outputs.set o n).get p)) ((s.tables.outputs.set o n).get p)
          (outputRewritten (s.tables.outputs.get p) ((s.tables.outputs.set o n).get p) (s.field.outputs.get p)) := by
  have hof : s.applyTables (s.tables.put (.output o n)) = s.beforeInputs (s.tables.put (.output o n)) := State.applyTables_of_inputs rfl
  rw [hof]
  unfold State.beforeInputs
  rw [State.changeModuleCount_eq, if_neg (show ¬ s.tables.sawBus.modules < (s.tables.put (.output o n)).sawBus.modules from Nat.lt_irrefl _)]
  refine ⟨State.outputsJudged.of_eq (State.judge_outputsJudged _) rfl rfl rfl fun _ => rfl, fun p => ?_⟩
  have h2 : ∀ u : State, u.judge.field.outputs.get p =
      judgeOutput u.alert (u.callCondition (u.tables.outputs.get p)) (u.tables.outputs.get p) (u.field.outputs.get p) :=
    fun u => Bank.get_ofFn _ p
  refine (h2 _).trans (congrArg (judgeOutput _ _ _) ?_)
  exact Bank.get_ofFn _ p

/-- The entry that is written: its pulse runs on where the function stays, and a wave that must run runs on or starts afresh. -/
theorem State.outputWritten (hj : s.outputsJudged) {x : Output}
    (hx : x = judgeOutput s.alert (s.callCondition n) n (outputRewritten (s.tables.outputs.get o) n (s.field.outputs.get o))) :
    let old := s.tables.outputs.get o
    x.force = (s.field.outputs.get o).force
      ∧ x.pulse = (if old.function = n.function then (s.field.outputs.get o).pulse else none)
      ∧ x.wave =
          (if n.function = .beacon ∧ s.alert = true then
            (if old.function = .beacon ∧ old.rate = n.rate then (s.field.outputs.get o).wave
            else some { on := true, left := n.rate.halfPeriod })
          else none) := by
  subst hx
  refine ⟨rfl, if_congr beq_iff_eq rfl rfl, ?_⟩
  show judgeWave s.alert n _ = _
  unfold judgeWave
  by_cases hb : n.function = .beacon ∧ s.alert = true
  · obtain ⟨hf, ha⟩ := hb
    rw [if_pos (by simp [hf, ha]), if_pos ⟨hf, ha⟩]
    by_cases hs : (s.tables.outputs.get o).function = .beacon ∧ (s.tables.outputs.get o).rate = n.rate
    · obtain ⟨w, hw⟩ := Option.isSome_iff_exists.mp ((hj o).2.mpr ⟨hs.1, ha⟩)
      have hkept : (outputRewritten (s.tables.outputs.get o) n (s.field.outputs.get o)).wave = some w :=
        (if_pos (by simp [hs, hf])).trans hw
      rw [if_pos hs, hkept, hw]
      rfl
    · rw [if_neg hs, outputRewritten]
      dsimp only
      rw [hf, if_neg (by simpa using hs)]
      rfl
  · rw [if_neg (by simpa using hb), if_neg hb]

/-- An output whose entry stays is as it was. -/
theorem State.output_not_written (hj : s.outputsJudged) (p : Fin 8) :
    judgeOutput s.alert (s.callCondition (s.tables.outputs.get p)) (s.tables.outputs.get p)
        (outputRewritten (s.tables.outputs.get p) (s.tables.outputs.get p) (s.field.outputs.get p)) =
      s.field.outputs.get p := by
  have h : outputRewritten (s.tables.outputs.get p) (s.tables.outputs.get p) (s.field.outputs.get p) = s.field.outputs.get p := by
    simp [outputRewritten]
  rw [h]
  exact judgeOutput_of_judged (hj p).1 (hj p).2

end

/-! ## A write of INPUTS (R152, R153) -/

/-- A write of one INPUTS entry acts at its input alone. -/
theorem State.applyTables_input {j : Fin 8} {n : InputEntry} :
    let t := s.applyTables (s.tables.put (.input j n))
    let old := s.tables.inputs.get j
    let x := s.field.inputs.get j
    (∀ k : Fin 8, k ≠ j → t.field.inputs.get k = s.field.inputs.get k)
      ∧ t.field.inputs.get j = (if old.polarity = n.polarity then x else x.turned n)
      ∧ (n.function = .trimInhibit → (old.function = .trimInhibit → x.filtered = false) →
          (t.field.inputs.get j).filtered = true → t.isPending .inhibitActive = true) := by
  intro t old x
  have hone : t = State.inputRewritten s.tables.inputs (s.tables.inputs.set j n) (s.beforeInputs (s.tables.put (.input j n))) j := by
    refine (State.applyTables_eq_inputsRewritten _ _).trans (State.inputsRewritten_one fun i hi => ?_)
    exact ((Bank.get_set _ _ _ _).trans (if_neg hi)).symm
  obtain ⟨-, -, -, -, -, hin, -⟩ := s.beforeInputs_keeps (s.tables.put (.input j n))
  have htab : (s.beforeInputs (s.tables.put (.input j n))).tables = s.tables.put (.input j n) := s.beforeInputs_tables _
  have hnew : (s.tables.inputs.set j n).get j = n := (Bank.get_set _ _ _ _).trans (if_pos rfl)
  rw [hone]
  refine ⟨fun k hk => ?_, ?_, fun hf ho ha => ?_⟩
  · rw [State.inputRewritten_input, if_neg fun h => hk h.1, hin]
  · rw [State.inputRewritten_input, hin, htab, hnew]
    by_cases hp : old.polarity = n.polarity
    · rw [if_pos hp, if_neg fun h => h.2 hp]
    · rw [if_neg hp, if_pos ⟨rfl, hp⟩]
      exact congrArg (x.turned ·) hnew
  · refine State.inputRewritten_inhibit (by rw [htab]; rfl) (by rw [hnew]; exact hf) ?_ ha
    rw [hin]
    exact ho

/-! ## The checks of R62 -/

/-- The index of an entry is one of its kind's. -/
theorem Entry.index_lt (e : Entry) : e.index < e.kind.count := by
  cases e with
  | geometry e | logClasses e | sawBus e => exact Nat.zero_lt_one
  | head i e | gradeSet i e | priceRow i e | product i e | input i e | output i e => exact i.isLt

theorem TableKind.count_le (k : TableKind) : k.count ≤ 256 := by cases k <;> decide

/-- The bytes of an entry that passes its checks reach the owner's last decisions (R62). -/
theorem State.writeTable_encoded {e : Entry} (hs : s.saving = false) (hg : s.tables.geometry.valid = true)
    (ha : s.tables.admits e = true) (ft : Byte) :
    s.writeTable ft (e.kind.code :: u8 e.index :: e.encode) =
      if e.needsStopped && !s.editable then s.refuse tableWriteKind ft .state else s.writeEntry ft e := by
  have hidx := e.index_lt
  have hlt : e.index < 256 := Nat.lt_of_lt_of_le hidx e.kind.count_le
  rw [State.writeTable_decoded (TableKind.ofCode_code _) (by rw [toNat_u8 hlt]; exact hidx) (Entry.encode_length ha) hs
    (by rw [toNat_u8 hlt]; exact Entry.decode_encode hg ha), if_neg (by simp [ha])]

/-- What reads as an entry of a kind is of that kind. -/
theorem Entry.kind_of_decode {k : TableKind} {i : Nat} {l : List Byte} {e : Entry} (h : Entry.decode k i l = some e) :
    e.kind = k := by
  cases k <;>
    simp only [Entry.decode, Option.map_eq_some_iff, Option.bind_eq_bind, Option.bind_eq_some_iff, Option.pure_def,
      Option.some.injEq] at h
  case geometry | logClasses | sawBus =>
    obtain ⟨_, -, rfl⟩ := h
    rfl
  all_goals
    obtain ⟨_, -, _, -, rfl⟩ := h
    rfl

theorem Entry.needsStopped_iff (e : Entry) : e.needsStopped = true ↔ e.kind = .geometry ∨ e.kind = .heads := by
  cases e <;> simp [Entry.needsStopped, Entry.kind]

end

/-- Settles O10: the entry's bytes read back (O8), and the replacement acts on outputs, pos, heads and modules, then on the inputs. -/
theorem tableWriteApplies : Obligations.TableWriteApplies := by
  refine ⟨fun ft e s h hs hg ha hstop huse => ?_, fun ft k i body s h => ?_⟩
  · have hrun : exec (.tableWrite ft (e.kind.code :: u8 e.index :: e.encode)) s =
        .next (((s.received .control (e.kind.code :: u8 e.index :: e.encode)).applyEntry e).ok tableWriteKind ft []) := by
      rw [exec_tableWrite_taken h, State.writeTable_encoded (s := s.received _ _) hs hg ha, if_neg,
        State.writeEntry_of_not_inUse (s := s.received _ _) huse]
      simp only [Bool.and_eq_true, Bool.not_eq_true', not_and, Bool.not_eq_false]
      exact fun hn => (State.editable_iff _).mpr (hstop hn)
    generalize hr : s.received .control (e.kind.code :: u8 e.index :: e.encode) = r at hrun
    unfold State.applyEntry at hrun
    have htables := r.applyTables_tables_eq (r.tables.put e)
    have hstore := r.applyTables_store (r.tables.put e)
    have hreplies := r.applyTables_replies (r.tables.put e)
    have hinputs : e.kind ≠ .inputs → r.applyTables (r.tables.put e) = r.beforeInputs (r.tables.put e) :=
      fun hk => State.applyTables_of_inputs (Tables.put_inputs _ hk)
    have hkeep := r.beforeInputs_keeps (r.tables.put e)
    have houtput : ∀ (o : Fin 8) (n : OutputEntry), e = .output o n → _ :=
      fun o n he => he ▸ State.applyTables_output (s := r) (o := o) (n := n)
    have hinput : ∀ (j : Fin 8) (n : InputEntry), e = .input j n → _ :=
      fun j n he => he ▸ State.applyTables_input (s := r) (j := j) (n := n)
    generalize r.beforeInputs (r.tables.put e) = w at hkeep hinputs
    generalize r.applyTables (r.tables.put e) = v at hrun htables hstore hreplies hinputs houtput hinput
    subst hr
    refine ⟨_, hrun, htables, congrArg (fun x : Store => { x with editMark := true }) hstore,
      congrArg (· ++ [okFrame tableWriteKind ft []]) hreplies, fun hk => ?others, ?output, ?input⟩
    case others =>
      obtain rfl := hinputs hk
      obtain ⟨htr, hruns, hlane, hsolver, hcons, hin, -, hheads, hsaw, hmod, hoff⟩ := hkeep
      exact ⟨htr, hruns, hlane, hsolver, hcons, hin, hheads, hsaw, hmod, hoff⟩
    case output =>
      intro o n he hj
      obtain ⟨hjudged, hget⟩ := houtput o n he
      have ho := hget o
      rw [show (_ : Bank 8 OutputEntry).get o = n from (Bank.get_set _ _ _ _).trans (if_pos rfl)] at ho
      refine ⟨State.outputsJudged.of_eq hjudged rfl rfl rfl fun _ => rfl, fun p hp => (hget p).trans ?_,
        State.outputWritten (s := s) hj ho⟩
      rw [Bank.get_set, if_neg hp]
      exact State.output_not_written (s := s) hj p
    case input => exact hinput
  · have href : ∀ code, (s.received .control (k :: i :: body)).writeTable ft (k :: i :: body) =
        (s.received .control (k :: i :: body)).refuse tableWriteKind ft code →
        exec (.tableWrite ft (k :: i :: body)) s = .next (s.answered (k :: i :: body) (refusedFrame tableWriteKind ft code)) :=
      fun code hc => (exec_tableWrite_taken h ft k i body).trans (congrArg _ hc)
    refine ⟨fun hk => href .badValue ?_, fun kind hk => ⟨fun hi => href .noSuch ?_, fun hi hl => href .badLength ?_,
      fun hi hl hsv => href .busy ?_, fun hi hl hsv => ⟨fun hd => href .badValue ?_, fun e hd =>
        ⟨fun ha => href .badValue ?_, fun ha hkind hed => href .state ?_⟩⟩⟩⟩
    · simp only [State.writeTable, hk]
    · simp only [State.writeTable, hk, if_pos hi]
    · simp only [State.writeTable, hk, if_neg (Nat.not_le.mpr hi), if_pos hl]
    · simp only [State.writeTable, hk, if_neg (Nat.not_le.mpr hi), hl, State.received_saving, hsv]
      simp
    · simp only [State.writeTable, hk, if_neg (Nat.not_le.mpr hi), hl, State.received_saving, hsv, hd]
      simp
    · rw [State.writeTable_decoded (s := s.received _ _) hk hi hl hsv hd, if_pos (by simp [ha])]
    · have hn : e.needsStopped = true := e.needsStopped_iff.mpr ((Entry.kind_of_decode hd).symm ▸ hkind)
      have hne : s.editable = false := Bool.eq_false_iff.mpr (mt s.editable_iff.mp hed)
      rw [State.writeTable_decoded (s := s.received _ _) hk hi hl hsv hd, if_neg (by simp [ha]), if_pos (by simp [hn, hne])]

/-- Settles O11: the write of a set in use only sets the request in process; its release is the application of O10 with that cleared. -/
theorem heldWriteWaitsForTheSolve : Obligations.HeldWriteWaitsForTheSolve := by
  refine ⟨fun ft e s h hs hg ha huse => ?held, fun w s he hw => ?released⟩
  case held =>
    have hn : e.needsStopped = false := by
      cases e with
      | geometry e | head i e => cases huse
      | _ => rfl
    rw [exec_tableWrite_taken h, State.writeTable_encoded (s := s.received _ _) hs hg ha, if_neg (by simp [hn]), State.writeEntry,
      if_pos (show (s.received _ _).inUse e = true from huse)]
    rfl
  case released =>
    have hheld : s.heldWrite = some w := by simp only [State.heldWrite, hw]
    have hrel : exec .heldWriteApplied s =
        .next (((s.applyEntry w.entry).setCtl fun c => { c with inProcess := none }).ok tableWriteKind w.frameTag []) := by
      show Host.Outcome.next s.releaseHeld = _
      unfold State.releaseHeld
      rw [he, hheld]
    have htables := s.applyTables_tables_eq (s.tables.put w.entry)
    have hstore := s.applyTables_store (s.tables.put w.entry)
    have hreplies := s.applyTables_replies (s.tables.put w.entry)
    unfold State.applyEntry at hrel
    generalize s.applyTables (s.tables.put w.entry) = v at hrel htables hstore hreplies
    exact ⟨_, hrel, htables, congrArg (fun x : Store => { x with editMark := true }) hstore, rfl,
      congrArg (· ++ [okFrame tableWriteKind w.frameTag []]) hreplies⟩

end Sys2Proof.Machine


/-! PROOF. Grading (R40 to R49): cell grades, marks, valid spans, span grades and the choice, each by what it says of a cell or a
span, and a solve by them (O35). -/

namespace Sys2Proof.Machine

-- One proof after the other: together they would ask for more threads than the check has memory for.
set_option Elab.async false

/-! ## The first grade that fits (R40, R43) -/

/-- The number from `g` on of the first record that fits, the fit depending on the number; past the last record where none does. -/
def firstFitting (fits : Nat → GradeRecord → Bool) (g : Nat) : List GradeRecord → Nat
  | [] => g
  | r :: rs => if fits g r then g else firstFitting fits (g + 1) rs

theorem firstGrade_eq_firstFitting (d : CellData) (g : Nat) (rs : List GradeRecord) :
    firstGrade d g rs = firstFitting (fun _ r => r.meets d) g rs := by
  induction rs generalizing g with
  | nil => rfl
  | cons r rs ih => rw [firstGrade, firstFitting, ih]

/-- A span with these cell grades qualifies for grade `g` (R43). -/
def qualifies (cells : List CellGrade) (g : Nat) (r : GradeRecord) : Bool :=
  cells.all (·.noWorse (g + 1)) && decide (cells.count (.grade (g + 1)) ≤ r.allowance)

theorem qualify_eq_firstFitting (cells : List CellGrade) (g : Nat) (rs : List GradeRecord) :
    qualify cells g rs = firstFitting (qualifies cells) g rs := by
  induction rs generalizing g with
  | nil => rfl
  | cons r rs ih => rw [qualify, firstFitting, ih, qualifies]

section
variable {fits : Nat → GradeRecord → Bool}

theorem firstFitting_bounds (g : Nat) (rs : List GradeRecord) :
    g ≤ firstFitting fits g rs ∧ firstFitting fits g rs ≤ g + rs.length := by
  induction rs generalizing g with
  | nil => exact ⟨Nat.le_refl _, Nat.le_refl _⟩
  | cons r rs ih =>
    have := ih (g + 1)
    rw [firstFitting, List.length_cons]
    split <;> omega

theorem firstFitting_spec {g : Nat} {rs : List GradeRecord} {j : Nat} {r : GradeRecord} (h : rs[j]? = some r) :
    (g + j < firstFitting fits g rs → fits (g + j) r = false) ∧ (g + j = firstFitting fits g rs → fits (g + j) r = true) := by
  induction rs generalizing g j with
  | nil => cases h
  | cons x rs ih =>
    rw [firstFitting]
    cases j with
    | zero =>
      obtain rfl : x = r := Option.some.inj h
      by_cases hx : fits g x = true
      · rw [if_pos hx]
        exact ⟨fun hl => absurd hl (by omega), fun _ => hx⟩
      · have := (firstFitting_bounds (fits := fits) (g + 1) rs).1
        rw [if_neg hx]
        exact ⟨fun _ => by simpa using hx, fun he => absurd he (by omega)⟩
    | succ j =>
      by_cases hx : fits g x = true
      · rw [if_pos hx]
        exact ⟨fun hl => absurd hl (by omega), fun he => absurd he (by omega)⟩
      · have := ih (g := g + 1) (j := j) h
        rw [if_neg hx]
        rwa [show g + (j + 1) = g + 1 + j by omega]

/-- The first of the six records of a grade set. -/
theorem firstFitting_firstOfSix (set : GradeSet) {p : Fin 6 → Prop} (h : ∀ i : Fin 6, fits (i.val + 1) (set.get i) = true ↔ p i) :
    firstOfSix p (firstFitting fits 1 set.items) := by
  have hb := firstFitting_bounds (fits := fits) 1 set.items
  rw [set.size] at hb
  have hget : ∀ i : Fin 6, set.items[i.val]? = some (set.get i) := fun i => List.getElem?_eq_getElem _
  refine ⟨hb.1, hb.2, fun i hi hp => ?_, fun i hi => ?_⟩
  · have := (firstFitting_spec (fits := fits) (g := 1) (hget i)).1 (by omega)
    rw [Nat.add_comm, (h i).mpr hp] at this
    cases this
  · have := (firstFitting_spec (fits := fits) (g := 1) (hget i)).2 (by omega)
    rw [Nat.add_comm] at this
    exact (h i).mp this

end

theorem GradeRecord.meets_iff (r : GradeRecord) (d : CellData) : r.meets d = true ↔ r.admitsCell d := by
  have himp : ∀ a b : Bool, a = false ∨ b = true ↔ (a = true → b = true) := by decide
  simp only [GradeRecord.meets, GradeRecord.admitsCell, Bool.and_eq_true, decide_eq_true_eq, Bool.or_eq_true,
    Bool.not_eq_true', and_assoc, himp]

theorem qualifies_iff (cells : List CellGrade) (i : Fin 6) (r : GradeRecord) :
    qualifies cells (i.val + 1) r = true ↔ r.admitsSpan i cells := by
  have hw : ∀ c : CellGrade, c.noWorse (i.val + 1 + 1) = true ↔ ∃ g ≤ i.val + 2, c = .grade g := by
    intro c
    cases c <;> simp [CellGrade.noWorse]
  simp only [qualifies, GradeRecord.admitsSpan, Bool.and_eq_true, List.all_eq_true, hw, decide_eq_true_eq]

/-! ## Cell grades and marks (R40, R41) -/

theorem length_applyMark (m : Mark) (i : Nat) (gs : List CellGrade) : (applyMark m i gs).length = gs.length := by
  induction gs generalizing i with
  | nil => rfl
  | cons g gs ih => rw [applyMark, List.length_cons, ih, List.length_cons]

theorem getElem?_applyMark (m : Mark) (i j : Nat) (gs : List CellGrade) :
    (applyMark m i gs)[j]? =
      gs[j]?.map fun g => if m.first ≤ i + j ∧ i + j ≤ m.last ∧ g ≠ .gap then .grade m.grade else g := by
  induction gs generalizing i j with
  | nil => rfl
  | cons g gs ih =>
    rw [applyMark]
    cases j with
    | zero => rfl
    | succ j => rw [List.getElem?_cons_succ, List.getElem?_cons_succ, ih, Nat.add_right_comm, ← Nat.add_assoc]

/-- The last mark that covers a cell. -/
def lastMark (marks : List Mark) (j : Nat) : Option Mark := (marks.filter fun m => decide (m.first ≤ j ∧ j ≤ m.last)).getLast?

theorem lastMark_concat (ms : List Mark) (m : Mark) (j : Nat) :
    lastMark (ms ++ [m]) j = if m.first ≤ j ∧ j ≤ m.last then some m else lastMark ms j := by
  unfold lastMark
  rw [List.filter_append, List.filter_singleton]
  by_cases hm : m.first ≤ j ∧ j ≤ m.last
  · rw [decide_eq_true hm, if_pos hm, cond_true, List.getLast?_concat]
  · rw [decide_eq_false hm, if_neg hm, cond_false, List.append_nil]

/-- A cell grade after marks have been applied: that of the last mark that covers the cell, where it is no gap. -/
def CellGrade.marked (marks : List Mark) (j : Nat) (g : CellGrade) : CellGrade :=
  if g = .gap then .gap else (lastMark marks j).elim g fun m => .grade m.grade

theorem CellGrade.marked_of_ne {marks : List Mark} {j : Nat} {g : CellGrade} (h : g ≠ .gap) :
    g.marked marks j = (lastMark marks j).elim g fun m => .grade m.grade := if_neg h

theorem CellGrade.marked_concat (ms : List Mark) (m : Mark) (j : Nat) (g : CellGrade) :
    g.marked (ms ++ [m]) j = if m.first ≤ j ∧ j ≤ m.last ∧ g.marked ms j ≠ .gap then .grade m.grade else g.marked ms j := by
  by_cases hg : g = .gap
  · simp [CellGrade.marked, hg]
  · have hne : g.marked ms j ≠ .gap := by
      rw [CellGrade.marked_of_ne hg]
      cases lastMark ms j
      · exact hg
      · exact nofun
    rw [CellGrade.marked_of_ne hg, lastMark_concat]
    by_cases hm : m.first ≤ j ∧ j ≤ m.last
    · rw [if_pos hm, if_pos ⟨hm.1, hm.2, hne⟩]
      rfl
    · rw [if_neg hm, if_neg fun h => hm ⟨h.1, h.2.1⟩, CellGrade.marked_of_ne hg]

theorem getElem?_foldl_applyMark (marks : List Mark) (gs : List CellGrade) (j : Nat) :
    (marks.foldl (fun gs m => applyMark m 0 gs) gs)[j]? = gs[j]?.map (CellGrade.marked marks j) := by
  induction marks using List.reverseRecOn with
  | nil =>
    have : CellGrade.marked [] j = id := by
      funext g
      unfold CellGrade.marked
      split
      · next h => exact h.symm
      · rfl
    rw [this, Option.map_id]
    rfl
  | append_singleton ms m ih =>
    rw [List.foldl_concat, getElem?_applyMark, ih, Option.map_map, Nat.zero_add]
    exact congrArg (Option.map · _) (funext fun g => (CellGrade.marked_concat ms m j g).symm)

theorem length_gradeCells (set : GradeSet) (unseen : Nat) (marks : List Mark) (cells : List Cell) (e : Nat) :
    (gradeCells set unseen marks cells e).length = min e cells.length := by
  have hfold : ∀ gs : List CellGrade, (marks.foldl (fun gs m => applyMark m 0 gs) gs).length = gs.length := by
    induction marks with
    | nil => exact fun _ => rfl
    | cons m ms ih => exact fun gs => (ih _).trans (length_applyMark m 0 gs)
  rw [gradeCells, hfold, List.length_map, List.length_take]

theorem getElem?_gradeCells (set : GradeSet) (unseen : Nat) (marks : List Mark) (cells : List Cell) {e j : Nat} (h : j < e) :
    (gradeCells set unseen marks cells e)[j]? = cells[j]?.map fun c => (cellGrade set unseen c).marked marks j := by
  rw [gradeCells, getElem?_foldl_applyMark, List.getElem?_map, List.getElem?_take_of_lt h, Option.map_map]
  rfl

/-! ## Valid spans (R42) -/

/-- What a span of cells holds. -/
theorem mem_spanCells {α : Type} {pitch a b : Nat} {l : List α} {x : α} :
    x ∈ spanCells pitch a b l ↔ ∃ j, a * pitch ≤ j ∧ j < b * pitch ∧ l[j]? = some x := by
  rw [spanCells, List.mem_iff_getElem?]
  simp only [List.getElem?_take, List.getElem?_drop]
  constructor
  · rintro ⟨k, hk⟩
    split at hk
    · next hlt =>
      refine ⟨a * pitch + k, Nat.le_add_right _ _, ?_, hk⟩
      rw [Nat.sub_mul] at hlt
      omega
    · cases hk
  · rintro ⟨j, h1, h2, h3⟩
    refine ⟨j - a * pitch, ?_⟩
    rw [if_pos (by rw [Nat.sub_mul]; omega), show a * pitch + (j - a * pitch) = j by omega]
    exact h3

theorem lengthAllowed_iff (minLength : Nat) (forced : Option Nat) (n : Nat) :
    lengthAllowed minLength forced n = true ↔ match forced with | some f => n = f | none => minLength ≤ n := by
  cases forced <;> simp [lengthAllowed]

theorem spanValid_iff (pitch e : Nat) (cells : List Cell) (minLength : Nat) (forced : Option Nat) (a b : Nat) :
    spanValid pitch e (gapsOf cells e) minLength forced a b = true ↔ spanAllowed pitch e cells minLength forced a b := by
  unfold spanValid spanAllowed
  rw [Bool.and_eq_true, Bool.and_eq_true, Bool.and_eq_true, decide_eq_true_eq, decide_eq_true_eq, and_assoc, and_assoc,
    lengthAllowed_iff]
  refine and_congr_right fun _ => and_congr_right fun he => and_congr_left fun _ => ?_
  rw [Bool.not_eq_true', List.any_eq_false]
  simp only [mem_spanCells, id_eq]
  constructor
  · intro h j h1 h2 hc
    refine h true ⟨j, h1, h2, ?_⟩ rfl
    rw [gapsOf, List.getElem?_map, List.getElem?_take_of_lt (by omega), hc]
    rfl
  · rintro h x ⟨j, h1, h2, h3⟩ rfl
    rw [gapsOf, List.getElem?_map, List.getElem?_take_of_lt (by omega), Option.map_eq_some_iff] at h3
    obtain ⟨c, hc, he⟩ := h3
    exact h j h1 h2 (by rw [hc, beq_iff_eq.mp he])

theorem mem_validSpans {g : Geometry} {e : Nat} {cells : List Cell} {minLength : Nat} {forced : Option Nat} {p : Nat × Nat} :
    p ∈ validSpans g e (gapsOf cells e) minLength forced ↔
      p.2 < g.saws ∧ spanAllowed g.pitch e cells minLength forced p.1 p.2 := by
  rw [validSpans, List.mem_filter, spanValid_iff]
  obtain ⟨a, b⟩ := p
  refine ⟨fun ⟨hm, hs⟩ => ⟨?_, hs⟩, fun ⟨hb, hs⟩ => ⟨?_, hs⟩⟩
  · simp only [sawPairs, List.mem_flatMap, List.mem_map, List.mem_filter, List.mem_range, Prod.mk.injEq] at hm
    obtain ⟨_, _, _, ⟨hb, _⟩, _, rfl⟩ := hm
    exact hb
  · simp only [sawPairs, List.mem_flatMap, List.mem_map, List.mem_filter, List.mem_range, decide_eq_true_eq, Prod.mk.injEq]
    have hab : a < b := hs.1
    exact ⟨a, by omega, b, ⟨hb, hab⟩, rfl, rfl⟩

/-- A span of a forced length exists (R91). -/
theorem hasSpanOf_iff (g : Geometry) (cells : List Cell) (extent : Option Nat) (n : Nat) :
    hasSpanOf g cells extent n = true ↔ ∃ e a b, extent = some e ∧ b < g.saws ∧ spanAllowed g.pitch e cells 0 (some n) a b := by
  cases extent with
  | none => simp [hasSpanOf]
  | some e =>
    rw [hasSpanOf, Bool.not_eq_true', List.isEmpty_eq_false_iff_exists_mem]
    constructor
    · rintro ⟨p, hp⟩
      exact ⟨e, p.1, p.2, rfl, mem_validSpans.mp hp⟩
    · rintro ⟨_, a, b, he, h⟩
      obtain rfl := Option.some.inj he
      exact ⟨(a, b), mem_validSpans.mpr h⟩

/-! ## The choice (R46) -/

theorem Keep.beats_iff (x y : Keep) :
    x.beats y = true ↔ y.value < x.value ∨ x.value = y.value ∧ (y.length < x.length ∨ x.length = y.length ∧ x.a < y.a) := by
  simp only [Keep.beats, Bool.or_eq_true, Bool.and_eq_true, decide_eq_true_eq, beq_iff_eq]

/-- No span beats the one chosen: what is left then. -/
theorem Keep.not_beats_iff (x y : Keep) :
    ¬ x.beats y = true ↔ x.value < y.value ∨ x.value = y.value ∧ (x.length < y.length ∨ x.length = y.length ∧ y.a ≤ x.a) := by
  rw [Keep.beats_iff]
  omega

theorem foldl_pickBetter_spec (l : List Keep) {b : Keep} {seen : List Keep} (hb : b ∈ seen) (hs : ∀ y ∈ seen, ¬ y.beats b = true) :
    ∃ k ∈ seen ++ l, l.foldl pickBetter (some b) = some k ∧ ∀ y ∈ seen ++ l, ¬ y.beats k = true := by
  induction l generalizing b seen with
  | nil => exact ⟨b, by simpa using hb, rfl, by simpa using hs⟩
  | cons x l ih =>
    rw [List.foldl_cons, pickBetter, show seen ++ x :: l = (seen ++ [x]) ++ l by simp]
    by_cases hx : x.beats b = true
    · rw [if_pos hx]
      refine ih (by simp) fun y hy => ?_
      rcases List.mem_append.mp hy with hy | hy
      · have := hs y hy
        rw [Keep.beats_iff] at *
        omega
      · rw [List.mem_singleton.mp hy, Keep.beats_iff]
        omega
    · rw [if_neg hx]
      refine ih (by simp [hb]) fun y hy => ?_
      rcases List.mem_append.mp hy with hy | hy
      · exact hs y hy
      · rwa [List.mem_singleton.mp hy]

theorem choose_eq_none_iff {l : List Keep} : choose l = none ↔ l = [] := by
  cases l with
  | nil => exact ⟨fun _ => rfl, fun _ => rfl⟩
  | cons x l =>
    obtain ⟨k, -, hk, -⟩ := foldl_pickBetter_spec l (b := x) (seen := [x]) (by simp) (by simp [Keep.beats_iff])
    exact ⟨fun h => (Option.some_ne_none k (hk.symm.trans h)).elim, nofun⟩

/-- The span chosen is a candidate that no candidate beats. -/
theorem choose_eq_some {l : List Keep} {k : Keep} (h : choose l = some k) : k ∈ l ∧ ∀ y ∈ l, ¬ y.beats k = true := by
  cases l with
  | nil => cases h
  | cons x l =>
    obtain ⟨k', hm, hk, hbest⟩ := foldl_pickBetter_spec l (b := x) (seen := [x]) (by simp) (by simp [Keep.beats_iff])
    obtain rfl : k' = k := Option.some.inj (hk.symm.trans h)
    exact ⟨hm, hbest⟩

/-- The choice among the valid spans, by what it says of every span (R42, R46). -/
theorem choose_validSpans {g : Geometry} {e : Nat} {cells : List Cell} {minLength : Nat} {forced : Option Nat} {grade : Nat → Nat → PieceGrade}
    {value : Nat → Nat → Nat} {best : Option Keep}
    (hbest : best = choose ((validSpans g e (gapsOf cells e) minLength forced).map fun (a, b) =>
      { a := a, b := b, grade := grade a b, value := value a b })) :
    let valid := fun a b : Nat => b < g.saws ∧ spanAllowed g.pitch e cells minLength forced a b
    (best = none ↔ ∀ a b, ¬valid a b)
      ∧ ∀ k, best = some k → valid k.a k.b ∧ k.grade = grade k.a k.b ∧ k.value = value k.a k.b
        ∧ ∀ a b, valid a b → value a b < k.value
          ∨ (value a b = k.value ∧ (b - a < k.b - k.a ∨ (b - a = k.b - k.a ∧ k.a ≤ a))) := by
  intro valid
  subst hbest
  have hmem : ∀ p, p ∈ validSpans g e (gapsOf cells e) minLength forced ↔ valid p.1 p.2 := fun _ => mem_validSpans
  refine ⟨?_, fun k hk => ?_⟩
  · rw [choose_eq_none_iff, List.map_eq_nil_iff, List.eq_nil_iff_forall_not_mem]
    exact ⟨fun h a b hv => h (a, b) ((hmem (a, b)).mpr hv), fun h p hp => h _ _ ((hmem p).mp hp)⟩
  · obtain ⟨hm, hb⟩ := choose_eq_some hk
    obtain ⟨p, hp, rfl⟩ := List.mem_map.mp hm
    refine ⟨(hmem p).mp hp, rfl, rfl, fun a b hv => ?_⟩
    exact (Keep.not_beats_iff _ _).mp (hb _ (List.mem_map.mpr ⟨(a, b), (hmem (a, b)).mpr hv, rfl⟩))

/-! ## A solve (R39 to R48) -/

theorem solve_of_extent (t : Tables) {job : SolveJob} {e : Nat} (h : job.extent = some e) :
    (solve t job).cellGrades = gradeCells (t.gradeSetOf job.product) job.product.unseen job.overrides.marks job.cells e
      ∧ (solve t job).keep = (if job.overrides.forcedScrap = true then none
          else choose (candidates t job.product job.overrides (solve t job).cellGrades (gapsOf job.cells e) e))
      ∧ (solve t job).noSpan = (!job.overrides.forcedScrap && (solve t job).keep.isNone) := by
  unfold solve
  rw [h]
  exact ⟨rfl, rfl, rfl⟩

theorem Overrides.source_eq (o : Overrides) :
    o.source =
      if o = { marks := [], forcedGrade := none, forcedLength := none, forcedScrap := false } then .solver else .override := by
  obtain ⟨marks, grade, length, scrap⟩ := o
  unfold Overrides.source Overrides.inForce
  cases marks <;> cases grade <;> cases length <;> cases scrap <;> rfl

/-- Settles O35: the cells by their grades and marks, the spans by the choice among the valid ones. -/
theorem solveKeepsTheBestSpan : Obligations.SolveKeepsTheBestSpan := by
  refine ⟨?_, fun t job h => ?_, fun t job => ⟨?_, ?_⟩⟩
  · intro t job e he set o pitch grades valid
    obtain ⟨hgrades, hkeep, hnoSpan⟩ := solve_of_extent t he
    refine ⟨?_, fun j c hj hc => ?_, fun hs => ?_, fun hs => ?_⟩
    · show (solve t job).cellGrades.length = _
      rw [hgrades, length_gradeCells]
    · refine ⟨(cellGrade set job.product.unseen c).marked o.marks j, ?_, fun h => ?_, fun hne => ?_⟩
      · show (solve t job).cellGrades[j]? = _
        rw [hgrades, getElem?_gradeCells _ _ _ _ hj, hc]
        rfl
      · rw [h]
        exact if_pos rfl
      · have hg : cellGrade set job.product.unseen c ≠ .gap := by
          cases c with
          | empty => exact absurd rfl hne
          | unseen | present d => exact nofun
        rw [CellGrade.marked_of_ne hg]
        show match lastMark o.marks j with | some m => _ | none => _
        cases lastMark o.marks j with
        | some m => rfl
        | none =>
          refine ⟨fun h => by rw [h]; rfl, ?_⟩
          rintro d rfl
          refine ⟨_, rfl, ?_⟩
          rw [firstGrade_eq_firstFitting]
          exact firstFitting_firstOfSix set fun i => (set.get i).meets_iff d
    · have hs' : job.overrides.forcedScrap = true := hs
      rw [hnoSpan, hkeep, if_pos hs', hs']
      exact ⟨rfl, rfl⟩
    · have hs' : job.overrides.forcedScrap = false := hs
      rw [hs', if_neg Bool.false_ne_true] at hkeep
      rw [hs', Bool.not_false, Bool.true_and] at hnoSpan
      obtain ⟨hnone, hsome⟩ := choose_validSpans (grade := fun a b => .graded (spanGrade set o.forcedGrade (spanCells pitch a b grades)))
        (value := fun a b => t.price job.product (spanGrade set o.forcedGrade (spanCells pitch a b grades)) (b - a)) hkeep
      refine ⟨fun a b => spanGrade set o.forcedGrade (spanCells pitch a b grades), fun a b _ => ?_, hnone, ?_, hsome⟩
      · cases o.forcedGrade with
        | some g => rfl
        | none =>
          show firstOfSix _ (qualify _ 1 set.items)
          rw [qualify_eq_firstFitting]
          exact firstFitting_firstOfSix set fun i => qualifies_iff _ i _
      · rw [hnoSpan, Option.isNone_iff_eq_none]
  · unfold solve
    rw [h]
  · unfold solve
    split <;> rfl
  · rw [← Overrides.source_eq]
    unfold solve
    split <;> rfl

end Sys2Proof.Machine


/-! PROOF. The solver's start and completion, and the consoles' claims and overrides (R39, R51, R52, R85 to R92; O33, O34, O41,
O42). -/

namespace Sys2Proof.Machine

-- One proof after the other: together they would ask for more threads than the check has memory for.
set_option Elab.async false

/-! ## The arbiter (R51) -/

/-- The nearer to commit of the slot in hand and the next, the one in hand where they are equal. -/
def nearer (best : Option Slot) (x : Slot) : Option Slot :=
  match best with
  | none => some x
  | some b => if b.offset < x.offset then some x else some b

theorem nearestCommit_cons (best : Option Slot) (x : Slot) (l : List Slot) :
    nearestCommit best (x :: l) = nearestCommit (nearer best x) l := rfl

theorem nearer_eq_or (best : Option Slot) (x : Slot) : nearer best x = some x ∨ nearer best x = best := by
  cases best with
  | none => exact .inl rfl
  | some b =>
    unfold nearer
    dsimp only
    split
    · exact .inl rfl
    · exact .inr rfl

/-- Among slots at different offsets the arbiter finds the one at the highest. -/
theorem nearestCommit_eq {x : Slot} {l : List Slot} {best : Option Slot} (hl : ∀ y ∈ l, y = x ∨ y.offset < x.offset)
    (hb : ∀ y ∈ best, y = x ∨ y.offset < x.offset) (hx : x ∈ l ∨ best = some x) : nearestCommit best l = some x := by
  induction l generalizing best with
  | nil => exact hx.resolve_left List.not_mem_nil
  | cons y l ih =>
    have hy := hl y List.mem_cons_self
    rw [nearestCommit_cons]
    refine ih (fun z hz => hl z (List.mem_cons_of_mem _ hz)) (fun z hz => ?_) ?_
    · rcases nearer_eq_or best y with h | h <;> rw [h] at hz
      · obtain rfl := Option.some.inj hz
        exact hy
      · exact hb z hz
    · rcases hx with hx | rfl
      · rcases List.mem_cons.mp hx with rfl | hx
        · right
          cases best with
          | none => rfl
          | some b =>
            rcases hb b rfl with rfl | hlt
            · exact if_neg (Nat.lt_irrefl _)
            · exact if_pos hlt
        · exact .inl hx
      · right
        rcases hy with rfl | hlt
        · exact if_neg (Nat.lt_irrefl _)
        · exact if_neg (by omega)

/-- A slot changed by its tag. -/
theorem changeSlot_eq_map (tag : Nat) (f : Slot → Slot) (ring : List Slot) :
    changeSlot tag f ring = ring.map fun x => if x.tag = tag then f x else x :=
  List.map_congr_left fun _ _ => if_congr beq_iff_eq rfl rfl

/-- In a ring in order two slots at one offset are the same. -/
theorem State.ringKept.eq_of_offset {s : State} (h : s.ringKept) {x y : Slot} (hx : x ∈ s.tracker.ring) (hy : y ∈ s.tracker.ring)
    (he : x.offset = y.offset) : x = y := by
  obtain ⟨hp, -⟩ := h
  have hn : (s.tracker.ring.map (·.offset)).Nodup := hp.imp fun h => Nat.ne_of_gt h
  exact List.inj_on_of_nodup_map hn hx hy he

/-- Settles O33: offsets differ along the ring, so the arbiter's strict comparison leaves the nearest piece. -/
theorem solveStartTakesTheNearest : Obligations.SolveStartTakesTheNearest := by
  intro x s hinv he hw hx hq hmax
  have hnear : nearestCommit none s.solveQueue = some x := by
    refine nearestCommit_eq (fun y hy => ?_) (fun _ h => absurd h (Option.not_mem_none _)) (.inl ?_)
    · obtain ⟨hy, hyq⟩ := List.mem_filter.mp hy
      rcases Nat.lt_or_ge y.offset x.offset with h | h
      · exact .inr h
      · exact .inl (hinv.ring.eq_of_offset hy hx (Nat.le_antisymm (hmax y hy hyq) h))
    · exact List.mem_filter.mpr ⟨hx, hq⟩
  rw [exec_eq_after, State.after_solveStart, State.startSolve, he, hw, hnear]
  show Host.Outcome.next ((s.updateSlot _ _).setSolver _) = _
  rw [State.updateSlot, changeSlot_eq_map]
  rfl

/-! ## Requests on a piece that are carried out (R85) -/

section
variable {c : Fin 4} {s : State} {tag : Nat} {x : Slot}

theorem Bank.set_modify {n : Nat} {α : Type} (b : Bank n α) (i : Fin n) (f : α → α) : (b.modify i f).set i (b.get i) = b :=
  Bank.eq_of_get fun j => by
    by_cases h : j = i
    · rw [Bank.get_set, if_pos h, h]
    · rw [Bank.get_set, if_neg h, Bank.get_modify, if_neg h]

theorem Bank.get_modify_same {n : Nat} {α : Type} (b : Bank n α) (i : Fin n) (f : α → α) : (b.modify i f).get i = f (b.get i) :=
  (Bank.get_modify b i i f).trans (if_pos rfl)

/-- The holder of a piece set and answered DONE: nothing but the holder, the outputs and the queue has changed. -/
theorem State.setHolder_done (hs : s.slot? tag = some x) (h : Option (Fin 4)) (ft : Byte) (p : List Byte) :
    let u := ((s.received (.console c) p).setHolder tag h).judge
    let t := u.consoleReply c (doneFrame ft tag (((u.slot? tag).map Slot.generation).getD 0))
    t.tracker.ring = (s.tracker.ring.map fun y =>
        if y.tag = tag then { y with console := { y.console with holder := h } } else y)
      ∧ (t.consoles.get c).queue =
          (s.consoles.get c).queue ++ [.reply { kind := 0x4E, tag := ft, payload := u16 tag ++ u16 x.generation }]
      ∧ t.outputsJudged ∧ t.field.inputs = s.field.inputs
      ∧ { t with tracker := { t.tracker with ring := s.tracker.ring }, links := s.links, field := s.field,
                 consoles := t.consoles.set c (s.consoles.get c) } = s := by
  intro u t
  have hslot : u.slot? tag = some { x with console := { x.console with holder := h } } := by
    refine (State.slot?_updateSlot (s := s.received (.console c) p)
      (f := fun y => { y with console := { y.console with holder := h } }) (fun _ => rfl) tag).trans ?_
    rw [show (s.received (.console c) p).slot? tag = some x from hs, Option.map_some, if_pos (beq_iff_eq.mpr (slot?_some hs).2)]
  have hgen : ((u.slot? tag).map Slot.generation).getD 0 = x.generation := by
    rw [hslot]
    rfl
  refine ⟨changeSlot_eq_map _ _ _, ?_, State.outputsJudged.of_eq (State.judge_outputsJudged _) rfl rfl rfl fun _ => rfl, rfl, ?_⟩
  · refine (congrArg Console.queue (Bank.get_modify_same _ _ _)).trans ?_
    rw [hgen]
    rfl
  · show { s with consoles := (s.consoles.modify c _).set c (s.consoles.get c) } = s
    rw [Bank.set_modify]

end

/-- Settles O41: the checks of R85 and R86 pass, and the holder is set or stays. -/
theorem claimAndReleaseMoveTheHolder : Obligations.ClaimAndReleaseMoveTheHolder := by
  intro c ft hi lo x s hready hs hk hw
  have hs' : (s.received (.console c) [hi, lo]).slot? (word hi lo) = some x := hs
  have hclaim : exec (.claim c ft [hi, lo]) s = .next ((s.received (.console c) [hi, lo]).takeClaim c ft (word hi lo)) :=
    congrArg _ (State.consoleFrame_taken hready ft [hi, lo] (word hi lo) _)
  have hrelease : exec (.release c ft [hi, lo]) s = .next ((s.received (.console c) [hi, lo]).takeRelease c ft (word hi lo)) :=
    congrArg _ (State.consoleFrame_taken hready ft [hi, lo] (word hi lo) _)
  have hbind : ((s.received (.console c) [hi, lo]).slot? (word hi lo)).bind (·.console.holder) = x.console.holder := by rw [hs']; rfl
  refine ⟨fun hn hlt => ?free, fun hh => ?own, fun hh => ?release⟩
  case free =>
    have hchk : (s.received (.console c) [hi, lo]).claimCheck c x = none := by
      unfold State.claimCheck
      rw [hn]
      exact if_neg (Nat.not_le.mpr hlt)
    refine ⟨_, hclaim.trans (congrArg _ ?_), State.setHolder_done hs (some c) ft [hi, lo]⟩
    rw [State.takeClaim, State.onPiece_done hs' hk hw hchk, hbind, hn, if_neg nofun]
  case own =>
    have hchk : (s.received (.console c) [hi, lo]).claimCheck c x = none := by
      unfold State.claimCheck
      rw [hh]
      exact if_pos rfl
    rw [hclaim, State.takeClaim, State.onPiece_done hs' hk hw hchk, hbind, hh, if_pos rfl, hs']
    rfl
  case release =>
    have hchk : heldBy c x = none := by
      unfold heldBy
      rw [hh]
      exact if_pos rfl
    refine ⟨_, hrelease.trans (congrArg _ ?_), State.setHolder_done hs none ft [hi, lo]⟩
    rw [State.takeRelease, State.onPiece_done hs' hk hw hchk]

/-! ## Overrides (R89 to R93) -/

theorem SolveRecord.overrideChanged_eq : SolveRecord.overrideChanged = SolveRecord.announced := by
  funext r
  obtain ⟨status, solution, generation, reSolve⟩ := r
  cases status <;> simp [SolveRecord.overrideChanged, SolveRecord.announced]

section
variable {c : Fin 4} {s : State} {tag : Nat} {x : Slot} {r : SolveRecord} {ft : Byte} {p : List Byte}

/-- An override request that passes its checks changes the record, is announced and answered DONE. -/
theorem State.onPiece_overrideTaken (h : s.holds c tag x r) {checks : Slot → Option ConsoleReason} (hc : checks x = none)
    {f : Overrides → Overrides} {act : State → State}
    (ha : act (s.received (.console c) p) = (s.received (.console c) p).changeOverrides tag f) :
    s.overrideTaken ((s.received (.console c) p).onPiece c ft tag true checks act) c ft tag r.generation f := by
  obtain ⟨-, hs, hk, hw, -, hr⟩ := h
  rw [State.onPiece_done (s := s.received (.console c) p) hs hk hw hc, ha]
  have hslot : ((s.received (.console c) p).changeOverrides tag f).slot? tag =
      some (({ x with console := { x.console with overrides := f x.console.overrides } } : Slot).setSolve
        SolveRecord.overrideChanged) := by
    refine (State.slot?_updateSlot (s := s.received (.console c) p)
      (f := fun y => ({ y with console := { y.console with overrides := f y.console.overrides } } : Slot).setSolve
        SolveRecord.overrideChanged) (fun _ => rfl) tag).trans ?_
    rw [show (s.received (.console c) p).slot? tag = some x from hs, Option.map_some, if_pos (beq_iff_eq.mpr (State.slot?_some hs).2)]
  have hgen : ((((s.received (.console c) p).changeOverrides tag f).slot? tag).map Slot.generation).getD 0 =
      (r.generation + 1) % 65536 := by
    rw [hslot, SolveRecord.overrideChanged_eq]
    simp only [Slot.setSolve, Slot.generation, hr, Option.map_some, Option.getD_some, SolveRecord.announced]
  refine ⟨?_, ?_, ?_⟩
  · refine (changeSlot_eq_map _ _ _).trans ?_
    rw [SolveRecord.overrideChanged_eq]
    rfl
  · rw [hgen]
    exact congrArg Console.queue (Bank.get_modify_same _ _ _)
  · rw [hgen]
    show { s with consoles := (s.consoles.modify c _).set c { (s.consoles.modify c _).get c with queue := _ } } = s
    rw [Bank.get_modify_same]
    exact congrArg (fun b => { s with consoles := b }) (Bank.set_modify s.consoles c _)

end

/-- The holder passes check 6. -/
theorem heldBy_self {c : Fin 4} {x : Slot} (h : x.console.holder = some c) : heldBy c x = none := by
  unfold heldBy
  rw [h]
  exact if_pos rfl

/-- Settles O42: each request passes the checks of its own, and all five change the record alike. -/
theorem overridesChangeTheRecord : Obligations.OverridesChangeTheRecord := by
  intro c ft hi lo x r s h
  have hh := h
  obtain ⟨hready, hs, hk, hw, hholder, hr⟩ := hh
  have hheld := heldBy_self hholder
  refine ⟨fun first last grade e hfl hl hg1 hg7 hm he hfe => ?mark, fun g hg1 hg7 => ?grade, fun n e a hn1 hn15 he ha hae hgap => ?length,
    ?scrap, ?clear⟩
  case mark =>
    have hrun : exec (.mark c ft [hi, lo, first, last, grade]) s = .next ((s.received (.console c) [hi, lo, first, last, grade]).takeMark c ft { tag := word hi lo, mark := { first := first.toNat, last := last.toNat, grade := grade.toNat } }) :=
      congrArg _ (State.consoleFrame_taken hready ft _ _ _)
    refine ⟨_, hrun, ?_⟩
    have hclip : Mark.clip { first := first.toNat, last := last.toNat, grade := grade.toNat } (some e) =
        some { first := first.toNat, last := min last.toNat (e - 1), grade := grade.toNat } := if_neg (Nat.not_le.mpr hfe)
    have hext : (s.received (.console c) [hi, lo, first, last, grade]).extentAt (word hi lo) = some e := by
      show (s.slot? (word hi lo)).bind _ = _
      rw [hs]
      exact he
    have hvalid : Mark.valid { first := first.toNat, last := last.toNat, grade := grade.toNat } = true := by
      simp [Mark.valid, within, hfl, hl, hg1, hg7]
    have hchk : markChecks c { first := first.toNat, last := last.toNat, grade := grade.toNat } x = none := by
      unfold markChecks
      rw [hheld, he, hclip]
      dsimp only
      rw [if_neg (show ¬ Config.markLimit ≤ _ from Nat.not_le.mpr hm)]
      rfl
    rw [State.takeMark, hvalid]
    refine State.onPiece_overrideTaken h hchk ?_
    dsimp only
    rw [hext, hclip]
    rfl
  case grade =>
    have hrun : exec (.forceGrade c ft [hi, lo, g]) s = .next ((s.received (.console c) [hi, lo, g]).takeForceGrade c ft (word hi lo, g.toNat)) :=
      congrArg _ (State.consoleFrame_taken hready ft _ _ _)
    refine ⟨_, hrun, ?_⟩
    rw [State.takeForceGrade, (within_iff 1 7 _).mpr ⟨hg1, hg7⟩]
    exact State.onPiece_overrideTaken h hheld rfl
  case length =>
    have hrun : exec (.forceLength c ft [hi, lo, n]) s = .next ((s.received (.console c) [hi, lo, n]).takeForceLength c ft (word hi lo, n.toNat)) :=
      congrArg _ (State.consoleFrame_taken hready ft _ _ _)
    refine ⟨_, hrun, ?_⟩
    have hspan : hasSpanOf s.geo x.scan.cells x.scan.extent n.toNat = true :=
      (hasSpanOf_iff _ _ _ _).mpr ⟨e, a, a + n.toNat, he, ha, by omega, hae, hgap, Nat.add_sub_cancel_left _ _⟩
    rw [State.takeForceLength, (within_iff 1 15 _).mpr ⟨hn1, hn15⟩]
    refine State.onPiece_overrideTaken h ?_ rfl
    unfold State.lengthChecks
    rw [hheld]
    exact if_pos hspan
  case scrap =>
    have hrun : exec (.forceScrap c ft [hi, lo]) s = .next ((s.received (.console c) [hi, lo]).takeForceScrap c ft (word hi lo)) :=
      congrArg _ (State.consoleFrame_taken hready ft _ _ _)
    exact ⟨_, hrun, State.onPiece_overrideTaken h hheld rfl⟩
  case clear =>
    have hrun : exec (.clearOverrides c ft [hi, lo]) s = .next ((s.received (.console c) [hi, lo]).takeClearOverrides c ft (word hi lo)) :=
      congrArg _ (State.consoleFrame_taken hready ft _ _ _)
    exact ⟨_, hrun, State.onPiece_overrideTaken h hheld rfl⟩

end Sys2Proof.Machine


/-! PROOF. A completed solve and its PROPOSAL (R52, R83; O34). -/

namespace Sys2Proof.Machine

-- One proof after the other: together they would ask for more threads than the check has memory for.
set_option Elab.async false

section
variable {s : State} {x : Slot} {r : SolveRecord}

/-- A PROPOSAL as R80 has it. -/
theorem Console.propose_offered (tag : Nat) (f : Frame) (c : Console) : Console.offered tag f c (c.propose tag f) := by
  unfold Console.offered Console.propose
  constructor
  · intro h
    exact if_pos (List.any_eq_true.mpr h)
  · intro h
    exact if_neg (by simpa using h)

/-- A PROPOSAL carries the slot's tag, run, generation and SCAN_PARTIAL flag, and nothing else of it. -/
theorem proposalFrame_setSolve {f : SolveRecord → SolveRecord} (hf : ∀ r, (f r).generation = r.generation) (sol : Solution) :
    proposalFrame (x.setSolve f) sol = proposalFrame x sol := by
  have hg : (x.setSolve f).generation = x.generation := by
    unfold Slot.setSolve Slot.generation
    cases x.solve with
    | none => rfl
    | some r => exact hf r
  unfold proposalFrame
  rw [hg]
  rfl

/-- Two flags in a byte. -/
theorem flagByte_two (a b : Bool) : flagByte [a, b] = u8 ((if a then 1 else 0) + (if b then 2 else 0)) := by
  cases a <;> cases b <;> rfl

/-- What a completion leaves at each console. -/
theorem State.propose_console (n : Fin 4) :
    (s.propose x).consoles.get n = if (s.consoles.get n).subscribed = true then (s.consoles.get n).offerSlot x else s.consoles.get n :=
  Bank.get_map _ _ n

theorem Console.offerSlot_of_some {sol : Solution} (h : x.solution = some sol) (c : Console) :
    c.offerSlot x = c.propose x.tag (proposalFrame x sol) := by
  unfold Console.offerSlot
  rw [h]

end

/-- Settles O34: the record is completed in the one slot with the tag, and the offer is R80's. -/
theorem solveCompleteStoresTheSolution : Obligations.SolveCompleteStoresTheSolution := by
  refine ⟨fun job x r s hinv he hs hr => ?_, fun x r sol hr => ⟨rfl, rfl, ?_⟩⟩
  · obtain ⟨hx, htag⟩ := State.slot?_some hs
    let done := fun y : Slot => y.setSolve (SolveRecord.complete (solve s.tables job))
    let u := (s.updateSlot job.tag done).setSolver fun e => { e with engine := none }
    have hslot : u.slot? job.tag = some (done x) := by
      refine (State.slot?_updateSlot (f := done) (fun _ => rfl) job.tag).trans ?_
      rw [hs, Option.map_some, if_pos (beq_iff_eq.mpr htag)]
    have hsol : (done x).solution = some (solve s.tables job) := by
      simp only [done, Slot.setSolve, Slot.solution, hr, Option.map_some, SolveRecord.complete, Option.bind_some]
    have hframe : proposalFrame (done x) (solve s.tables job) = proposalFrame x (solve s.tables job) :=
      proposalFrame_setSolve (f := SolveRecord.complete (solve s.tables job)) (fun _ => rfl) _
    have hring : u.tracker.ring = (s.tracker.ring.map fun y =>
        if y.tag = job.tag then
          y.withSolve
            { r with
              solution := some (solve s.tables job)
              status := if r.reSolve then .queued else .solved
              reSolve := false }
        else y) := by
      refine (changeSlot_eq_map _ _ _).trans (List.map_congr_left fun y hy => ?_)
      by_cases hyt : y.tag = job.tag
      · obtain rfl : y = x := hinv.ring.eq_of_tag hy hx (hyt.trans htag.symm)
        rw [if_pos hyt, if_pos hyt]
        show y.setSolve _ = _
        unfold Slot.setSolve
        rw [hr]
        rfl
      · rw [if_neg hyt, if_neg hyt]
    have hrun : exec .solveComplete s = .next (if x.console.window = .open then u.propose (done x) else u).judge := by
      rw [exec_eq_after, State.after_solveComplete]
      unfold State.completeSolve
      rw [he]
      dsimp only
      rw [hslot]
      exact congrArg (fun v : State => Host.Outcome.next v.judge) (if_congr beq_iff_eq rfl rfl)
    refine ⟨_, hrun, ?_⟩
    by_cases hw : x.console.window = .open
    · rw [if_pos hw]
      refine ⟨rfl, hring, fun c => ?_, State.judge_outputsJudged _, rfl, rfl⟩
      have hc : ((u.propose (done x)).judge.consoles.get c) = _ := State.propose_console c
      rw [hc]
      by_cases hsub : (s.consoles.get c).subscribed = true
      · rw [if_pos ⟨hsub, hw⟩, if_pos (show (u.consoles.get c).subscribed = true from hsub), Console.offerSlot_of_some hsol, hframe]
        rw [← htag]
        exact Console.propose_offered _ _ _
      · rw [if_neg fun h => hsub h.1, if_neg (show ¬ (u.consoles.get c).subscribed = true from hsub)]
        rfl
    · rw [if_neg hw]
      refine ⟨rfl, hring, fun c => ?_, State.judge_outputsJudged _, rfl, rfl⟩
      rw [if_neg fun h => hw h.2]
      rfl
  · have hg : x.generation = r.generation := by
      unfold Slot.generation
      rw [hr]
      rfl
    unfold proposalFrame
    dsimp only
    rw [hg, flagByte_two]
    refine congrArg₂ (· ++ ·) (congrArg (· ++ [_, _]) (congrArg (· ++ _) (congrArg (· ++ _) (congrArg₂ (· ++ ·)
      (congrArg (u16 x.tag ++ u16 x.run ++ ·) ?keep) ?source)))) (List.map_congr_left fun g _ => ?cell)
    case keep =>
      cases sol.keep with
      | none => rfl
      | some k =>
        obtain ⟨a, b, grade, value⟩ := k
        cases grade <;> rfl
    case source => cases sol.source <;> rfl
    case cell => cases g <;> rfl

end Sys2Proof.Machine


/-! PROOF. Frames refused or turned away (R79, R80, R85 to R91, R163 to R165; O23): each command of a port by the checks it goes
through, and each check's own refusal. -/

namespace Sys2Proof.Machine

-- One proof after the other: together they would ask for more threads than the check has memory for.
set_option Elab.async false

section
variable {s : State} {ft : Byte} {payload : List Byte}

/-- A frame received and then discarded: taken off its receiver, and counted there. -/
theorem State.received_countDiscard (l : Link) (p : List Byte) :
    (s.received l p).countDiscard l =
      { s with
        links := s.links.set (linkIndex l)
          { held := hunt ((s.links.get (linkIndex l)).held.drop (p.length + 6))
            discarded := min ((s.links.get (linkIndex l)).discarded + 1) 65535 } } := by
  have h : ∀ f g : LinkReceiver → LinkReceiver, (s.links.modify (linkIndex l) f).modify (linkIndex l) g =
      s.links.set (linkIndex l) (g (f (s.links.get (linkIndex l)))) := by
    intro f g
    unfold Bank.modify
    rw [Bank.set_set, Bank.get_set, if_pos rfl]
  exact congrArg (fun b => { s with links := b }) (h
    (fun r => { r with held := hunt (r.held.drop (p.length + 6)) }) fun r => { r with discarded := bump r.discarded })

/-! ## The control link (R163 to R165) -/

/-- A command is the checked request of this kind. -/
def State.IsRequest (s : State) (ft : Byte) (payload : List Byte) (p : Byte × Instr) : Prop :=
  ∃ (lengthOk inStarting : Bool) (body : State → State),
    exec p.2 s = .next (s.request p.1 ft payload lengthOk inStarting body)
      ∧ (lengthOk = true ↔ lengthAgrees p.1 payload.length) ∧ (inStarting = true → p.1 = 0x01 ∨ p.1 = 0x02)

theorem hasLength_iff (p : List Byte) (n : Nat) : hasLength p n = true ↔ p.length = n := beq_iff_eq

theorem State.isRequest_of_mem {p : Byte × Instr} (h : p ∈ hostRequests ft payload) : s.IsRequest ft payload p := by
  have hall : ∀ p ∈ hostRequests ft payload, s.IsRequest ft payload p := by
    unfold hostRequests
    simp only [List.forall_mem_cons, List.not_mem_nil, false_imp_iff, implies_true, and_true]
    refine ⟨⟨_, _, _, rfl, hasLength_iff _ _, fun _ => .inl rfl⟩, ⟨_, _, _, rfl, hasLength_iff _ _, fun _ => .inr rfl⟩,
      ⟨_, _, _, rfl, hasLength_iff _ _, nofun⟩, ⟨_, _, _, rfl, hasLength_iff _ _, nofun⟩,
      ⟨_, _, _, rfl, hasLength_iff _ _, nofun⟩, ⟨_, _, _, rfl, hasLength_iff _ _, nofun⟩,
      ⟨_, _, _, rfl, decide_eq_true_iff, nofun⟩, ⟨_, _, _, rfl, hasLength_iff _ _, nofun⟩,
      ⟨_, _, _, rfl, hasLength_iff _ _, nofun⟩, ⟨_, _, _, rfl, hasLength_iff _ _, nofun⟩,
      ⟨_, _, _, rfl, hasLength_iff _ _, nofun⟩, ⟨_, _, _, rfl, hasLength_iff _ _, nofun⟩,
      ⟨_, _, _, rfl, hasLength_iff _ _, nofun⟩, ⟨_, _, _, rfl, hasLength_iff _ _, nofun⟩,
      ⟨_, _, _, rfl, hasLength_iff _ _, nofun⟩, ⟨_, _, _, rfl, hasLength_iff _ _, nofun⟩,
      ⟨_, _, _, rfl, hasLength_iff _ _, nofun⟩, ⟨_, _, _, rfl, hasLength_iff _ _, nofun⟩⟩
  exact hall p h

theorem exec_requestBadKind {kind : Byte} (h : kind.toNat = 0 ∨ 0x12 < kind.toNat) :
    exec (.requestBadKind kind ft payload) s =
      .next (s.request kind ft payload true true fun s => s.refuse kind ft .badKind) := by
  have hk : requestKind kind = false := by
    rw [Bool.eq_false_iff, requestKind, Ne, within_iff]
    rintro ⟨h1, h2⟩
    have e1 : (0x01 : Nat) ≤ kind.toNat := h1
    have e2 : kind.toNat ≤ 0x12 := h2
    omega
  show Host.Outcome.next (if requestKind kind then _ else _) = _
  rw [hk, if_neg Bool.false_ne_true]

/-! ## The consoles (R79, R80) -/

/-- A console's command is a checked frame of this length. -/
def State.IsConsoleFrame (s : State) (c : Fin 4) (ft : Byte) (payload : List Byte) (p : Nat × Instr) : Prop :=
  ∃ (α : Type) (read : Option α) (take : State → α → State),
    exec p.2 s = .next (s.consoleFrame c ft payload read take) ∧ (payload.length ≠ p.1 → read = none)

theorem readNothing_of_length (h : payload.length ≠ 0) : readNothing payload = none := by
  cases payload with
  | nil => exact absurd rfl h
  | cons a l => rfl

theorem readWord_of_length (h : payload.length ≠ 2) : readWord payload = none := by
  unfold readWord
  split
  · exact absurd rfl h
  · rfl

theorem readTagByte_of_length (h : payload.length ≠ 3) : readTagByte payload = none := by
  unfold readTagByte
  split
  · exact absurd rfl h
  · rfl

theorem readMark_of_length (h : payload.length ≠ 5) : readMark payload = none := by
  unfold readMark
  split
  · exact absurd rfl h
  · rfl

theorem State.isConsoleFrame_of_mem {c : Fin 4} {p : Nat × Instr}
    (h : p ∈ [0, 0, 2, 2, 5, 3, 3, 2, 2].zip (consoleRequests c ft payload)) : s.IsConsoleFrame c ft payload p := by
  have hall : ∀ p ∈ [0, 0, 2, 2, 5, 3, 3, 2, 2].zip (consoleRequests c ft payload), s.IsConsoleFrame c ft payload p := by
    unfold consoleRequests
    simp only [List.zip_cons_cons, List.zip_nil_right, List.forall_mem_cons, List.not_mem_nil, false_imp_iff, implies_true, and_true]
    exact ⟨⟨_, _, _, rfl, readNothing_of_length⟩, ⟨_, _, _, rfl, readNothing_of_length⟩, ⟨_, _, _, rfl, readWord_of_length⟩,
      ⟨_, _, _, rfl, readWord_of_length⟩, ⟨_, _, _, rfl, readMark_of_length⟩, ⟨_, _, _, rfl, readTagByte_of_length⟩,
      ⟨_, _, _, rfl, readTagByte_of_length⟩, ⟨_, _, _, rfl, readWord_of_length⟩, ⟨_, _, _, rfl, readWord_of_length⟩⟩
  exact hall p h

theorem State.consoleFrame_discarded {α : Type} {c : Fin 4} (h : 8 ≤ (s.consoles.get c).repliesWaiting) (read : Option α)
    (take : State → α → State) :
    s.consoleFrame c ft payload read take = (s.received (.console c) payload).countDiscard (.console c) := if_pos h

theorem State.consoleFrame_badValue {α : Type} {c : Fin 4} (h : s.consoleReady c) (take : State → α → State) :
    s.consoleFrame c ft payload none take =
      (s.received (.console c) payload).consoleReply c (consoleRefused ft none .badValue) := if_neg (Nat.not_le.mpr h)

theorem exec_consoleFrameBadKind {c : Fin 4} {kind : Byte} (h : kind.toNat < 0x41 ∨ 0x49 < kind.toNat) :
    exec (.consoleFrameBadKind c kind ft payload) s = .next (s.consoleFrame c ft payload (none : Option Unit) fun s _ => s) := by
  have hk : consoleKind kind = false := by
    rw [Bool.eq_false_iff, consoleKind, Ne, within_iff]
    rintro ⟨h1, h2⟩
    have e1 : (0x41 : Nat) ≤ kind.toNat := h1
    have e2 : kind.toNat ≤ 0x49 := h2
    omega
  show Host.Outcome.next (if consoleKind kind then _ else _) = _
  rw [hk, if_neg Bool.false_ne_true]

/-! ## Requests on a piece (R85) -/

/-- A console's command is a request on the piece with tag `hi lo` whose operands are in range, with these checks of its own. -/
def State.IsPieceRequest (s : State) (c : Fin 4) (ft hi lo : Byte) (p : List Byte × Instr) (checks : Slot → Option ConsoleReason) :
    Prop :=
  ∃ act : State → State,
    exec p.2 s = .next ((s.received (.console c) (hi :: lo :: p.1)).onPiece c ft (word hi lo) true checks act)

theorem u16_word (hi lo : Byte) : u16 (word hi lo) = [hi, lo] := by
  have h1 := hi.isLt
  have h2 := lo.isLt
  have e1 : u8 (word hi lo / 256) = hi := BitVec.eq_of_toNat_eq (by rw [u8, word, BitVec.toNat_ofNat]; omega)
  have e2 : u8 (word hi lo) = lo := BitVec.eq_of_toNat_eq (by rw [u8, word, BitVec.toNat_ofNat]; omega)
  rw [u16, e1, e2]

/-- The refusal of a request on a piece. -/
def State.pieceRefused (s : State) (c : Fin 4) (ft hi lo : Byte) (operands : List Byte) (code : Byte) :
    Host.Outcome State Fault Refusal :=
  .next
    { s.received (.console c) (hi :: lo :: operands) with
      consoles := s.consoles.set c
        { s.consoles.get c with
          queue := (s.consoles.get c).queue
            ++ [.reply { kind := 0x4F, tag := ft, payload := [1, hi, lo, code] }] } }

theorem State.consoleReply_pieceRefused {c : Fin 4} {hi lo : Byte} (operands : List Byte) (r : ConsoleReason) :
    Host.Outcome.next ((s.received (.console c) (hi :: lo :: operands)).consoleReply c (consoleRefused ft (some (word hi lo)) r)) =
      s.pieceRefused c ft hi lo operands r.code := by
  have hf : consoleRefused ft (some (word hi lo)) r = { kind := 0x4F, tag := ft, payload := [1, hi, lo, r.code] } := by
    unfold consoleRefused presence
    dsimp only
    rw [u16_word]
    rfl
  rw [hf]
  rfl

section
variable {c : Fin 4} {hi lo : Byte} {operands : List Byte} {checks : Slot → Option ConsoleReason} {act : State → State}

/-- The operands of a request on a piece are looked at first. -/
theorem State.onPiece_badValue :
    Host.Outcome.next ((s.received (.console c) (hi :: lo :: operands)).onPiece c ft (word hi lo) false checks act) =
      s.pieceRefused c ft hi lo operands 10 := State.consoleReply_pieceRefused operands .badValue

theorem State.onPiece_no_piece {r : ConsoleReason} (h : s.pieceFor (word hi lo) = .error r) :
    Host.Outcome.next ((s.received (.console c) (hi :: lo :: operands)).onPiece c ft (word hi lo) true checks act) =
      s.pieceRefused c ft hi lo operands r.code := by
  have h' : (s.received (.console c) (hi :: lo :: operands)).pieceFor (word hi lo) = .error r := h
  unfold State.onPiece
  rw [h']
  exact State.consoleReply_pieceRefused operands r

theorem State.onPiece_checked {x : Slot} {r : ConsoleReason} (h : s.pieceFor (word hi lo) = .ok x) (hc : checks x = some r) :
    Host.Outcome.next ((s.received (.console c) (hi :: lo :: operands)).onPiece c ft (word hi lo) true checks act) =
      s.pieceRefused c ft hi lo operands r.code := by
  have h' : (s.received (.console c) (hi :: lo :: operands)).pieceFor (word hi lo) = .ok x := h
  unfold State.onPiece
  rw [h']
  dsimp only
  rw [hc]
  exact State.consoleReply_pieceRefused operands r

end

section
variable {x : Slot} {tag : Nat}

theorem State.pieceFor_of_none (h : s.slot? tag = none) : s.pieceFor tag = .error .noSuch := by
  unfold State.pieceFor
  rw [h]

theorem State.pieceFor_of_empty (h : s.slot? tag = some x) (hk : x.kind = .empty) : s.pieceFor tag = .error .emptyLug := by
  unfold State.pieceFor
  rw [h]
  exact if_pos (beq_iff_eq.mpr hk)

theorem State.pieceFor_of_window (h : s.slot? tag = some x) (hk : x.kind ≠ .empty) :
    s.pieceFor tag = match x.console.window with
      | .before => .error .notYet
      | .closed => .error .late
      | .open => .ok x := by
  unfold State.pieceFor
  rw [h]
  exact if_neg (mt beq_iff_eq.mp hk)

end

theorem heldBy_of_none {c : Fin 4} {x : Slot} (h : x.console.holder = none) : heldBy c x = some .notClaimed := by
  unfold heldBy
  rw [h]

theorem heldBy_of_other {c d : Fin 4} {x : Slot} (h : x.console.holder = some d) (hd : d ≠ c) : heldBy c x = some .held := by
  unfold heldBy
  rw [h]
  exact if_neg hd

theorem State.claimCheck_of_other {c d : Fin 4} {x : Slot} (h : x.console.holder = some d) (hd : d ≠ c) :
    s.claimCheck c x = some .held := by
  unfold State.claimCheck
  rw [h]
  exact if_neg hd

theorem State.claimCheck_of_limit {c : Fin 4} {x : Slot} (h : x.console.holder = none) (hl : 2 ≤ (s.claims c).length) :
    s.claimCheck c x = some .claimLimit := by
  unfold State.claimCheck
  rw [h]
  exact if_pos hl

theorem markChecks_of_held {c : Fin 4} {m : Mark} {x : Slot} {r : ConsoleReason} (h : heldBy c x = some r) :
    markChecks c m x = some r := by
  unfold markChecks
  rw [h]

theorem State.lengthChecks_of_held {c : Fin 4} {n : Nat} {x : Slot} {r : ConsoleReason} (h : heldBy c x = some r) :
    s.lengthChecks c n x = some r := by
  unfold State.lengthChecks
  rw [h]

end

/-- Settles O23: every frame goes through the checks of its port, and the first that fails makes the reply. -/
theorem refusedFramesChangeNothing : Obligations.RefusedFramesChangeNothing := by
  refine ⟨fun ft payload s => ⟨fun kind hk => ⟨fun h => ?_, fun h hp => ?_, fun h => ?_⟩, fun p hp => ?_⟩,
    fun c ft payload s => ⟨fun h i hi => ?_, fun h p hp hl => ?_, fun kind hk => ⟨fun h => ?_, fun h => ?_⟩⟩, ?_⟩
  · rw [exec_requestBadKind hk, State.request_discarded h, State.received_countDiscard]
    rfl
  · rw [exec_requestBadKind hk, State.request_busy h hp]
    rfl
  · rw [exec_requestBadKind hk, State.request_taken h _ _ _ _ _ (.inr rfl)]
    rfl
  · obtain ⟨lengthOk, inStarting, body, hrun, hok, hst⟩ := s.isRequest_of_mem hp
    rw [hrun]
    refine ⟨fun h => ?_, fun h hin => ?_, fun h hl => ?_, fun h hl hline h1 h2 => ?_⟩
    · rw [State.request_discarded h, State.received_countDiscard]
      rfl
    · rw [State.request_busy h hin]
      rfl
    · rw [Bool.eq_false_iff.mpr (mt hok.mp hl), State.request_badLength h]
      rfl
    · have hs : inStarting = false := Bool.eq_false_iff.mpr fun h => (hst h).elim h1 h2
      rw [hok.mpr hl, hs, State.request_starting h hline]
      rfl
  · have hz : ∃ n, (n, i) ∈ [0, 0, 2, 2, 5, 3, 3, 2, 2].zip (consoleRequests c ft payload) := by
      have hm : i ∈ ([0, 0, 2, 2, 5, 3, 3, 2, 2].zip (consoleRequests c ft payload)).map Prod.snd := hi
      obtain ⟨p, hp, rfl⟩ := List.mem_map.mp hm
      exact ⟨p.1, hp⟩
    obtain ⟨n, hn⟩ := hz
    obtain ⟨α, read, take, hrun, -⟩ := s.isConsoleFrame_of_mem hn
    rw [show exec i s = _ from hrun, State.consoleFrame_discarded h, State.received_countDiscard]
  · obtain ⟨α, read, take, hrun, hread⟩ := s.isConsoleFrame_of_mem hp
    rw [hrun, hread hl, State.consoleFrame_badValue h]
    rfl
  · rw [exec_consoleFrameBadKind hk, State.consoleFrame_discarded h, State.received_countDiscard]
  · rw [exec_consoleFrameBadKind hk, State.consoleFrame_badValue h]
    rfl
  · intro c ft hi lo s hready refused
    have hmark : ∀ f l g : Byte, exec (.mark c ft [hi, lo, f, l, g]) s =
        .next ((s.received (.console c) [hi, lo, f, l, g]).takeMark c ft
          { tag := word hi lo, mark := { first := f.toNat, last := l.toNat, grade := g.toNat } }) :=
      fun f l g => congrArg _ (State.consoleFrame_taken hready ft _ _ _)
    have hgrade : ∀ g : Byte, exec (.forceGrade c ft [hi, lo, g]) s =
        .next ((s.received (.console c) [hi, lo, g]).takeForceGrade c ft (word hi lo, g.toNat)) :=
      fun g => congrArg _ (State.consoleFrame_taken hready ft _ _ _)
    have hlength : ∀ n : Byte, exec (.forceLength c ft [hi, lo, n]) s =
        .next ((s.received (.console c) [hi, lo, n]).takeForceLength c ft (word hi lo, n.toNat)) :=
      fun g => congrArg _ (State.consoleFrame_taken hready ft _ _ _)
    refine ⟨fun f l g h => ?_, fun g h => ?_, fun n h => ?_, ?_⟩
    · have hv : Mark.valid { first := f.toNat, last := l.toNat, grade := g.toNat } = false := by
        rw [Bool.eq_false_iff]
        simp only [Mark.valid, ne_eq, Bool.and_eq_true, decide_eq_true_eq, within_iff]
        omega
      rw [hmark, State.takeMark, hv]
      exact State.onPiece_badValue
    · have hv : within 1 7 g.toNat = false := by
        rw [Bool.eq_false_iff, Ne, within_iff]
        omega
      rw [hgrade, State.takeForceGrade, hv]
      exact State.onPiece_badValue
    · have hv : within 1 15 n.toNat = false := by
        rw [Bool.eq_false_iff, Ne, within_iff]
        omega
      rw [hlength, State.takeForceLength, hv]
      exact State.onPiece_badValue
    · intro f l g k n hfl hl hg hg7 hk hk7 hn hn15 claims changes
      have hmv : Mark.valid { first := f.toNat, last := l.toNat, grade := g.toNat } = true := by
        simp only [Mark.valid, Bool.and_eq_true, decide_eq_true_eq, within_iff]
        exact ⟨⟨hfl, hl⟩, hg, hg7⟩
      have rclaim : s.IsPieceRequest c ft hi lo ([], .claim c ft [hi, lo]) (s.claimCheck c) :=
        ⟨_, congrArg _ (State.consoleFrame_taken hready ft _ _ _)⟩
      have rrelease : s.IsPieceRequest c ft hi lo ([], .release c ft [hi, lo]) (heldBy c) :=
        ⟨_, congrArg _ (State.consoleFrame_taken hready ft _ _ _)⟩
      have rmark : s.IsPieceRequest c ft hi lo ([f, l, g], .mark c ft [hi, lo, f, l, g])
          (markChecks c { first := f.toNat, last := l.toNat, grade := g.toNat }) :=
        ⟨_, by rw [hmark, State.takeMark, hmv]⟩
      have rgrade : s.IsPieceRequest c ft hi lo ([k], .forceGrade c ft [hi, lo, k]) (heldBy c) :=
        ⟨_, by rw [hgrade, State.takeForceGrade, (within_iff 1 7 _).mpr ⟨hk, hk7⟩]⟩
      have rlength : s.IsPieceRequest c ft hi lo ([n], .forceLength c ft [hi, lo, n]) (s.lengthChecks c n.toNat) :=
        ⟨_, by rw [hlength, State.takeForceLength, (within_iff 1 15 _).mpr ⟨hn, hn15⟩]; rfl⟩
      have rscrap : s.IsPieceRequest c ft hi lo ([], .forceScrap c ft [hi, lo]) (heldBy c) :=
        ⟨_, congrArg _ (State.consoleFrame_taken hready ft _ _ _)⟩
      have rclear : s.IsPieceRequest c ft hi lo ([], .clearOverrides c ft [hi, lo]) (heldBy c) :=
        ⟨_, congrArg _ (State.consoleFrame_taken hready ft _ _ _)⟩
      have hchanges : ∀ p ∈ changes, ∃ checks, s.IsPieceRequest c ft hi lo p checks
          ∧ ∀ x r, heldBy c x = some r → checks x = some r := by
        simp only [changes, List.forall_mem_cons, List.not_mem_nil, false_imp_iff, implies_true, and_true]
        exact ⟨⟨_, rrelease, fun _ _ h => h⟩, ⟨_, rmark, fun _ _ h => markChecks_of_held h⟩, ⟨_, rgrade, fun _ _ h => h⟩,
          ⟨_, rlength, fun _ _ h => State.lengthChecks_of_held h⟩, ⟨_, rscrap, fun _ _ h => h⟩, ⟨_, rclear, fun _ _ h => h⟩⟩
      have hall : ∀ p ∈ claims ++ changes, ∃ checks, s.IsPieceRequest c ft hi lo p checks
          ∧ ∀ x d, x.console.holder = some d → d ≠ c → checks x = some .held := by
        intro p hp
        rcases List.mem_append.mp hp with hp | hp
        · obtain rfl := List.mem_singleton.mp hp
          exact ⟨_, rclaim, fun _ _ h hd => State.claimCheck_of_other h hd⟩
        · obtain ⟨checks, hr, hc⟩ := hchanges p hp
          exact ⟨checks, hr, fun x d h hd => hc x _ (heldBy_of_other h hd)⟩
      have herror : ∀ r, s.pieceFor (word hi lo) = .error r → ∀ p ∈ claims ++ changes, exec p.2 s = refused p.1 r.code := by
        intro r hr p hp
        obtain ⟨checks, ⟨act, hrun⟩, -⟩ := hall p hp
        exact hrun.trans (State.onPiece_no_piece hr)
      refine ⟨fun hs => herror .noSuch (State.pieceFor_of_none hs), fun x hs => ⟨fun hk => herror .emptyLug
        (State.pieceFor_of_empty hs hk), fun hk hw => herror .notYet ?_, fun hk hw => herror .late ?_, fun hk hw => ?_⟩⟩
      · rw [State.pieceFor_of_window hs hk, hw]
      · rw [State.pieceFor_of_window hs hk, hw]
      · have hok : s.pieceFor (word hi lo) = .ok x := by rw [State.pieceFor_of_window hs hk, hw]
        refine ⟨fun d hd hne p hp => ?_, fun hn2 hlim p hp => ?_, fun hn2 p hp => ?_, fun hown => ⟨fun hm => ?_, fun hm he => ?_,
          fun hspan => ?_⟩⟩
        · obtain ⟨checks, ⟨act, hrun⟩, hc⟩ := hall p hp
          exact hrun.trans (State.onPiece_checked hok (hc x d hd hne))
        · obtain rfl := List.mem_singleton.mp hp
          obtain ⟨act, hrun⟩ := rclaim
          exact hrun.trans (State.onPiece_checked hok (State.claimCheck_of_limit hn2 hlim))
        · obtain ⟨checks, ⟨act, hrun⟩, hc⟩ := hchanges p hp
          exact hrun.trans (State.onPiece_checked hok (hc x _ (heldBy_of_none hn2)))
        · obtain ⟨act, hrun⟩ := rmark
          refine hrun.trans (State.onPiece_checked hok (r := .markLimit) ?_)
          unfold markChecks
          rw [heldBy_self hown]
          exact if_pos hm
        · obtain ⟨act, hrun⟩ := rmark
          refine hrun.trans (State.onPiece_checked hok (r := .noSpan) ?_)
          have hclip : Mark.clip { first := f.toNat, last := l.toNat, grade := g.toNat } x.scan.extent = none := by
            unfold Mark.clip
            split
            · rfl
            · next e hext => exact if_pos (he e hext)
          unfold markChecks
          rw [heldBy_self hown, hclip]
          exact if_neg (Nat.not_le.mpr hm)
        · obtain ⟨act, hrun⟩ := rlength
          refine hrun.trans (State.onPiece_checked hok (r := .noSpan) ?_)
          unfold State.lengthChecks
          rw [heldBy_self hown]
          refine if_neg fun hsp => ?_
          obtain ⟨e, a, b, hext, hb, hab, hbe, hgap, hlen⟩ := (hasSpanOf_iff _ _ _ _).mp hsp
          obtain rfl : b = a + n.toNat := by
            have : b - a = n.toNat := hlen
            omega
          obtain ⟨j, h1, h2, h3⟩ := hspan e a hext hb hbe
          exact hgap j h1 h2 h3

end Sys2Proof.Machine


/-! PROOF. The requests that only read (R8, R17, R22, R35, R57, R78, R95, R114, R131, R147 to R149, R160, R163, R166; O18): each part of a reply
by its items. -/

namespace Sys2Proof.Machine

-- One proof after the other: together they would ask for more threads than the check has memory for.
set_option Elab.async false

/-! ## Items over a bank -/

theorem Bank.items_eq_map {n : Nat} {α : Type} (b : Bank n α) : b.items = (List.finRange n).map b.get :=
  b.items_eq.trans List.ofFn_eq_map

theorem Bank.flatMap_items {n : Nat} {α β : Type} (b : Bank n α) (f : α → List β) :
    b.items.flatMap f = (List.finRange n).flatMap fun i => f (b.get i) := by
  rw [Bank.items_eq_map, List.flatMap_map]

section
variable {s : State}

/-! ## The parts of STATUS -/

theorem State.coverageFull_iff (s : State) :
    s.coverageFull = true ↔
      (∃ h : Fin 4, (s.scan.heads.get h).status ≠ .disabled) ∧ ∀ h : Fin 4, (s.scan.heads.get h).status ≠ .down := by
  unfold State.coverageFull
  rw [Bank.items_eq_map, List.any_map, List.all_map]
  simp [List.any_eq_true, List.all_eq_true]

theorem State.scanItems_eq (s : State) :
    s.scanItems =
      ((List.finRange 4).flatMap fun h => [(s.scan.heads.get h).status.code, u8 (s.scan.heads.get h).misses])
        ++ [if (∃ h : Fin 4, (s.scan.heads.get h).status ≠ .disabled) ∧ ∀ h : Fin 4, (s.scan.heads.get h).status ≠ .down
            then 0 else 1]
        ++ u16 s.scan.stray ++ u16 s.scan.late ++ u16 s.scan.malformed := by
  unfold State.scanItems
  rw [Bank.flatMap_items]
  simp only [s.coverageFull_iff]

theorem State.solverItems_eq (s : State) :
    s.solverItems =
      (match s.solver.engine with
        | none => [0, 0, 0, 0]
        | some job => [1, 1] ++ u16 job.tag)
        ++ [u8 (s.tracker.ring.countP (·.isQueued))] ++ u16 s.solver.abandoned := by
  unfold State.solverItems State.solveQueue
  rw [List.countP_eq_length_filter]
  cases s.solver.engine <;> rfl

theorem State.storeItems_eq (s : State) :
    s.storeItems =
      [s.store.activity.code, s.store.status.code, yesNo s.store.editMark]
        ++ match s.store.activity with
          | .saving job => [1, u8 (job.write - 1)]
          | _ => [0, 0] := by
  unfold State.storeItems
  cases s.store.activity <;> rfl

theorem State.laneItems_eq (s : State) :
    s.laneItems =
      (match s.lane.state with
        | .idle => [0, 0, 0, 0, 0, 0]
        | .open r => [1] ++ presence 2 r.number u16 ++ [1, u8 r.slices]
        | .skipping => [2, 0, 0, 0, 0, 0])
        ++ [u8 s.lane.queue.length]
        ++ (s.lane.queue.flatMap fun q => presence 2 q.number u16 ++ [yesNo q.rejected] ++ u16 q.countdown)
        ++ u16 s.lane.discards := by
  have hstate : ∀ l : LaneState, [l.code] ++ presence 2 (l.openLog.bind (·.number)) u16
      ++ presence 1 (l.openLog.map (·.slices)) (fun n => [u8 n]) = match l with
        | .idle => [0, 0, 0, 0, 0, 0]
        | .open r => [1] ++ presence 2 r.number u16 ++ [1, u8 r.slices]
        | .skipping => [2, 0, 0, 0, 0, 0] := by
    intro l
    cases l <;> rfl
  unfold State.laneItems
  rw [hstate]
  rfl

theorem State.fieldItems_eq (s : State) :
    s.fieldItems =
      ((List.finRange 8).flatMap fun i =>
          let e := s.tables.inputs.get i
          let x := s.field.inputs.get i
          [e.function.code, yesNo (rawLevel e x), yesNo !x.filtered, yesNo x.timer.isSome])
        ++ ((List.finRange 8).flatMap fun o =>
          let x := s.field.outputs.get o
          [(s.tables.outputs.get o).function.code, x.force.code, yesNo x.level, yesNo x.pulse.isSome])
        ++ [if s.ctl.pendingCauses &&& s.ctl.alertMask = 0 then 0 else 1] := by
  have hin : ∀ i : Fin 8, s.inputItems i = [(s.tables.inputs.get i).function.code,
      yesNo (rawLevel (s.tables.inputs.get i) (s.field.inputs.get i)), yesNo !(s.field.inputs.get i).filtered,
      yesNo (s.field.inputs.get i).timer.isSome] := by
    intro i
    unfold State.inputItems
    dsimp only
    cases (s.field.inputs.get i).filtered <;> rfl
  have halert : yesNo s.alert = if s.ctl.pendingCauses &&& s.ctl.alertMask = 0 then 0 else 1 := by
    unfold State.alert yesNo
    by_cases h : s.ctl.pendingCauses &&& s.ctl.alertMask = 0 <;> simp [h]
  unfold State.fieldItems
  rw [funext hin, halert]
  rfl

theorem State.claims_eq (s : State) (c : Fin 4) :
    s.claims c = (s.tracker.ring.filter fun x => decide (x.console.holder = some c)).map (·.tag) := by
  unfold State.claims
  congr 2
  exact funext fun x => beq_eq_decide ..

theorem State.callItem_eq (s : State) (o : Fin 8) :
    s.callItem o =
      if (s.tables.outputs.get o).function = .graderCall then [1, yesNo (s.callCondition (s.tables.outputs.get o))] else [0, 0] := by
  unfold State.callItem
  by_cases h : (s.tables.outputs.get o).function = .graderCall <;> simp [h, presence]

theorem State.interfaceItems_eq (s : State) :
    s.interfaceItems =
      ((List.finRange 4).flatMap fun c =>
          let claims := s.tracker.ring.filter fun x => decide (x.console.holder = some c)
          [yesNo (s.consoles.get c).subscribed, u8 claims.length] ++ (claims.flatMap fun x => u16 x.tag)
            ++ [u8 ((s.consoles.get c).queue.countP (·.isOffer))] ++ u16 (s.consoles.get c).dropped)
        ++ (List.finRange 8).flatMap fun o =>
          if (s.tables.outputs.get o).function = .graderCall then
            [1, yesNo (s.callCondition (s.tables.outputs.get o))]
          else [0, 0] := by
  unfold State.interfaceItems State.consoleItems
  rw [funext s.callItem_eq]
  simp only [s.claims_eq, List.length_map, List.flatMap_map]
  rfl

theorem State.sawItems_eq (s : State) :
    s.sawItems =
      ((List.finRange 2).flatMap fun m =>
          let x := s.saw.modules.get m
          if m.val < s.tables.sawBus.modules then
            [1, if x.online then 0 else 1] ++ presence 3 x.lastRead (fun r => [r.mask, r.seq, r.down])
              ++ presence 1 x.lastFault (fun code => [code]) ++ u16 x.retries ++ u16 x.timeouts ++ u16 x.faults
          else List.replicate 14 0)
        ++ u16 s.saw.discarded
        ++ presence 4 s.saw.exchange fun ex => u16 ex.tag ++ [u8 (ex.module.val + 1), u8 ex.attempt] := by
  have h : ∀ m : Fin 2, presence 13 (s.moduleEntry m (s.saw.modules.get m)) Module.items =
      if m.val < s.tables.sawBus.modules then 1 :: (s.saw.modules.get m).items else List.replicate 14 0 := by
    intro m
    unfold State.moduleEntry
    split <;> rfl
  unfold State.sawItems
  rw [funext h]
  rfl

theorem State.oldRuns_eq (s : State) :
    s.oldRuns = s.runs.records.filter fun r => decide (r.state = .draining ∨ r.state = .closed) := by
  unfold State.oldRuns
  congr 1
  funext r
  cases r.state <;> rfl

theorem State.portItems_received (s : State) (l : Link) (p : List Byte) :
    (s.received l p).portItems =
      u16 s.ctl.pendingCauses.toNat ++ u16 s.ctl.alertMask.toNat
        ++ [u8 s.ctl.reports.length, u8 s.ctl.nextReport] ++ u16 s.ctl.dropped
        ++ (List.finRange 11).flatMap fun l => u16 (s.links.get l).discarded := by
  have h : ∀ k : Fin 11, ((s.received l p).links.get k).discarded = (s.links.get k).discarded := by
    intro k
    refine (congrArg LinkReceiver.discarded (Bank.get_modify _ _ _ _)).trans ?_
    split
    · next e => rw [e]
    · rfl
  unfold State.portItems
  rw [Bank.flatMap_items]
  simp only [h]
  rfl

/-- A part of STATUS is the list of its items. -/
theorem exec_status (h : s.portReady) (ft : Byte) {n : Byte} (hn : n.toNat ≤ 9) {items : List Byte}
    (hi : (s.received .control [n]).partItems n.toNat = items) :
    exec (.status ft [n]) s = .next (s.answered [n] { kind := 0x82, tag := ft, payload := n :: items }) := by
  have hl : hasLength [n] 1 = true := rfl
  rw [exec_eq_after, State.after_status, hl, State.request_taken h _ _ _ _ _ (.inr rfl)]
  subst hi
  exact congrArg _ (if_neg (Nat.not_lt.mpr hn))

/-! ## The lug rate (R8) -/

theorem State.lugRate_running {t2 t1 : Nat} {rest : List Nat} (hl : s.tracker.line = .running) (ht : s.tracker.advanceTimes = t2 :: t1 :: rest) :
    s.lugRate = (120000 + max 1 (t2 - t1)) / (2 * max 1 (t2 - t1)) := by
  unfold State.lugRate
  rw [hl, ht]

theorem State.lugRate_zero (h : s.tracker.line ≠ .running ∨ s.tracker.advanceTimes.length < 2) : s.lugRate = 0 := by
  unfold State.lugRate
  split
  · next t2 t1 rest hl ht =>
    rcases h with h | h
    · exact absurd hl h
    · rw [ht] at h
      simp at h
  · rfl

/-! ## TALLY READ (R147, R148) -/

theorem Tally.keptPieces_eq_sum (t : Tally) :
    t.keptPieces = ((List.finRange 8).map fun g => ((List.finRange 15).map fun l => (t.kept.get g).get l).sum).sum := by
  unfold Tally.keptPieces
  simp only [Bank.items_eq_map, List.map_map, Function.comp_def]

theorem Tally.volumeTotal_eq (t : Tally) : t.volumeTotal = ((List.finRange 8).map fun g => t.volume.get g).sum := by
  unfold Tally.volumeTotal
  rw [Bank.items_eq_map]

theorem State.openSlots_eq (s : State) (seq : Nat) :
    s.openSlots seq = s.tracker.ring.countP fun x => decide (x.run = seq ∧ x.kind ≠ .empty) := by
  unfold State.openSlots
  congr 1
  funext x
  simp only [Slot.openIn]
  cases x.kind <;> simp [beq_eq_decide]

theorem State.boardSlots_eq (s : State) (seq : Nat) :
    s.boardSlots seq = s.tracker.ring.countP fun x => decide (x.run = seq ∧ x.kind = .board) := by
  unfold State.boardSlots
  congr 1
  funext x
  cases x.kind <;> simp [beq_eq_decide]

theorem State.summaryItems_eq (s : State) (r : Run) :
    let p := s.tables.products.get r.product
    let total := ((List.finRange 8).map fun g => r.tally.volume.get g).sum
    s.summaryItems r =
      u16 r.seq ++ [u8 r.product.val] ++ p.name ++ List.replicate (12 - p.name.length) 0
        ++ [r.state.code, yesNo r.saturated,
            u8 (s.tracker.ring.countP fun x => decide (x.run = r.seq ∧ x.kind ≠ .empty)),
            u8 (s.tracker.ring.countP fun x => decide (x.run = r.seq ∧ x.kind = .board))]
        ++ u32 r.tally.scanned
        ++ u64 (min ((List.finRange 8).map fun g => ((List.finRange 15).map fun l =>
            (r.tally.kept.get g).get l).sum).sum 4294967295)
        ++ u32 r.tally.scrapped ++ u32 r.tally.lost ++ u32 r.tally.overridden ++ u32 r.tally.fallback
        ++ u32 r.tally.overrideMissed ++ u32 r.tally.trimMissed ++ u32 r.tally.inhibited
        ++ u32 r.tally.manualConflict ++ u32 r.tally.scanPartial ++ u32 r.tally.noProfile
        ++ u32 r.tally.value ++ u64 total
        ++ u16 (if r.tally.acceptedVolume = 0 then 0 else min 9999 (total * 1000 / r.tally.acceptedVolume)) := by
  intro p total
  have hflags : [r.tally.overrideMissed, r.tally.trimMissed, r.tally.inhibited, r.tally.manualConflict, r.tally.scanPartial,
      r.tally.noProfile].flatMap u32 = u32 r.tally.overrideMissed ++ u32 r.tally.trimMissed ++ u32 r.tally.inhibited
        ++ u32 r.tally.manualConflict ++ u32 r.tally.scanPartial ++ u32 r.tally.noProfile := by
    simp only [List.flatMap_cons, List.flatMap_nil, List.append_nil, List.append_assoc]
  unfold State.summaryItems Tally.recovery
  dsimp only
  rw [hflags, State.openSlots_eq, State.boardSlots_eq, Tally.keptPieces_eq_sum, Tally.volumeTotal_eq]
  simp only [List.append_assoc, encodeName]
  rfl

theorem exec_tableRead (h : s.serving) (ft k i : Byte) :
    exec (.tableRead ft [k, i]) s = .next ((s.received .control [k, i]).readTable ft [k, i]) := by
  rw [exec_eq_after, State.after_tableRead]
  exact congrArg _ (State.request_serving h _ _ _ _ _)

theorem exec_pieceQuery (h : s.serving) (ft hi lo : Byte) :
    exec (.pieceQuery ft [hi, lo]) s = .next ((s.received .control [hi, lo]).queryPiece ft [hi, lo]) := by
  rw [exec_eq_after, State.after_pieceQuery]
  exact congrArg _ (State.request_serving h _ _ _ _ _)

/-- A section of a tally is the list of its items. -/
theorem exec_tallyRead (h : s.serving) (ft hi lo b : Byte) :
    exec (.tallyRead ft [hi, lo, b]) s = .next ((s.received .control [hi, lo, b]).readTally ft [hi, lo, b]) := by
  rw [exec_eq_after, State.after_tallyRead]
  exact congrArg _ (State.request_serving h _ _ _ _ _)

theorem State.readTally_section {u : State} {hi lo b : Byte} {r : Run} {x : TallySection} (hr : u.run? (word hi lo) = some r)
    (hx : TallySection.ofCode b = some x) (ft : Byte) :
    u.readTally ft [hi, lo, b] = u.ok tallyReadKind ft (u.tallyItems r x) := by
  have hb : u8 b.toNat = b := BitVec.eq_of_toNat_eq (by rw [u8, BitVec.toNat_ofNat]; have := b.isLt; omega)
  simp only [State.readTally, readTagByte, hr, hb, hx]

theorem TallySection.ofCode_grade (g : Fin 8) : TallySection.ofCode (u8 (g.val + 1)) = some (.grade g) := by
  revert g
  decide

theorem TallySection.ofCode_of_lt {b : Byte} (h : 9 < b.toNat) : TallySection.ofCode b = none := by
  have h0 : b ≠ 0 := by rintro rfl; exact absurd h (by decide)
  have h9 : b ≠ 9 := by rintro rfl; exact absurd h (by decide)
  rw [TallySection.ofCode, if_neg h0, if_neg h9, place?_of_not_lt (by omega)]
  rfl

/-! ## PIECE QUERY -/

/-- The fields of what is kept. -/
theorem keepItems_eq (keep : Option Keep) :
    keepItems keep =
      [if keep = none then (1 : Byte) else 0] ++ presence 1 keep (fun k => [u8 k.a])
        ++ presence 1 keep (fun k => [u8 k.b]) ++ presence 1 keep (fun k => [k.grade.code])
        ++ presence 1 keep (fun k => [u8 (k.b - k.a)]) ++ u16 ((keep.map (·.value)).getD 0) := by
  cases keep <;> rfl

theorem setByte_eq {n : Nat} (b : Bank n Bool) : setByte b = u8 (packBits ((List.finRange n).map b.get)) := by
  rw [setByte, Bank.items_eq_map]

theorem Slot.solveItems_eq (x : Slot) :
    x.solveItems =
      presence 1 x.solve (fun r => [r.status.code])
        ++ (match x.solve with
          | some r => u16 r.generation ++ [yesNo r.reSolve]
          | none => [0, 0, 0])
        ++ presence 15 (x.solve.bind (·.solution)) (fun sol =>
            keepItems sol.keep ++ [yesNo sol.noSpan] ++ u16 sol.generation ++ [sol.source.code]) := by
  unfold Slot.solveItems Slot.generation Slot.solution
  cases x.solve <;> rfl

theorem State.commitItems_eq (s : State) (c : CommitRecord) :
    s.commitItems c =
      keepItems c.keep ++ [yesNo c.noSpan, c.source.code] ++ presence 2 c.generation u16
        ++ [yesNo c.overrideMissed, yesNo c.inhibited, yesNo c.manualConflict, yesNo c.trimMissed]
        ++ u16 (packBits c.pattern)
        ++ ((List.finRange 2).flatMap fun m =>
          if m.val < s.tables.sawBus.modules then
            [1, (c.results.get m).code] ++ presence 2 (c.masks.get m) fun r => [r.mask, r.down]
          else List.replicate 5 0)
        ++ [yesNo c.trimmed] := by
  have h : ∀ m : Fin 2, presence 4 (s.moduleEntry m m) c.moduleItems =
      if m.val < s.tables.sawBus.modules then
        [1, (c.results.get m).code] ++ presence 2 (c.masks.get m) fun r => [r.mask, r.down]
      else List.replicate 5 0 := by
    intro m
    unfold State.moduleEntry
    split <;> rfl
  unfold State.commitItems
  rw [funext h]

theorem ScanRecord.items_eq (r : ScanRecord) :
    r.items =
      [r.status.code, u8 (packBits ((List.finRange 4).map r.expected.get)),
          u8 (packBits ((List.finRange 4).map r.last.get)), yesNo r.scanPartial, yesNo r.noProfile]
        ++ presence 1 r.extent (fun e => [u8 e])
        ++ presence 1 r.extent (fun e => [u8 ((r.cells.take e).countP (·.isPresent))])
        ++ presence 1 r.extent (fun e => [u8 ((r.cells.take e).countP fun c => decide (c = .empty))])
        ++ presence 1 r.extent (fun e => [u8 ((r.cells.take e).countP fun c => decide (c = .unseen))]) := by
  have he : ∀ d : Cell, (fun c : Cell => c == d) = fun c => decide (c = d) := fun d => funext fun c => beq_eq_decide ..
  unfold ScanRecord.items ScanRecord.countItem
  rw [setByte_eq, setByte_eq, he, he]

theorem State.pieceItems_eq (s : State) (x : Slot) :
    let scan := x.scan
    let below := fun (p : Cell → Bool) => presence 1 scan.extent fun e => [u8 ((scan.cells.take e).countP p)]
    let kept := fun keep : Option Keep =>
      [if keep = none then (1 : Byte) else 0] ++ presence 1 keep (fun k => [u8 k.a])
        ++ presence 1 keep (fun k => [u8 k.b]) ++ presence 1 keep (fun k => [k.grade.code])
        ++ presence 1 keep (fun k => [u8 (k.b - k.a)]) ++ u16 ((keep.map (·.value)).getD 0)
    s.pieceItems x =
      [u8 x.offset, x.kind.code] ++ u16 x.run ++ [yesNo x.lugSynth, yesNo x.eye]
        ++ [scan.status.code, u8 (packBits ((List.finRange 4).map scan.expected.get)),
            u8 (packBits ((List.finRange 4).map scan.last.get)), yesNo scan.scanPartial, yesNo scan.noProfile]
        ++ presence 1 scan.extent (fun e => [u8 e])
        ++ below (·.isPresent) ++ below (fun c => decide (c = .empty)) ++ below (fun c => decide (c = .unseen))
        ++ presence 1 x.solve (fun r => [r.status.code])
        ++ (match x.solve with
          | some r => u16 r.generation ++ [yesNo r.reSolve]
          | none => [0, 0, 0])
        ++ presence 15 (x.solve.bind (·.solution)) (fun sol =>
            kept sol.keep ++ [yesNo sol.noSpan] ++ u16 sol.generation ++ [sol.source.code])
        ++ [x.console.window.code, match x.console.holder with | some c => u8 c.val | none => 4]
        ++ [u8 x.console.overrides.marks.length]
        ++ (x.console.overrides.marks.flatMap fun m => [u8 m.first, u8 m.last, u8 m.grade])
        ++ presence 1 x.console.overrides.forcedGrade (fun g => [u8 g])
        ++ presence 1 x.console.overrides.forcedLength (fun n => [u8 n])
        ++ [yesNo x.console.overrides.forcedScrap]
        ++ presence 33 x.commit (fun c =>
            kept c.keep ++ [yesNo c.noSpan, c.source.code] ++ presence 2 c.generation u16
              ++ [yesNo c.overrideMissed, yesNo c.inhibited, yesNo c.manualConflict, yesNo c.trimMissed]
              ++ u16 (packBits c.pattern)
              ++ ((List.finRange 2).flatMap fun m =>
                if m.val < s.tables.sawBus.modules then
                  [1, (c.results.get m).code] ++ presence 2 (c.masks.get m) fun r => [r.mask, r.down]
                else List.replicate 5 0)
              ++ [yesNo c.trimmed])
        ++ u16 x.run ++ presence 1 (s.run? x.run) fun r => [r.state.code] := by
  intro scan below kept
  have hk : kept = keepItems := (funext keepItems_eq).symm
  rw [hk]
  unfold State.pieceItems Slot.trackerItems ConsoleRecord.items State.pieceRunItems
  rw [x.solveItems_eq, ScanRecord.items_eq, funext s.commitItems_eq]
  simp only [List.append_assoc]
  rfl

end

/-- Settles O18: each reply is its list of items, and nothing but the reply is written. -/
theorem readRequestsChangeNothing : Obligations.ReadRequestsChangeNothing := by
  refine ⟨?_, fun s => ⟨fun t2 t1 rest hl ht => ?_, State.lugRate_zero⟩, ⟨rfl, rfl, rfl, rfl, rfl, rfl, rfl, rfl, rfl,
    ⟨rfl, fun _ => rfl, fun _ => rfl⟩, rfl, rfl, rfl, ⟨rfl, fun _ => rfl⟩, rfl, rfl⟩⟩
  · intro ft s h ok part
    refine ⟨?_, ?_, ?_, ?_, ?_, ?_, ?_, ?_, ?_, ?_, ?_, fun p hp => ?_, fun hl => ?_⟩
    · rw [exec_eq_after, State.after_identify]
      exact congrArg _ (State.request_taken h _ _ _ _ _ (.inr rfl))
    · exact exec_status h ft (by decide) rfl
    · exact exec_status h ft (by decide) (State.scanItems_eq _)
    · exact exec_status h ft (by decide) (State.solverItems_eq _)
    · exact exec_status h ft (by decide) (State.storeItems_eq _)
    · exact exec_status h ft (by decide) (State.interfaceItems_eq _)
    · exact exec_status h ft (by decide) (State.sawItems_eq _)
    · exact exec_status h ft (by decide) (State.laneItems_eq _)
    · refine exec_status h ft (by decide) ?_
      show State.runItems _ = _
      unfold State.runItems
      rw [State.oldRuns_eq]
      rfl
    · exact exec_status h ft (by decide) (State.fieldItems_eq _)
    · exact exec_status h ft (by decide) (State.portItems_received _ _ _)
    · have hl : hasLength [p] 1 = true := rfl
      rw [exec_eq_after, State.after_status, hl, State.request_taken h _ _ _ _ _ (.inr rfl)]
      exact congrArg _ (if_pos hp)
    · have hs : s.serving := ⟨h, hl⟩
      refine ⟨?_, fun k i => ⟨fun e he => ?_, fun he => ?_⟩, fun k i hk => ?_, fun hi lo b hr => ?_, ?_, ?_⟩
      · rw [exec_eq_after, State.after_causes]
        exact congrArg _ (State.request_serving hs _ _ _ _ _)
      · rw [exec_tableRead hs, State.readTable, TableKind.ofCode_code]
        dsimp only
        rw [State.received_tables, he]
        rfl
      · rw [exec_tableRead hs, State.readTable, TableKind.ofCode_code]
        dsimp only
        rw [State.received_tables, he]
        rfl
      · rw [exec_tableRead hs, State.readTable, hk]
        rfl
      · have hr' : (s.received .control [hi, lo, b]).run? (word hi lo) = none := hr
        rw [exec_tallyRead hs]
        simp only [State.readTally, readTagByte, hr']
        rfl
      · intro hi lo r hr p total
        refine ⟨?_, fun g => ?_, ?_, fun b hb => ?_⟩
        · rw [exec_tallyRead hs, State.readTally_section (u := s.received _ _) (x := .summary) hr rfl]
          exact congrArg (ok [hi, lo, 0] 0x8C) (State.summaryItems_eq _ r)
        · rw [exec_tallyRead hs, State.readTally_section (u := s.received _ _) (x := .grade g) hr (TallySection.ofCode_grade g)]
          exact congrArg (fun l => ok [hi, lo, u8 (g.val + 1)] 0x8C (l ++ u32 (r.tally.volume.get g))) (Bank.flatMap_items _ _)
        · rw [exec_tallyRead hs, State.readTally_section (u := s.received _ _) (x := .logs) hr rfl]
          refine congrArg (ok [hi, lo, 9] 0x8C) (Eq.trans (congrArg (_ ++ ·) (Bank.flatMap_items r.tally.classes u32)) ?_)
          simp only [List.flatMap_cons, List.flatMap_nil, List.append_nil, List.append_assoc]
        · have hr' : (s.received .control [hi, lo, b]).run? (word hi lo) = some r := hr
          have hb' : u8 b.toNat = b := BitVec.eq_of_toNat_eq (by rw [u8, BitVec.toNat_ofNat]; have := b.isLt; omega)
          rw [exec_tallyRead hs]
          simp only [State.readTally, readTagByte, hr', hb', TallySection.ofCode_of_lt hb]
          rfl
      · intro hi lo
        refine ⟨fun hn => ?_, ?_⟩
        · have hn' : (s.received .control [hi, lo]).slot? (word hi lo) = none := hn
          rw [exec_pieceQuery hs]
          simp only [State.queryPiece, readWord, hn']
          rfl
        · intro x hx scan below kept
          have hx' : (s.received .control [hi, lo]).slot? (word hi lo) = some x := hx
          rw [exec_pieceQuery hs]
          simp only [State.queryPiece, readWord, hx']
          exact congrArg (ok [hi, lo] 0x8E) (State.pieceItems_eq _ x)
  · have hd : 0 < 2 * max 1 (t2 - t1) := by omega
    rw [State.lugRate_running hl ht]
    generalize max 1 (t2 - t1) = d at hd ⊢
    have h1 := Nat.div_mul_le_self (120000 + d) (2 * d)
    have h2 := Nat.lt_div_mul_add hd (a := 120000 + d)
    constructor
    · rw [Nat.mul_comm]
      exact h1
    · rw [Nat.mul_add, Nat.mul_comm (2 * d), Nat.mul_one]
      exact h2

end Sys2Proof.Machine


/-! PROOF. Segments (R21, R25 to R29, R33; O22, O30, and the LAST segment of O31): how a payload is read, what the merging does
to each cell, the extent, and each case of R25 and R26. -/

namespace Sys2Proof.Machine

-- One proof after the other: together they would ask for more threads than the check has memory for.
set_option Elab.async false

/-! ## A SEGMENT as read (section 11.4) -/

/-- A known status: EMPTY or PRESENT. -/
def knownStatus (b : Option Byte) : Prop := b = some 0 ∨ b = some 1

theorem readEntry_some {l : List Byte} {c : Cell} (h : readEntry l = some c) : l.length = 9 ∧ knownStatus l[0]? := by
  unfold readEntry at h
  split at h
  · split at h
    · next h0 => exact ⟨rfl, .inl (congrArg some h0)⟩
    · split at h
      · next h1 => exact ⟨rfl, .inr (congrArg some h1)⟩
      · cases h
  · cases h

theorem readEntry_of_known {l : List Byte} (hl : l.length = 9) (hs : knownStatus l[0]?) : ∃ c, readEntry l = some c := by
  obtain ⟨st, t1, t0, w1, w0, n1, n0, k, d, rfl⟩ : ∃ a b c d e f g h i, l = [a, b, c, d, e, f, g, h, i] := by
    match l, hl with
    | [a, b, c, d, e, f, g, h, i], _ => exact ⟨a, b, c, d, e, f, g, h, i, rfl⟩
  rcases hs with hs | hs
  · obtain rfl : st = 0 := Option.some.inj hs
    exact ⟨_, rfl⟩
  · obtain rfl : st = 1 := Option.some.inj hs
    exact ⟨_, rfl⟩

theorem readEntries_succ (n : Nat) (l : List Byte) :
    readEntries (n + 1) l = (readEntry (l.take 9)).bind fun c => (readEntries n (l.drop 9)).bind fun cs => some (c :: cs) := rfl

/-- Entries read are as many as asked for, of 9 bytes each, every status known. -/
theorem readEntries_some {n : Nat} {l : List Byte} {es : List Cell} (h : readEntries n l = some es) :
    l.length = 9 * n ∧ es.length = n ∧ ∀ k < n, knownStatus l[9 * k]? ∧ es[k]? = readEntry ((l.drop (9 * k)).take 9) := by
  induction n generalizing l es with
  | zero =>
    rw [readEntries] at h
    split at h
    · next he =>
      cases h
      exact ⟨by rw [List.isEmpty_iff.mp he]; rfl, rfl, fun k hk => absurd hk (Nat.not_lt_zero k)⟩
    · cases h
  | succ n ih =>
    rw [readEntries_succ] at h
    obtain ⟨c, hc, h⟩ := Option.bind_eq_some_iff.mp h
    obtain ⟨cs, hcs, h⟩ := Option.bind_eq_some_iff.mp h
    cases h
    obtain ⟨hl, hs⟩ := readEntry_some hc
    obtain ⟨hl', hn, hk'⟩ := ih hcs
    rw [List.length_take] at hl
    rw [List.length_drop] at hl'
    refine ⟨by omega, by rw [List.length_cons, hn], fun k hk => ?_⟩
    cases k with
    | zero =>
      rw [List.getElem?_take_of_lt (by decide)] at hs
      exact ⟨hs, hc.symm⟩
    | succ k =>
      obtain ⟨h1, h2⟩ := hk' k (by omega)
      rw [List.getElem?_drop] at h1
      rw [List.drop_drop] at h2
      exact ⟨by rw [show 9 * (k + 1) = 9 + 9 * k by omega]; exact h1, by
        rw [show 9 * (k + 1) = 9 + 9 * k by omega]; exact h2⟩

/-- Bytes of the right length with known statuses are read. -/
theorem readEntries_of_known {n : Nat} {l : List Byte} (hl : l.length = 9 * n) (hs : ∀ k < n, knownStatus l[9 * k]?) :
    ∃ es, readEntries n l = some es := by
  induction n generalizing l with
  | zero => exact ⟨[], by rw [readEntries, List.length_eq_zero_iff.mp hl]; rfl⟩
  | succ n ih =>
    obtain ⟨c, hc⟩ := readEntry_of_known (l := l.take 9) (by rw [List.length_take]; omega)
      (by rw [List.getElem?_take_of_lt (by decide)]; exact hs 0 (by omega))
    obtain ⟨es, hes⟩ := ih (l := l.drop 9) (by rw [List.length_drop]; omega) fun k hk => by
      rw [List.getElem?_drop, show 9 + 9 * k = 9 * (k + 1) by omega]
      exact hs (k + 1) (by omega)
    exact ⟨c :: es, by rw [readEntries_succ, hc, hes]; rfl⟩

theorem readSegment_cons (hi lo first count flags : Byte) (body : List Byte) :
    readSegment (hi :: lo :: first :: count :: flags :: body) =
      if within 1 16 count.toNat then
        (readEntries count.toNat body).map fun es =>
          { tag := word hi lo, first := first.toNat, last := flags.getLsbD 0, entries := es }
      else none := rfl

/-- A SEGMENT that is not malformed, taken apart (R25). -/
theorem readSegment_some {p : List Byte} {g : SegmentData} (h : readSegment p = some g) :
    ∃ hi lo first count flags body, p = hi :: lo :: first :: count :: flags :: body ∧ (1 ≤ count.toNat ∧ count.toNat ≤ 16)
      ∧ readEntries count.toNat body = some g.entries := by
  unfold readSegment at h
  split at h
  · next hi lo first count flags body =>
    split at h
    · next hw =>
      obtain ⟨es, hes, rfl⟩ := Option.map_eq_some_iff.mp h
      exact ⟨hi, lo, first, count, flags, body, rfl, (within_iff _ _ _).mp hw, hes⟩
    · cases h
  · cases h

/-! ## The merging (R21, R26) -/

/-- The line cells of a head's local cells differ (R21). -/
theorem HeadEntry.lineCell_inj {h : HeadEntry} {a b i : Nat} (ha : h.lineCell a = some i) (hb : h.lineCell b = some i) :
    a = b := by
  unfold HeadEntry.lineCell at ha hb
  split at ha <;> split at hb <;> simp only [Option.some.injEq, reduceCtorEq] at ha hb
  subst ha
  split at hb <;> omega

theorem mergeEntry_length (h : HeadEntry) (j : Nat) (e : Cell) (cells : List Cell) :
    (mergeEntry h j e cells).length = cells.length := by
  unfold mergeEntry
  split
  · exact List.length_modify _ _ _
  · rfl

theorem mergeEntry_same {h : HeadEntry} {j i : Nat} (hi : h.lineCell j = some i) (e : Cell) (cells : List Cell) :
    (mergeEntry h j e cells)[i]? = cells[i]?.map (mergeCell · e) := by
  unfold mergeEntry
  rw [hi]
  exact List.getElem?_modify_eq (mergeCell · e) i cells

theorem mergeEntry_other {h : HeadEntry} {j i : Nat} (hi : h.lineCell j ≠ some i) (e : Cell) (cells : List Cell) :
    (mergeEntry h j e cells)[i]? = cells[i]? := by
  unfold mergeEntry
  split
  · next i' hi' => exact List.getElem?_modify_ne (mergeCell · e) cells fun he => hi (he ▸ hi')
  · rfl

theorem mergeEntries_length (h : HeadEntry) (j : Nat) (es cells : List Cell) :
    (mergeEntries h j es cells).length = cells.length := by
  induction es generalizing j cells with
  | nil => rfl
  | cons e es ih => exact (ih _ _).trans (mergeEntry_length h j e cells)

/-- A cell that is the line cell of no entry stays. -/
theorem mergeEntries_other {h : HeadEntry} {j i : Nat} {es : List Cell} (hi : ∀ k < es.length, h.lineCell (j + k) ≠ some i)
    (cells : List Cell) : (mergeEntries h j es cells)[i]? = cells[i]? := by
  induction es generalizing j cells with
  | nil => rfl
  | cons e es ih =>
    refine (ih (fun k hk => ?_) _).trans (mergeEntry_other (hi 0 (Nat.succ_pos _)) e cells)
    rw [show j + 1 + k = j + (k + 1) by omega]
    exact hi (k + 1) (Nat.succ_lt_succ hk)

/-- The line cell of an entry is merged with that entry, once. -/
theorem mergeEntries_same {h : HeadEntry} {j i k : Nat} {es : List Cell} {e : Cell} (he : es[k]? = some e)
    (hi : h.lineCell (j + k) = some i) (cells : List Cell) :
    (mergeEntries h j es cells)[i]? = cells[i]?.map (mergeCell · e) := by
  induction es generalizing j k cells with
  | nil => cases he
  | cons x es ih =>
    cases k with
    | zero =>
      obtain rfl : x = e := Option.some.inj he
      refine (mergeEntries_other (j := j + 1) (fun k _ hk => ?_) _).trans (mergeEntry_same (j := j) hi x cells)
      have := HeadEntry.lineCell_inj (a := j) hi hk
      omega
    | succ k =>
      have hother : h.lineCell j ≠ some i := fun hj => by
        have := HeadEntry.lineCell_inj hi hj
        omega
      rw [← mergeEntry_other hother x cells]
      exact ih (k := k) he (by rw [show j + 1 + k = j + (k + 1) by omega]; exact hi) _

/-- The merging of a segment's entries is the one R21 and R26 say. -/
theorem mergeEntries_merges (h : HeadEntry) (g : SegmentData) (cells : List Cell) :
    h.merges g cells (mergeEntries h g.first g.entries cells) := by
  have hline : ∀ k, g.first + k < h.span → h.lineCell (g.first + k) =
      some (if h.reversed then h.base + (h.span - 1 - (g.first + k)) else h.base + (g.first + k)) := fun k hk => if_pos hk
  refine ⟨mergeEntries_length _ _ _ _, fun k e he hk => mergeEntries_same he (hline k hk) cells, fun i hi =>
    mergeEntries_other (fun k hk hc => ?_) cells⟩
  by_cases hs : g.first + k < h.span
  · rw [hline k hs] at hc
    exact hi k hk hs (Option.some.inj hc).symm
  · rw [HeadEntry.lineCell, if_neg hs] at hc
    cases hc

/-! ## The extent (R33) -/

/-- The highest PRESENT cell of a map. -/
def TopPresent (cells : List Cell) (j : Nat) : Prop :=
  (∃ c, cells[j]? = some c ∧ c.isPresent = true) ∧ ∀ (k : Nat) (c : Cell), cells[k]? = some c → c.isPresent = true → k ≤ j

theorem TopPresent.cons {cs : List Cell} {j : Nat} (h : TopPresent cs j) (c : Cell) : TopPresent (c :: cs) (j + 1) := by
  obtain ⟨h1, h2⟩ := h
  refine ⟨h1, fun k d hd hp => ?_⟩
  cases k with
  | zero => exact Nat.zero_le _
  | succ k => exact Nat.succ_le_succ (h2 k d hd hp)

theorem extentFrom_spec (i : Nat) (best : Option Nat) (cells : List Cell) :
    ((∀ c ∈ cells, c.isPresent = false) ∧ extentFrom i best cells = best)
      ∨ ∃ j, TopPresent cells j ∧ extentFrom i best cells = some (i + j + 1) := by
  induction cells generalizing i best with
  | nil => exact .inl ⟨nofun, rfl⟩
  | cons c cs ih =>
    rw [extentFrom]
    rcases ih (i + 1) (if c.isPresent then some (i + 1) else best) with ⟨hnone, he⟩ | ⟨j, hj, he⟩
    · rw [he]
      by_cases hc : c.isPresent = true
      · refine .inr ⟨0, ⟨⟨c, rfl, hc⟩, fun k d hd hp => ?_⟩, if_pos hc⟩
        cases k with
        | zero => exact Nat.le_refl _
        | succ k => rw [hnone d (List.mem_of_getElem? hd)] at hp; cases hp
      · exact .inl ⟨List.forall_mem_cons.mpr ⟨by simpa using hc, hnone⟩, if_neg hc⟩
    · exact .inr ⟨j + 1, hj.cons c, by rw [he]; congr 1; omega⟩

theorem extentOf_is (cells : List Cell) : extentIs cells (extentOf cells) := by
  intro e
  rw [extentOf]
  rcases extentFrom_spec 0 none cells with ⟨hnone, he⟩ | ⟨j, ⟨⟨c, hc, hp⟩, htop⟩, he⟩
  · rw [he]
    refine ⟨nofun, fun ⟨⟨c, hc, _, hp⟩, _⟩ => ?_⟩
    rw [hnone c (List.mem_of_getElem? hc)] at hp
    cases hp
  · rw [he, Nat.zero_add]
    constructor
    · intro h
      obtain rfl : j + 1 = e := Option.some.inj h
      exact ⟨⟨c, hc, Nat.succ_pos j, hp⟩, fun k d hd hdp => Nat.lt_succ_of_le (htop k d hd hdp)⟩
    · rintro ⟨⟨d, hd, hpos, hdp⟩, hlt⟩
      have h1 := htop _ d hd hdp
      have h2 := hlt j c hc hp
      rw [show e = j + 1 by omega]

/-! ## A segment taken, by the first case of R26 that applies -/

section
variable {s : State} {h : Fin 4} {kind : Byte} {p : List Byte} {g : SegmentData} {x : Slot}

theorem State.headFrame_ignored (hi : s.tracker.line = .starting ∨ (s.scan.heads.get h).status = .disabled) :
    s.headFrame h kind p = s := by
  unfold State.headFrame
  rw [if_pos]
  rcases hi with hi | hi <;> rw [hi] <;> simp

theorem State.headFrame_heard (hl : s.tracker.line ≠ .starting) (hd : (s.scan.heads.get h).status ≠ .disabled) :
    s.headFrame h kind p =
      match (if kind = segmentKind then readSegment p else none) with
      | none => s.setScan fun i => { i with malformed := bump i.malformed }
      | some g => s.takeSegment h g := by
  unfold State.headFrame
  exact if_neg (by simp [hl, hd])

theorem State.headFrame_malformed (hl : s.tracker.line ≠ .starting) (hd : (s.scan.heads.get h).status ≠ .disabled)
    (hm : kind ≠ segmentKind ∨ readSegment p = none) :
    s.headFrame h kind p = s.setScan fun i => { i with malformed := bump i.malformed } := by
  rw [State.headFrame_heard hl hd]
  have : (if kind = segmentKind then readSegment p else none) = none := by
    rcases hm with hm | hm
    · exact if_neg hm
    · rw [hm, ite_self]
  rw [this]

theorem State.headFrame_taken (hl : s.tracker.line ≠ .starting) (hd : (s.scan.heads.get h).status ≠ .disabled)
    (hg : readSegment p = some g) : s.headFrame h segmentKind p = s.takeSegment h g := by
  rw [State.headFrame_heard hl hd, if_pos rfl, hg]

theorem State.takeSegment_stray (hx : s.slot? g.tag = none) :
    s.takeSegment h g = s.setScan fun i => { i with stray := bump i.stray } := by
  unfold State.takeSegment
  rw [hx]

theorem State.takeSegment_late (hx : s.slot? g.tag = some x) (hl : x.scan.last.get h = true) :
    s.takeSegment h g = s.setScan fun i => { i with late := bump i.late } := by
  unfold State.takeSegment
  rw [hx]
  exact if_pos hl

theorem State.takeSegment_merged (hx : s.slot? g.tag = some x) (hl : x.scan.last.get h = false) (ho : x.scan.status = .open) :
    s.takeSegment h g =
      (s.updateSlot g.tag (·.mergeSegment (s.tables.heads.get h) h g)).lastInTime h g.last x.scan.deadlinePassed := by
  unfold State.takeSegment
  rw [hx]
  exact (if_neg (by rw [hl]; decide)).trans (if_pos (beq_iff_eq.mpr ho))

theorem State.takeSegment_closed (hx : s.slot? g.tag = some x) (hl : x.scan.last.get h = false) (ho : x.scan.status ≠ .open) :
    s.takeSegment h g =
      (((s.setScan fun i => { i with late := bump i.late }).updateSlot g.tag
        (·.setScan fun r => { r with last := if g.last then r.last.set h true else r.last })).lastInTime h g.last
          x.scan.deadlinePassed).raise .scanLate := by
  unfold State.takeSegment
  rw [hx]
  exact (if_neg (by rw [hl]; decide)).trans (if_neg (mt beq_iff_eq.mp ho))

theorem State.lastInTime_eq (last passed : Bool) :
    s.lastInTime h last passed =
      { s with
        scan := { s.scan with
          heads := if last = true ∧ passed = false then s.scan.heads.set h { status := .up, misses := 0 }
            else s.scan.heads } } := by
  unfold State.lastInTime
  cases last <;> cases passed <;> rfl

/-- A segment of a closed scan (R26). -/
theorem State.takeSegment_closed_spec (hx : s.slot? g.tag = some x) (hl : x.scan.last.get h = false)
    (ho : x.scan.status ≠ .open) :
    (s.takeSegment h g).isPending .scanLate = true
      ∧ (s.takeSegment h g).tracker.ring =
          (s.tracker.ring.map fun y =>
            if y.tag = g.tag ∧ g.last = true then { y with scan := { y.scan with last := y.scan.last.set h true } } else y)
      ∧ (s.takeSegment h g).scan =
          { s.scan with
            late := min (s.scan.late + 1) 65535
            heads :=
              if g.last = true ∧ x.scan.deadlinePassed = false then s.scan.heads.set h { status := .up, misses := 0 }
              else s.scan.heads }
      ∧ { s.takeSegment h g with
          tracker := { (s.takeSegment h g).tracker with ring := s.tracker.ring }, scan := s.scan, ctl := s.ctl,
          field := s.field } = s := by
  rw [State.takeSegment_closed hx hl ho, State.lastInTime_eq]
  generalize hv : State.mk _ _ _ _ _ _ _ _ _ _ _ _ _ _ _ = v
  have hvt : v.tracker = { s.tracker with
      ring := changeSlot g.tag (·.setScan fun r => { r with last := if g.last then r.last.set h true else r.last })
        s.tracker.ring } := by rw [← hv]; rfl
  have hvs : v.scan = { s.scan with
      late := min (s.scan.late + 1) 65535
      heads := if g.last = true ∧ x.scan.deadlinePassed = false then s.scan.heads.set h { status := .up, misses := 0 }
        else s.scan.heads } := by rw [← hv]; rfl
  obtain ⟨hr, -⟩ := v.raise_keeps .scanLate
  refine ⟨(v.raise_isPending .scanLate).1, ?_, ?_, ?_⟩
  · rw [State.raise_tracker, hvt]
    refine (changeSlot_eq_map _ _ _).trans (List.map_congr_left fun y _ => ?_)
    cases g.last with
    | true => simp only [Slot.setScan, and_true, if_true]
    | false => simp only [Slot.setScan, Bool.false_eq_true, and_false, if_false, ite_self]
  · rw [State.raise_scan, hvs]
  · exact (congrArg (fun u : State =>
      { u with tracker := { u.tracker with ring := s.tracker.ring }, scan := s.scan, ctl := s.ctl, field := s.field }) hr).trans
      (by rw [← hv])

end

/-! ## Frames discarded and counted (R105, R118, R161) -/

theorem logFrameLength_iff (kind : Byte) (n : Nat) :
    logFrameLength kind = some n ↔ (kind = 0x71 ∧ n = 2) ∨ (kind = 0x72 ∧ n = 6) ∨ (kind = 0x73 ∧ n = 2) := by
  unfold logFrameLength
  by_cases h1 : kind = 0x71
  · subst h1
    simp [eq_comm]
  · by_cases h2 : kind = 0x72
    · subst h2
      simp [eq_comm]
    · by_cases h3 : kind = 0x73
      · subst h3
        simp [eq_comm]
      · rw [if_neg h1, if_neg h2, if_neg h3]
        exact ⟨nofun, fun h => by rcases h with h | h | h <;> exact absurd h.1 ‹_›⟩

theorem exec_segment (h : Fin 4) (kind : Byte) (p : List Byte) (s : State) :
    exec (.segment h kind p) s = .next ((s.received (.head h) p).headFrame h kind p) := by
  rw [exec_eq_after, State.after_segment]

/-- Settles O22: each discard is one branch of its command, and of R25 and R26. -/
theorem badFramesDiscarded : Obligations.BadFramesDiscarded := by
  refine ⟨fun l bytes s hb => ⟨fun hj => ?_, fun hj => ?_⟩, fun kind p s hs hn => ?_, fun kind p s h1 h2 h3 h4 => ?_,
    fun h kind p s => ?_⟩
  · rw [exec_eq_after, State.after_badFrame, hb, hj]
    rfl
  · rw [exec_eq_after, State.after_frameByteTimeout, hb, hj]
    rfl
  · rw [exec_eq_after, State.after_logFrameDiscard, if_neg (mt (logFrameLength_iff kind p.length).mp hn),
      if_neg (mt beq_iff_eq.mp hs)]
    rfl
  · have ha : answersRequest kind = false := by
      rw [Bool.eq_false_iff, answersRequest, Ne, List.contains_iff_mem]
      simp only [List.mem_cons, List.not_mem_nil, or_false, not_or]
      exact ⟨h1, h2, h3, h4⟩
    rw [exec_eq_after, State.after_busFrameDiscarded, ha]
    rfl
  · intro got
    refine ⟨fun hi => ?_, fun hl hd => ⟨fun hm => ?_, fun g hk hg => ⟨fun hx => ?_, fun x hx => ⟨fun hlast => ?_, fun hlast ho => ?_⟩⟩⟩⟩
    · rw [exec_segment, State.headFrame_ignored (s := s.received (.head h) p) hi]
    · rw [exec_segment, State.headFrame_malformed (s := s.received (.head h) p) hl hd hm]
      rfl
    · subst hk
      rw [exec_segment]
      exact congrArg _ ((State.headFrame_taken (s := s.received (.head h) p) hl hd hg).trans
        (State.takeSegment_stray (s := s.received (.head h) p) hx))
    · subst hk
      rw [exec_segment]
      exact congrArg _ ((State.headFrame_taken (s := s.received (.head h) p) hl hd hg).trans
        (State.takeSegment_late (s := s.received (.head h) p) hx hlast))
    · subst hk
      refine ⟨got.takeSegment h g, ?_, ?_⟩
      · rw [exec_segment]
        exact congrArg _ (State.headFrame_taken (s := s.received (.head h) p) hl hd hg)
      · obtain ⟨h1, h2, h3, h4⟩ := State.takeSegment_closed_spec (s := got) (h := h) hx hlast ho
        exact ⟨h1, h2, h3, congrArg (fun u : State => { u with links := s.links }) h4⟩

/-- Settles O30: the entries merge as R21 and R27 say, the tag names one slot, and a payload is read entry by entry. -/
theorem segmentMergesItsCells : Obligations.SegmentMergesItsCells := by
  refine ⟨fun h p g x s hi hl hd hg hlast hx hnot ho => ?_, fun p g hg => ?_, fun hi lo first count flags body h1 h16 hl hs => ?_⟩
  · refine ⟨mergeEntries (s.tables.heads.get h) g.first g.entries x.scan.cells, ?_, mergeEntries_merges _ g _⟩
    rw [exec_segment]
    refine congrArg _ (((State.headFrame_taken (s := s.received (.head h) p) hl hd hg).trans
      (State.takeSegment_merged (s := s.received (.head h) p) hx hnot ho)).trans ?_)
    rw [hlast, State.lastInTime, Bool.false_and]
    obtain ⟨hm, ht⟩ := State.slot?_some hx
    refine congrArg (State.setRing (s.received (.head h) p)) ((changeSlot_eq_map _ _ _).trans (List.map_congr_left fun y hy => ?_))
    by_cases hy' : y.tag = g.tag
    · obtain rfl := hi.ring.eq_of_tag hy hm (hy'.trans ht.symm)
      rw [if_pos hy', if_pos hy', Slot.mergeSegment_eq, hlast]
      show y.segmentTaken _ h g = _
      rw [Slot.segmentTaken, hlast]
      rfl
    · rw [if_neg hy', if_neg hy']
  · obtain ⟨hi, lo, first, count, flags, body, rfl, ⟨h1, h16⟩, he⟩ := readSegment_some hg
    obtain ⟨hlen, hn, hk⟩ := readEntries_some he
    refine ⟨?_, hn ▸ h1, hn ▸ h16, fun k hk' => ?_⟩
    · simp only [List.length_cons, hlen, hn]
      omega
    · rw [show 5 + 9 * k = 9 * k + 1 + 1 + 1 + 1 + 1 by omega]
      exact (hk k (hn ▸ hk')).1
  · obtain ⟨es, he⟩ := readEntries_of_known hl hs
    obtain ⟨-, hn, hk⟩ := readEntries_some he
    refine ⟨{ tag := word hi lo, first := first.toNat, last := flags.getLsbD 0, entries := es }, ?_, rfl, hn, ?_⟩
    · rw [readSegment_cons, if_pos ((within_iff _ _ _).mpr ⟨h1, h16⟩), he]
      rfl
    · intro k st t1 t0 w1 w0 n1 n0 knot defects rest hk' hbody
      obtain ⟨hst, hread⟩ := hk k hk'
      show es[k]? = _
      rw [hread, hbody]
      show readEntry [st, t1, t0, w1, w0, n1, n0, knot, defects] = _
      have hst' : body[9 * k]? = some st := by
        rw [← Nat.add_zero (9 * k), ← List.getElem?_drop, hbody]
        rfl
      rw [hst'] at hst
      rcases hst with hst | hst <;> obtain rfl := Option.some.inj hst
      · rfl
      · have : min 255 knot.toNat = knot.toNat := Nat.min_eq_right (Nat.le_of_lt_succ knot.isLt)
        simp only [readEntry, this]
        rfl

/-! ## A LAST segment in time (R26, R29, R32, R33) -/

theorem ScanRecord.answered_iff (r : ScanRecord) :
    r.answered = true ↔
      (∃ d : Fin 4, r.expected.get d = true) ∧ ∀ d : Fin 4, r.expected.get d = true → r.last.get d = true := by
  rw [ScanRecord.answered, Bool.and_eq_true, Bank.items_eq, List.any_eq_true, List.all_eq_true]
  refine and_congr ⟨?_, ?_⟩ ⟨fun h d hd => ?_, fun h d _ => ?_⟩
  · rintro ⟨b, hb, hid⟩
    obtain ⟨d, rfl⟩ := List.mem_ofFn.mp hb
    exact ⟨d, hid⟩
  · rintro ⟨d, hd⟩
    exact ⟨_, List.mem_ofFn.mpr ⟨d, rfl⟩, hd⟩
  · have := h d (List.mem_finRange d)
    rw [hd] at this
    simpa using this
  · cases he : r.expected.get d with
    | true => rw [h d he]; rfl
    | false => rfl

/-- The slot whose OPEN scan takes a LAST segment: answered whole, or with its LAST set grown. -/
theorem Slot.mergeSegment_last {en : Option Nat} {x : Slot} (hx : x.Sound en) (ho : x.scan.status = .open) (e : HeadEntry)
    (h : Fin 4) {g : SegmentData} (hg : g.last = true) :
    { x.mergeSegment e h g with scan := x.scan, solve := x.solve } = x
      ∧ (x.mergeSegment e h g).scan.cells = mergeEntries e g.first g.entries x.scan.cells
      ∧ (x.mergeSegment e h g).scan.last = x.scan.last.set h true
      ∧ (x.mergeSegment e h g).scan.expected = x.scan.expected
      ∧ ((x.mergeSegment e h g).scan.scanPartial, (x.mergeSegment e h g).scan.deadlinePassed) =
          (x.scan.scanPartial, x.scan.deadlinePassed)
      ∧ ((x.mergeSegment e h g).scan.status = .complete ↔
          (∃ d : Fin 4, x.scan.expected.get d = true)
            ∧ ∀ d : Fin 4, x.scan.expected.get d = true → d = h ∨ x.scan.last.get d = true)
      ∧ ((x.mergeSegment e h g).scan.status = .complete →
          extentIs (x.mergeSegment e h g).scan.cells (x.mergeSegment e h g).scan.extent
          ∧ ((x.mergeSegment e h g).scan.noProfile = true ↔
              x.scan.noProfile = true ∨ x.kind = .board ∧ (x.mergeSegment e h g).scan.extent = none)
          ∧ (x.kind = .board →
              (x.mergeSegment e h g).solve =
                some { status := .queued, solution := none, reSolve := false, generation := 0 }))
      ∧ ((x.mergeSegment e h g).scan.status ≠ .complete →
          (x.mergeSegment e h g).scan.status = .open ∧ (x.mergeSegment e h g).solve = x.solve
            ∧ (x.mergeSegment e h g).scan.noProfile = x.scan.noProfile
            ∧ (x.mergeSegment e h g).scan.extent = x.scan.extent) := by
  have hanswered : (x.segmentTaken e h g).scan.answered = true ↔
      (∃ d : Fin 4, x.scan.expected.get d = true)
        ∧ ∀ d : Fin 4, x.scan.expected.get d = true → d = h ∨ x.scan.last.get d = true := by
    rw [ScanRecord.answered_iff]
    refine and_congr Iff.rfl (forall_congr' fun d => imp_congr_right fun _ => ?_)
    show (if g.last then x.scan.last.set h true else x.scan.last).get d = true ↔ _
    rw [hg, if_pos rfl, Bank.get_set]
    by_cases hd : d = h
    · simp [hd]
    · simp [hd]
  have hlast : (if g.last then x.scan.last.set h true else x.scan.last) = x.scan.last.set h true := by
    rw [hg, if_pos rfl]
  have hhanded : x.scan.handedOver = false := by rw [hx.handedOver, hx.solve_none ho]; rfl
  rw [Slot.mergeSegment_eq, hg, Bool.true_and]
  by_cases ha : (x.segmentTaken e h g).scan.answered = true
  · rw [if_pos ha, Slot.closeScan_eq .complete nofun]
    refine ⟨rfl, rfl, hlast, rfl, by simp [Slot.segmentTaken, Slot.setScan], iff_of_true rfl (hanswered.mp ha),
      fun _ => ⟨extentOf_is _, ?_, fun hk => ?_⟩, fun hc => absurd rfl hc⟩
    · rw [Bool.or_eq_true, decide_eq_true_iff]
      exact Iff.rfl
    · exact if_pos ⟨hk, hhanded⟩
  · rw [if_neg ha]
    have hopen : (x.segmentTaken e h g).scan.status = .open := ho
    refine ⟨rfl, rfl, hlast, rfl, rfl, iff_of_false (by rw [hopen]; decide) (mt hanswered.mpr ha), fun hc => ?_,
      fun _ => ⟨hopen, rfl, rfl, rfl⟩⟩
    rw [hopen] at hc
    cases hc

theorem lastSegment_closes {h : Fin 4} {p : List Byte} {g : SegmentData} {x : Slot} {s : State} (hi : s.Inv)
    (hl : s.tracker.line ≠ .starting) (hd : (s.scan.heads.get h).status ≠ .disabled) (hg : readSegment p = some g)
    (hlast : g.last = true) (hx : s.slot? g.tag = some x) (hnot : x.scan.last.get h = false) (ho : x.scan.status = .open)
    (hdl : x.scan.deadlinePassed = false) :
    ∃ t, exec (.segment h 0x22 p) s = .next t
      ∧ t.tracker.ring =
          (s.tracker.ring.map fun z => if z.tag = g.tag then x.mergeSegment (s.tables.heads.get h) h g else z)
      ∧ t.scan = { s.scan with heads := s.scan.heads.set h { status := .up, misses := 0 } }
      ∧ { t with tracker := { t.tracker with ring := s.tracker.ring }, scan := s.scan, links := s.links } = s := by
  have he : exec (.segment h 0x22 p) s =
      .next { (s.received (.head h) p).updateSlot g.tag (·.mergeSegment (s.tables.heads.get h) h g) with
        scan := { s.scan with heads := s.scan.heads.set h { status := .up, misses := 0 } } } := by
    rw [exec_segment]
    refine congrArg _ ((State.headFrame_taken (s := s.received (.head h) p) hl hd hg).trans
      ((State.takeSegment_merged (s := s.received (.head h) p) hx hnot ho).trans ?_))
    rw [State.lastInTime_eq, if_pos ⟨hlast, hdl⟩]
    rfl
  refine ⟨_, he, ?_, rfl, rfl⟩
  obtain ⟨hm, ht⟩ := State.slot?_some hx
  refine (changeSlot_eq_map _ _ _).trans (List.map_congr_left fun y hy => ?_)
  by_cases hy' : y.tag = g.tag
  · obtain rfl := hi.ring.eq_of_tag hy hm (hy'.trans ht.symm)
    rw [if_pos hy']
  · rw [if_neg hy', if_neg hy']

end Sys2Proof.Machine


/-! PROOF. Frames on a wire (R161; O21): a whole frame passes, none of its beginnings does, and a half-duplex receiver's
judgements one by one. -/

namespace Sys2Proof.Machine

-- One proof after the other: together they would ask for more threads than the check has memory for.
set_option Elab.async false

/-! ## Judging (R161) -/

theorem judgeBytes_cons (b len : Byte) (rest : List Byte) :
    judgeBytes (b :: len :: rest) =
      if 250 < len.toNat then .bad
      else
        match rest.drop (len.toNat + 2) with
        | hi :: lo :: _ => if word hi lo = crc16 (len :: rest.take (len.toNat + 2)) then .good else .bad
        | _ => .incomplete := rfl

/-- Fewer bytes than the length byte names, with kind, tag and CRC, are no whole frame. -/
theorem judgeBytes_short {b len : Byte} {rest : List Byte} (hl : len.toNat ≤ 250) (hr : rest.length < len.toNat + 4) :
    judgeBytes (b :: len :: rest) = .incomplete := by
  rw [judgeBytes_cons, if_neg (Nat.not_lt.mpr hl)]
  have hd : (rest.drop (len.toNat + 2)).length < 2 := by rw [List.length_drop]; omega
  match rest.drop (len.toNat + 2), hd with
  | [], _ => rfl
  | [_], _ => rfl

theorem Frame.wire_eq (f : Frame) :
    f.wire = syncByte :: u8 f.payload.length :: (f.kind :: f.tag :: f.payload ++ u16 (crc16 f.covered)) := rfl

theorem Frame.wire_length (f : Frame) : f.wire.length = f.payload.length + 6 := by
  rw [Frame.wire_eq]
  simp [u16]

theorem Frame.wire_good {f : Frame} (h : f.payload.length ≤ 250) : judgeBytes f.wire = .good := by
  have hl : (u8 f.payload.length).toNat = f.payload.length := toNat_u8 (by omega)
  have hlen : (f.kind :: f.tag :: f.payload).length = f.payload.length + 2 := rfl
  rw [Frame.wire_eq, judgeBytes_cons, hl, if_neg (Nat.not_lt.mpr h), List.drop_left' hlen, List.take_left' hlen]
  exact if_pos (word_u8 (crc16_lt _))

theorem Frame.wire_take_incomplete {f : Frame} (h : f.payload.length ≤ 250) {n : Nat} (hn : n < f.payload.length + 6) :
    judgeBytes (f.wire.take n) = .incomplete := by
  have hl : (u8 f.payload.length).toNat = f.payload.length := toNat_u8 (by omega)
  rw [Frame.wire_eq]
  match n, hn with
  | 0, _ => rfl
  | 1, _ => rfl
  | n + 2, hn =>
    refine judgeBytes_short (hl.trans_le h) ?_
    rw [List.length_take, hl]
    omega

/-! ## Hunting and settling (R161) -/

theorem hunt_of_begins {l : List Byte} (h : beginsFrame l = true) (l' : List Byte) : hunt (l ++ l') = l ++ l' := by
  cases l with
  | nil => cases h
  | cons b bs =>
    obtain rfl : b = syncByte := Option.some.inj (beq_iff_eq.mp h)
    exact if_pos rfl

/-- What hunting leaves begins a frame or is nothing, so hunting again changes nothing. -/
theorem hunt_hunt (l : List Byte) : hunt (hunt l) = hunt l := by
  induction l with
  | nil => rfl
  | cons b bs ih =>
    by_cases hb : b = syncByte
    · rw [hunt, if_pos hb, hunt, if_pos hb]
    · rw [hunt, if_neg hb, ih]

namespace LinkReceiver

theorem settle_of_incomplete {r : LinkReceiver} (h : judgeBytes r.held = .incomplete) (n : Nat) : settle n r = r := by
  cases n with
  | zero => rfl
  | succ n => rw [settle, h]

theorem settle_of_bad {r : LinkReceiver} (h : judgeBytes r.held = .bad) (n : Nat) :
    settle (n + 1) r = settle n { held := hunt r.held.tail, discarded := bump r.discarded } := by rw [settle, h]

theorem settle_of_good {r : LinkReceiver} (h : judgeBytes r.held = .good) (n : Nat) :
    settle (n + 1) r = settle n { r with held := hunt (r.held.drop (frameLength r.held)) } := by rw [settle, h]

/-- Once there are as many judgements as bytes, more change nothing. -/
theorem settle_enough {n m : Nat} {r : LinkReceiver} (hn : r.held.length ≤ n) (hm : r.held.length ≤ m) :
    settle n r = settle m r := by
  induction n generalizing m r with
  | zero =>
    have h0 : r.held = [] := List.length_eq_zero_iff.mp (Nat.le_zero.mp hn)
    rw [settle_of_incomplete (by rw [h0]; rfl), settle_of_incomplete (by rw [h0]; rfl)]
  | succ n ih =>
    cases hj : judgeBytes r.held with
    | incomplete => rw [settle_of_incomplete hj, settle_of_incomplete hj]
    | bad =>
      have hpos : 0 < r.held.length := List.length_pos_iff.mpr fun h0 => by rw [h0] at hj; cases hj
      obtain ⟨m, rfl⟩ := Nat.exists_eq_succ_of_ne_zero (show m ≠ 0 by omega)
      have hle : (hunt r.held.tail).length ≤ r.held.length - 1 := List.length_tail ▸ hunt_length_le _
      rw [settle_of_bad hj, settle_of_bad hj]
      exact ih (show (hunt _).length ≤ n by omega) (show (hunt _).length ≤ m by omega)
    | good =>
      have hpos : 0 < r.held.length := List.length_pos_iff.mpr fun h0 => by rw [h0] at hj; cases hj
      obtain ⟨m, rfl⟩ := Nat.exists_eq_succ_of_ne_zero (show m ≠ 0 by omega)
      have hle : (hunt (r.held.drop (frameLength r.held))).length ≤ r.held.length - frameLength r.held :=
        List.length_drop ▸ hunt_length_le _
      have hframe : 6 ≤ frameLength r.held := Nat.le_add_left _ _
      rw [settle_of_good hj, settle_of_good hj]
      exact ih (show (hunt _).length ≤ n by omega) (show (hunt _).length ≤ m by omega)

/-- A receiver that holds nothing takes a whole frame sent, and holds nothing after it. -/
theorem takeSent_wire {f : Frame} (h : f.payload.length ≤ 250) (count : Nat) :
    LinkReceiver.takeSent f.wire { held := [], discarded := count } = { held := [], discarded := count } := by
  have hhunt : hunt ([] ++ f.wire) = f.wire := if_pos rfl
  have hlen : frameLength f.wire = f.wire.length := by
    rw [Frame.wire_length]
    exact congrArg (· + 6) (toNat_u8 (by omega))
  rw [takeSent, hhunt, Frame.wire_length, List.length_nil, Nat.zero_add, settle_of_good (Frame.wire_good h)]
  show settle _ { held := hunt (f.wire.drop (frameLength f.wire)), discarded := count } = _
  rw [hlen, List.drop_length]
  exact settle_of_incomplete rfl _

end LinkReceiver

/-- Settles O21: the CRC of what is covered follows it, and each judgement of the half-duplex receiver is one step of settling. -/
theorem framesPassTheChecks : Obligations.FramesPassTheChecks := by
  refine ⟨fun f h => ⟨Frame.wire_good h, rfl, ?_, fun n hn => Frame.wire_take_incomplete h hn,
    fun count => LinkReceiver.takeSent_wire h count⟩, fun wire r hb => ⟨fun hj => ?_, fun hj => ?_⟩⟩
  · exact List.take_left
  · rw [LinkReceiver.takeSent, hunt_of_begins hb]
    exact LinkReceiver.settle_of_incomplete hj _
  · have hpos : 0 < r.held.length := List.length_pos_iff.mpr fun h0 => by rw [h0] at hb; cases hb
    have hle : (hunt (r.held ++ wire).tail).length ≤ r.held.length + wire.length - 1 := by
      refine Nat.le_trans (hunt_length_le _) ?_
      rw [List.length_tail, List.length_append]
    rw [LinkReceiver.takeSent, hunt_of_begins hb, LinkReceiver.takeSent, List.append_nil, hunt_hunt]
    rw [show r.held.length + wire.length = (r.held.length + wire.length - 1) + 1 by omega, LinkReceiver.settle_of_bad hj]
    exact LinkReceiver.settle_enough hle (Nat.le_refl _)

end Sys2Proof.Machine


/-! PROOF. Logs (R118 to R126, R128, R145; O43): what the end of a log leaves, with or without a fault, and each log frame. -/

namespace Sys2Proof.Machine

-- One proof after the other: together they would ask for more threads than the check has memory for.
set_option Elab.async false

/-! ## Counters after an entry, and reports that find room -/

/-- A counter after the increases of an entry, stopped at its maximum (R146). -/
theorem Run.get_countAll {r : Run} {c : Counter} (h : r.tally.get c ≤ Config.tallyMax) (l : List (Counter × Nat)) :
    (r.countAll l).tally.get c = min (r.tally.get c + gain l c) Config.tallyMax := by
  induction l generalizing r with
  | nil => exact (Nat.min_eq_left h).symm
  | cons p l ih =>
    have hget := r.get_count p.1 c p.2
    have hle : (r.count p.1 p.2).tally.get c ≤ Config.tallyMax := by
      rw [hget]
      split
      · exact Nat.min_le_right ..
      · exact h
    refine (ih hle).trans ?_
    rw [hget, gain_cons]
    by_cases hc : c = p.1
    · rw [if_pos hc, if_pos hc.symm, hc]
      omega
    · rw [if_neg hc, if_neg (Ne.symm hc), Nat.zero_add]

/-- A report asked for while the queue has room waits there. -/
theorem State.report_waits {s : State} (h : s.ctl.reports.length < 64) (kind : Byte) (payload : List Byte) :
    ∃ f ∈ (s.report kind payload).ctl.reports, f.kind = kind ∧ f.payload = payload := by
  have hr : s.ctl.reportAsked (s.report kind payload).ctl kind payload := s.ctl.report_reportAsked kind payload
  rw [ControlPort.reportAsked, if_pos h] at hr
  rw [hr]
  exact ⟨_, List.mem_append_right _ (List.mem_singleton_self _), rfl, rfl⟩

/-- A raise adds one report at most while the queue has room. -/
theorem State.raise_reports_le {s : State} (h : s.ctl.reports.length < 64) (x : Cause) :
    (s.raise x).ctl.reports.length ≤ s.ctl.reports.length + 1 := by
  have hr := s.raise_causeRaised x
  unfold ControlPort.causeRaised at hr
  split at hr
  · rw [hr]
    exact Nat.le_succ _
  · rw [ControlPort.reportAsked, if_pos h] at hr
    rw [hr]
    exact Nat.le_of_eq List.length_append

theorem State.enter_reports_le {s : State} (h : s.ctl.reports.length < 64) (seq : Nat) (l : List (Counter × Nat)) :
    (s.enter seq l).ctl.reports.length ≤ s.ctl.reports.length + 1 := by
  rcases s.enter_eq seq l with he | he <;> rw [he]
  · exact Nat.le_succ _
  · exact State.raise_reports_le (s := s.setRuns _) h _

/-! ## The class of a log (R123) -/

/-- The first bound above the SED, by the bounds below it and the one at its place. -/
theorem firstBound_eq {sed k : Nat} {l : List Nat} (hk : k ≤ l.length) (hbelow : ∀ i b, i < k → l[i]? = some b → b ≤ sed)
    (hat : ∀ b, l[k]? = some b → sed < b) (i : Nat) : firstBound sed i l = i + k := by
  induction l generalizing k i with
  | nil => rw [Nat.le_zero.mp hk]; rfl
  | cons b bs ih =>
    rw [firstBound]
    cases k with
    | zero => exact if_pos (hat b rfl)
    | succ k =>
      rw [if_neg (Nat.not_lt.mpr (hbelow 0 b (Nat.succ_pos k) rfl)),
        ih (Nat.le_of_succ_le_succ hk) (fun i b hi hb => hbelow (i + 1) b (Nat.succ_lt_succ hi) hb) hat]
      omega

theorem logClass_eq {c : LogClasses} {sed cls : Nat} (hc : cls ≤ 7)
    (hbelow : ∀ i b, i < cls → c.bounds.items[i]? = some b → b ≤ sed) (hat : ∀ b, c.bounds.items[cls]? = some b → sed < b) :
    (logClass c sed).val = cls := by
  show min (firstBound sed 0 c.bounds.items) 7 = cls
  rw [firstBound_eq (c.bounds.size.symm ▸ hc) hbelow hat]
  omega

/-! ## The end of a log (R123 to R126, R128, R145) -/

section
variable {s : State} {r : LogRecord} {fault : Option LogFault} {m : LogMeasures} {reject : Option RejectReason} {q : Run}

/-- What the end of a log leaves: its entry in the log-current run, its place in the log queue or LOG_UNTRACKED pending, its
report where there is room, and no other change. -/
structure State.LogEnded (s t : State) (r : LogRecord) (fault : Option LogFault) (m : LogMeasures) (reject : Option RejectReason)
    (q : Run) : Prop where
  lane : { t.lane with state := s.lane.state, queue := s.lane.queue } = s.lane
  rest : { t with lane := s.lane, runs := { t.runs with records := s.runs.records }, ctl := s.ctl, field := s.field } = s
  records : t.runs.records = s.runs.records.map fun r' => if r'.seq = q.seq then r'.countAll (logEntry fault m reject) else r'
  queued : s.lane.queue.length < 8 →
    t.lane.queue = s.lane.queue ++ [{ number := r.number, rejected := reject.isSome, entry := s.tables.logClasses.kicker,
                                      countdown := s.tables.logClasses.kicker }]
  untracked : 8 ≤ s.lane.queue.length → t.lane.queue = s.lane.queue ∧ t.isPending .logUntracked = true
  reported : s.ctl.reports.length ≤ 61 →
    ∃ f ∈ t.ctl.reports, f.kind = 0xE2
      ∧ f.payload = logPayload q.seq r fault m reject (decide (8 ≤ s.lane.queue.length))

theorem changeRun_eq_map (seq : Nat) (f : Run → Run) (records : List Run) :
    changeRun seq f records = records.map fun r => if r.seq = seq then f r else r :=
  List.map_congr_left fun _ _ => if_congr beq_iff_eq rfl rfl

theorem State.endLog_ended (h : s.runsKept) (hq : q ∈ s.runs.records) (hc : q.state.logCurrent = true)
    (hm : m = r.measures s.tables.logClasses)
    (hr : reject = judgeLog (s.tables.products.get q.product) fault r.slices m) :
    s.LogEnded (s.endLog r fault) r fault m reject q := by
  have hrun := State.logRun_of_mem h hq hc
  have hseq : s.logSeq = q.seq := by rw [State.logSeq, hrun]; rfl
  have hprod : s.logProduct = s.tables.products.get q.product := by rw [State.logProduct, hrun]; rfl
  obtain ⟨hk1, hk2, hk3⟩ := s.enter_keeps q.seq (logEntry fault m reject)
  have hrecords : (s.enter q.seq (logEntry fault m reject)).runs.records =
      s.runs.records.map fun r' => if r'.seq = q.seq then r'.countAll (logEntry fault m reject) else r' := by
    rw [hk3]
    exact changeRun_eq_map q.seq _ s.runs.records
  unfold State.endLog
  dsimp only
  rw [hseq, hprod, ← hm, ← hr]
  generalize hu : s.enter q.seq (logEntry fault m reject) = u at *
  have hulane : u.lane = s.lane := by rw [← hu, State.enter_lane]
  have hroom : s.ctl.reports.length ≤ 61 → u.ctl.reports.length ≤ 62 := fun hle => by
    have := State.enter_reports_le (s := s) (Nat.lt_of_le_of_lt hle (by decide)) q.seq (logEntry fault m reject)
    rw [hu] at this
    omega
  by_cases hlen : s.lane.queue.length < 8
  · rw [if_pos (show s.lane.queue.length < Config.logPlaces from hlen)]
    refine { lane := ?_, rest := ?_, records := hrecords, queued := fun _ => ?_, untracked := fun hge => absurd hlen (Nat.not_lt.mpr hge),
             reported := fun hle => ?_ }
    · exact (congrArg (fun l : LogLane => { l with state := s.lane.state, queue := s.lane.queue }) hulane).trans rfl
    · have hruns : { u.runs with records := s.runs.records } = s.runs := congrArg (fun x : RunTable =>
        { x with records := s.runs.records }) hk3
      refine Eq.trans ?_ hk1
      exact congrArg (fun x => { u with lane := x.1, runs := x.2, ctl := s.ctl, field := s.field })
        (show (s.lane, { u.runs with records := s.runs.records }) = (u.lane, s.runs) by rw [hulane, hruns])
    · exact congrArg (fun l : LogLane => l.queue ++ _) hulane
    · rw [decide_eq_false (Nat.not_le.mpr hlen)]
      exact State.report_waits (s := u.setLane _) (Nat.lt_of_le_of_lt (hroom hle) (by decide)) _ _
  · rw [if_neg (show ¬ s.lane.queue.length < Config.logPlaces from hlen)]
    have hge := Nat.not_lt.mp hlen
    obtain ⟨hr1, -⟩ := u.raise_keeps .logUntracked
    refine { lane := ?_, rest := ?_, records := ?_, queued := fun hlt => absurd hlt hlen,
             untracked := fun _ => ⟨?_, (State.LevelFrame.report _ _ _).pending _ (u.raise_isPending _).1⟩,
             reported := fun hle => ?_ }
    · rw [State.report_lane, State.raise_lane, hulane]
    · have hruns : { u.runs with records := s.runs.records } = s.runs := congrArg (fun x : RunTable =>
        { x with records := s.runs.records }) hk3
      refine (congrArg (fun v : State => { v with
        lane := s.lane, runs := { v.runs with records := s.runs.records }, ctl := s.ctl, field := s.field }) hr1).trans ?_
      refine Eq.trans ?_ hk1
      exact congrArg (fun x => { u with lane := x.1, runs := x.2, ctl := s.ctl, field := s.field })
        (show (s.lane, { u.runs with records := s.runs.records }) = (u.lane, s.runs) by rw [hulane, hruns])
    · rw [State.report_runs, State.raise_runs, hrecords]
    · rw [State.report_lane, State.raise_lane, hulane]
    · rw [decide_eq_true hge]
      refine State.report_waits (Nat.lt_of_le_of_lt (State.raise_reports_le (Nat.lt_of_le_of_lt (hroom hle) (by decide)) _) ?_) _ _
      have := hroom hle
      omega

/-- The runs after the end of a log: the others as they were, the log-current one with the entry counted. -/
theorem State.LogEnded.runs {t : State} (h : s.LogEnded t r fault m reject q) (hk : s.runsKept) (hq : q ∈ s.runs.records) :
    (∀ r' ∈ s.runs.records, r'.seq ≠ q.seq → r' ∈ t.runs.records)
      ∧ ∃ q' ∈ t.runs.records, q'.seq = q.seq
          ∧ ∀ c : Counter, q'.tally.get c = min (q.tally.get c + gain (logEntry fault m reject) c) Config.tallyMax := by
  obtain ⟨-, hcount, -⟩ := hk
  obtain ⟨-, -, hkept⟩ := hcount q hq
  rw [h.records]
  refine ⟨fun r' hr' hne => List.mem_map.mpr ⟨r', hr', if_neg hne⟩, _, List.mem_map.mpr ⟨q, hq, if_pos rfl⟩,
    (q.countAll_keeps _).1, fun c => Run.get_countAll (hkept c).1 _⟩

/-- A log that ended with a fault, and the Lane's state then set. -/
theorem State.logFaulted_of_endLog (h : s.runsKept) (hq : q ∈ s.runs.records) (hc : q.state.logCurrent = true) (r : LogRecord)
    (f : LogFault) (p : List Byte) (after : LaneState) :
    (((s.received .log p).endLog r (some f)).setLaneState after).lane.state = after
      ∧ s.logFaulted (((s.received .log p).endLog r (some f)).setLaneState after) r f.code q := by
  have he := State.endLog_ended (s := s.received .log p) (r := r) (fault := some f) h hq hc rfl rfl
  obtain ⟨hother, q', hq', hseq, hget⟩ := he.runs h hq
  obtain ⟨-, hcount, -⟩ := h
  obtain ⟨-, -, hkept⟩ := hcount q hq
  generalize (s.received .log p).endLog r (some f) = t at *
  refine ⟨rfl, ?_⟩
  have hreject : judgeLog ((s.received .log p).tables.products.get q.product) (some f) r.slices
      (r.measures (s.received .log p).tables.logClasses) =
        if (s.tables.products.get q.product).kickOnFault then some .fault else none := rfl
  unfold State.logFaulted
  intro kick
  have hkick : (if kick = true then some RejectReason.fault else none).isSome = kick := by cases kick <;> rfl
  refine ⟨he.lane, congrArg (fun u : State => { u with links := s.links }) he.rest, hother, fun hlt => ?_, he.untracked,
    ⟨q', hq', hseq, fun c => ?_⟩, fun hle => ?_⟩
  · refine (he.queued hlt).trans ?_
    rw [hreject, hkick]
    rfl
  · rw [hget c, hreject]
    have hmax := (hkept c).1
    have hgain : ∀ b : Bool, gain (logEntry (some f) (r.measures (s.received .log p).tables.logClasses)
        (if b = true then some RejectReason.fault else none)) c =
          if c = .logsMeasured ∨ c = .faulted ∨ c = (if b then .rejected .fault else .accepted) then 1 else 0 := by
      intro b
      cases b <;> simp only [logEntry, gain_cons, gain_nil, if_true, Bool.false_eq_true, if_false, List.cons_append,
        List.nil_append, eq_comm (b := c)] <;> cases c <;> simp
    have hmin : ∀ (P : Prop) [Decidable P], min (q.tally.get c + if P then 1 else 0) Config.tallyMax =
        if P then min (q.tally.get c + 1) Config.tallyMax else q.tally.get c := fun P _ => by
      split
      · rfl
      · exact Nat.min_eq_left hmax
    rw [hgain]
    exact hmin _
  · obtain ⟨g, hg, hkind, hpay⟩ := he.reported hle
    refine ⟨g, hg, hkind, hpay.trans ?_⟩
    rw [hreject]
    change logPayload _ _ _ _ (if kick = true then _ else _) _ = _
    unfold logPayload
    cases kick <;> rfl

end

/-! ## The frames of the Lane (R118 to R122) -/

section
variable {s : State} {p : List Byte}

/-- A frame of the right length outside STARTING is taken. -/
theorem State.logFrame_taken {α : Type} {read : Option α} {a : α} (hs : s.tracker.line ≠ .starting) (hr : read = some a)
    (take : State → α → State) : s.logFrame read take = take s a := by
  unfold State.logFrame
  rw [if_neg (mt beq_iff_eq.mp hs), hr]

theorem State.logFrame_starting {α : Type} (hs : s.tracker.line = .starting) (read : Option α) (take : State → α → State) :
    s.logFrame read take = s := by
  unfold State.logFrame
  rw [if_pos (beq_iff_eq.mpr hs)]

theorem exec_logStart (hs : s.tracker.line ≠ .starting) (hi lo : Byte) :
    exec (.logStart [hi, lo]) s = .next ((s.received .log [hi, lo]).takeLogStart (word hi lo)) := by
  rw [exec_eq_after, State.after_logStart]
  exact congrArg _ (State.logFrame_taken (s := s.received .log [hi, lo]) hs rfl _)

theorem exec_slice (hs : s.tracker.line ≠ .starting) (i1 i0 a1 a0 b1 b0 : Byte) :
    exec (.slice [i1, i0, a1, a0, b1, b0]) s =
      .next ((s.received .log [i1, i0, a1, a0, b1, b0]).takeSlice
        { index := word i1 i0, d1 := min 2000 (word a1 a0), d2 := min 2000 (word b1 b0) }) := by
  rw [exec_eq_after, State.after_slice]
  exact congrArg _ (State.logFrame_taken (s := s.received .log [i1, i0, a1, a0, b1, b0]) hs rfl _)

theorem exec_logEnd (hs : s.tracker.line ≠ .starting) (hi lo : Byte) :
    exec (.logEnd [hi, lo]) s = .next ((s.received .log [hi, lo]).takeLogEnd (word hi lo)) := by
  rw [exec_eq_after, State.after_logEnd]
  exact congrArg _ (State.logFrame_taken (s := s.received .log [hi, lo]) hs rfl _)

theorem State.takeLogStart_open {r : LogRecord} (h : s.lane.state = .open r) (n : Nat) :
    s.takeLogStart n = (s.endLog r (some .restarted)).setLaneState (.open (LogRecord.opened (some n))) := by
  unfold State.takeLogStart
  rw [h]

theorem State.takeLogStart_fresh (h : ∀ r, s.lane.state ≠ .open r) (n : Nat) :
    s.takeLogStart n = s.setLaneState (.open (LogRecord.opened (some n))) := by
  unfold State.takeLogStart
  split
  · next r hr => exact absurd hr (h r)
  · rfl

theorem State.takeSlice_open {r : LogRecord} (h : s.lane.state = .open r) (x : SliceData) :
    s.takeSlice x =
      if sliceLimit ≤ r.slices then (s.endLog r (some .tooLong)).setLaneState .skipping
      else if x.index = r.slices + 1 then s.setLaneState (.open (r.take x.d1 x.d2))
      else (s.endLog r (some .indexGap)).setLaneState .skipping := by
  unfold State.takeSlice
  rw [h]

theorem State.takeSlice_idle (h : s.lane.state = .idle) (x : SliceData) :
    s.takeSlice x = (s.endLog (LogRecord.opened none) (some .noStart)).setLaneState .skipping := by
  unfold State.takeSlice
  rw [h]

theorem State.takeSlice_skipping (h : s.lane.state = .skipping) (x : SliceData) : s.takeSlice x = s.discardLog := by
  unfold State.takeSlice
  rw [h]

theorem State.takeLogEnd_open {r : LogRecord} (h : s.lane.state = .open r) (n : Nat) :
    s.takeLogEnd n = (s.endLog r (endFault n r.slices)).setLaneState .idle := by
  unfold State.takeLogEnd
  rw [h]

theorem State.takeLogEnd_skipping (h : s.lane.state = .skipping) (n : Nat) : s.takeLogEnd n = s.setLaneState .idle := by
  unfold State.takeLogEnd
  rw [h]

theorem State.takeLogEnd_idle (h : s.lane.state = .idle) (n : Nat) : s.takeLogEnd n = s.discardLog := by
  unfold State.takeLogEnd
  rw [h]

/-- What a log without fault adds to each counter of its run (R145). -/
theorem logEntry_none_gain (m : LogMeasures) (reject : Option RejectReason) :
    gain (logEntry none m reject) .logsMeasured = 1
      ∧ (reject = none →
          gain (logEntry none m reject) .accepted = 1 ∧ gain (logEntry none m reject) .acceptedVolume = m.volume)
      ∧ (∀ why, reject = some why →
          gain (logEntry none m reject) (.rejected why) = 1 ∧ gain (logEntry none m reject) .acceptedVolume = 0)
      ∧ gain (logEntry none m reject) .faulted = 0
      ∧ ∀ k : Fin 8, gain (logEntry none m reject) (.logClass k) = if k = m.cls then 1 else 0 := by
  cases reject with
  | none => simp [logEntry, eq_comm]
  | some why => simp [logEntry, eq_comm]

end

/-- Settles O43: a log frame outside STARTING is taken by the Lane's state, and every log ends alike. -/
theorem logsMeasuredAndJudged : Obligations.LogsMeasuredAndJudged := by
  refine ⟨fun p s hs i hi => ?_, fun hi lo s hs hn => ?_, fun i1 i0 a1 a0 b1 b0 r s hs ho hlt hx => ?_, ?_, ?_, fun s hs => ⟨?_, ?_⟩⟩
  · simp only [List.mem_cons, List.not_mem_nil, or_false] at hi
    rcases hi with rfl | rfl | rfl
    · rw [exec_eq_after, State.after_logStart, State.logFrame_starting (s := s.received .log p) hs]
    · rw [exec_eq_after, State.after_slice, State.logFrame_starting (s := s.received .log p) hs]
    · rw [exec_eq_after, State.after_logEnd, State.logFrame_starting (s := s.received .log p) hs]
  · rw [exec_logStart hs, State.takeLogStart_fresh (s := s.received .log [hi, lo]) hn]
    rfl
  · intro d1 d2
    rw [exec_slice hs, State.takeSlice_open (s := s.received .log [i1, i0, a1, a0, b1, b0]) ho,
      if_neg (show ¬ sliceLimit ≤ r.slices from Nat.not_le.mpr hlt), if_pos hx]
    rfl
  · intro hi lo r first last q cls s hinv hs ho hcount h5 h200 hf hl hq hcur hcls hbelow hat p reject
    have hsed : min (r.firstMean.getD 0) (r.lastMean.getD 0) = min first last := by rw [hf, hl]; rfl
    have hclass : (r.measures s.tables.logClasses).cls.val = cls := by
      refine Eq.trans (congrArg (fun d => (logClass s.tables.logClasses d).val) hsed) (logClass_eq hcls hbelow hat)
    have hmsed : (r.measures s.tables.logClasses).sed = min first last := hsed
    have hreject : reject = judgeLog (s.tables.products.get q.product) none r.slices (r.measures s.tables.logClasses) := by
      show _ = if (r.measures s.tables.logClasses).sed < _ ∨ _ < (r.measures s.tables.logClasses).sed then _ else _
      rw [hmsed]
    have he := State.endLog_ended (s := s.received .log [hi, lo]) (r := r) (fault := none) hinv.runs hq hcur rfl hreject
    obtain ⟨hother, q', hq', hseq, hget⟩ := he.runs hinv.runs hq
    obtain ⟨-, hruns, -⟩ := hinv.runs
    obtain ⟨-, -, hkept⟩ := hruns q hq
    have hexec : exec (.logEnd [hi, lo]) s =
        .next (((s.received .log [hi, lo]).endLog r none).setLaneState .idle) := by
      rw [exec_logEnd hs, State.takeLogEnd_open (s := s.received .log [hi, lo]) ho, endFault, if_neg (not_not.mpr hcount),
        if_neg (Nat.not_lt.mpr h5)]
    generalize (s.received .log [hi, lo]).endLog r none = t at *
    obtain ⟨g1, g2, g3, g4, g5⟩ := logEntry_none_gain (r.measures s.tables.logClasses) reject
    have hkeep : ∀ c : Counter, min (q.tally.get c + 0) Config.tallyMax = q.tally.get c := fun c => Nat.min_eq_left (hkept c).1
    refine ⟨_, hexec, rfl, he.lane, congrArg (fun u : State => { u with links := s.links }) he.rest, hother, he.queued,
      he.untracked, ⟨q', hq', hseq, ?_, fun hn => ⟨?_, ?_⟩, fun why hw => ⟨?_, ?_⟩, ?_, fun k => ?_⟩, fun hle => ?_⟩
    · exact (hget .logsMeasured).trans (congrArg (fun n => min (q.tally.logsMeasured + n) _) g1)
    · exact (hget .accepted).trans (congrArg (fun n => min (q.tally.accepted + n) _) (g2 hn).1)
    · exact (hget .acceptedVolume).trans (congrArg (fun n => min (q.tally.acceptedVolume + n) _) (g2 hn).2)
    · exact (hget (.rejected why)).trans (congrArg (fun n => min (q.tally.get (.rejected why) + n) _) (g3 why hw).1)
    · exact ((hget .acceptedVolume).trans (congrArg (fun n => min (q.tally.acceptedVolume + n) _) (g3 why hw).2)).trans
        (hkeep .acceptedVolume)
    · exact ((hget .faulted).trans (congrArg (fun n => min (q.tally.faulted + n) _) g4)).trans (hkeep .faulted)
    · refine (hget (.logClass k)).trans ((congrArg (fun n => min (q.tally.classes.get k + n) _) (g5 k)).trans ?_)
      have hk : k = (r.measures s.tables.logClasses).cls ↔ k.val = cls := by rw [Fin.ext_iff, hclass]
      by_cases hc : k.val = cls
      · rw [if_pos (hk.mpr hc), if_pos hc]
      · rw [if_neg (mt hk.mp hc), if_neg hc]
        exact hkeep (.logClass k)
    · obtain ⟨f, hf', hkind, hpay⟩ := he.reported hle
      refine ⟨f, hf', hkind, hpay.trans ?_⟩
      unfold logPayload
      dsimp only
      rw [show (r.measures (s.received .log [hi, lo]).tables.logClasses).sed = min first last from hmsed,
        show (r.measures (s.received .log [hi, lo]).tables.logClasses).cls.val = cls from hclass]
      generalize reject = why
      rcases why with _ | _ | _ | _ <;> simp [LogRecord.measures, RejectReason.code] <;> rfl
  · intro r q s hinv hs hq hcur fresh faults
    have hfault := fun r f p after => State.logFaulted_of_endLog hinv.runs hq hcur r f p after
    refine ⟨fun hi lo ho => ⟨_, ?_, hfault r .restarted [hi, lo] _⟩, fun i1 i0 a1 a0 b1 b0 => ?_, fun hi lo => ⟨fun ho hne => ?_,
      fun ho he hlt => ?_⟩⟩
    · rw [exec_logStart hs, State.takeLogStart_open (s := s.received .log [hi, lo]) ho]
      rfl
    · intro slice
      refine ⟨fun ho => ⟨_, ?_, hfault fresh .noStart [i1, i0, a1, a0, b1, b0] _⟩, fun ho hlt hne =>
        ⟨_, ?_, hfault r .indexGap [i1, i0, a1, a0, b1, b0] _⟩, fun ho hge => ⟨_, ?_, hfault r .tooLong [i1, i0, a1, a0, b1, b0] _⟩⟩
      · exact (exec_slice hs i1 i0 a1 a0 b1 b0).trans
          (congrArg _ (State.takeSlice_idle (s := s.received .log [i1, i0, a1, a0, b1, b0]) ho _))
      · refine (exec_slice hs i1 i0 a1 a0 b1 b0).trans
          (congrArg _ ((State.takeSlice_open (s := s.received .log [i1, i0, a1, a0, b1, b0]) ho _).trans ?_))
        rw [if_neg (show ¬ sliceLimit ≤ r.slices from Nat.not_le.mpr hlt), if_neg hne]
      · refine (exec_slice hs i1 i0 a1 a0 b1 b0).trans
          (congrArg _ ((State.takeSlice_open (s := s.received .log [i1, i0, a1, a0, b1, b0]) ho _).trans ?_))
        exact if_pos hge
    · refine ⟨_, ?_, hfault r .countMismatch [hi, lo] _⟩
      rw [exec_logEnd hs, State.takeLogEnd_open (s := s.received .log [hi, lo]) ho, endFault, if_pos hne]
    · refine ⟨_, ?_, hfault r .tooShort [hi, lo] _⟩
      rw [exec_logEnd hs, State.takeLogEnd_open (s := s.received .log [hi, lo]) ho, endFault, if_neg (not_not.mpr he), if_pos hlt]
  · intro i1 i0 a1 a0 b1 b0 hsk
    rw [exec_slice hs, State.takeSlice_skipping (s := s.received .log [i1, i0, a1, a0, b1, b0]) hsk]
    rfl
  · refine fun hi lo => ⟨fun hsk => ?_, fun hid => ?_⟩
    · rw [exec_logEnd hs, State.takeLogEnd_skipping (s := s.received .log [hi, lo]) hsk]
      rfl
    · rw [exec_logEnd hs, State.takeLogEnd_idle (s := s.received .log [hi, lo]) hid]
      rfl

end Sys2Proof.Machine


/-! PROOF. The exchange with a saw module (R103, R105 to R112; O38, and O39 but for the arrival at TR): what an answer awaited
leaves, what a module's result begins, and each answer and timeout. -/

namespace Sys2Proof.Machine

-- One proof after the other: together they would ask for more threads than the check has memory for.
set_option Elab.async false

/-! ## Bits of the settings byte (R103) -/

theorem testBit_packBits (l : List Bool) (i : Nat) : (packBits l).testBit i = l.getD i false := by
  induction l generalizing i with
  | nil => exact Nat.zero_testBit i
  | cons b bs ih =>
    cases i with
    | zero => cases b <;> simp [packBits, Nat.testBit_zero]
    | succ i =>
      have hdiv : (packBits (b :: bs)) / 2 = packBits bs := by
        rw [packBits]
        split <;> omega
      rw [Nat.testBit_succ, hdiv]
      exact ih i

theorem moduleSettings_getLsbD (pattern : List Bool) (m : Fin 2) {p : Nat} (hp : p < 8) :
    (moduleSettings pattern m).getLsbD p = pattern.getD (8 * m.val + p) false := by
  rw [moduleSettings, u8, BitVec.getLsbD_ofNat, decide_eq_true hp, Bool.true_and, testBit_packBits]
  simp only [List.getD_eq_getElem?_getD]
  rw [List.getElem?_take_of_lt hp, List.getElem?_drop]

/-! ## Answers awaited -/

section
variable {s u : State} {ex : Exchange} {left : Nat} {accepts : Phase → Bool}

theorem address_u8 (m : Fin 2) : (u8 (m.val + 1)).toNat = address m := toNat_u8 (by have := m.isLt; omega)

/-- An answer from the address of the module being handled is the one awaited. -/
theorem SawBus.awaits_of {b : SawBus} (he : b.exchange = some ex) (hw : b.wait = some left) (ha : accepts ex.phase = true) :
    b.awaits (u8 (ex.module.val + 1)).toNat accepts = some ex := by
  unfold SawBus.awaits
  rw [he, hw, address_u8]
  simp [ha]

theorem SawBus.readAddress_awaits {b : SawBus} (he : b.exchange = some ex) (hw : b.wait = some left)
    (ha : accepts ex.phase = true) :
    ((readAddress [u8 (ex.module.val + 1)]).bind fun a => b.awaits a accepts) = some ex :=
  SawBus.awaits_of he hw ha

theorem Phase.isWrite_of {p : Phase} (h : ∃ r, p = .writePattern r) : p.isWrite = true := by
  obtain ⟨r, rfl⟩ := h
  rfl

theorem Phase.isRead_or_isWrite {p : Phase} (h : p = .readState ∨ ∃ r, p = .writePattern r) :
    (p.isRead || p.isWrite) = true := by
  rcases h with rfl | ⟨r, rfl⟩ <;> rfl

/-! ## Commit records in the ring -/

/-- The commit record of one piece changed. -/
theorem State.changeSlot_setCommit (h : s.ringKept) {tag : Nat} {x : Slot} {c : CommitRecord} (hx : s.slot? tag = some x)
    (hc : x.commit = some c) (f : CommitRecord → CommitRecord) :
    changeSlot tag (·.setCommit f) s.tracker.ring = s.ringWithCommit tag (f c) := by
  obtain ⟨hm, ht⟩ := State.slot?_some hx
  rw [changeSlot_eq_map]
  refine List.map_congr_left fun y hy => ?_
  by_cases hy' : y.tag = tag
  · obtain rfl := h.eq_of_tag hy hm (hy'.trans ht.symm)
    rw [if_pos hy', if_pos hy', Slot.setCommit, hc]
    rfl
  · rw [if_neg hy', if_neg hy']

/-! ## READ STATE and the next module (R106, R109) -/

/-- READ STATE of an exchange, where no wait runs. -/
theorem State.sendRead_sent (hw : s.saw.wait = none) (ex : Exchange) :
    s.sendRead ex =
      { s with
        saw := { s.saw with
          exchange := some { ex with phase := .readState }, wait := some (2 * ex.timeout),
          sent := some (busWire 0x61 [u8 (ex.module.val + 1)]) }
        links := s.links.modify 9 (·.takeSent (busWire 0x61 [u8 (ex.module.val + 1)])) } := by
  unfold State.sendRead
  rw [hw]
  rfl

theorem State.beginModule_past {i : Nat} (h : s.tables.sawBus.modules ≤ i) (tag timeout : Nat) :
    s.beginModule tag timeout i = s.setSaw fun b => { b with exchange := none } := by
  unfold State.beginModule
  split
  · next m hm =>
    unfold place? at hm
    split at hm
    · cases hm
      rw [if_neg (Nat.not_lt.mpr h)]
    · cases hm
  · rfl

theorem State.beginModule_begun (hw : s.saw.wait = none) {m : Fin 2} (h : m.val < s.tables.sawBus.modules)
    (tag timeout : Nat) :
    s.beginModule tag timeout m.val =
      { s with
        saw := { s.saw with
          exchange := some (s.saw.begun tag m timeout .readState), wait := some (2 * timeout),
          sent := some (busWire 0x61 [u8 (m.val + 1)]) }
        links := s.links.modify 9 (·.takeSent (busWire 0x61 [u8 (m.val + 1)])) } := by
  unfold State.beginModule
  rw [place?_val]
  dsimp only
  rw [if_pos h, State.sendRead_sent hw]
  rfl

/-- The module after a result, whichever it is: begun or not, only the bus and its receiver change. -/
theorem State.beginModule_links (tag timeout i : Nat) {l : Fin 11} (hl : l ≠ 9) :
    (s.beginModule tag timeout i).links.get l = s.links.get l := by
  unfold State.beginModule
  split
  · split
    · unfold State.sendRead
      split
      · rfl
      · exact (Bank.get_modify _ _ _ _).trans (if_neg hl)
    · rfl
  · rfl

/-! ## A module's result (R106) -/

/-- A module's result for its piece: the ring with it, the next module begun or the exchange ended, and nothing else changed. -/
theorem State.moduleDone_ended (hw : u.saw.wait = none) (hsent : u.saw.sent = s.saw.sent)
    (hdisc : u.saw.discarded = s.saw.discarded) (ht : u.tables = s.tables)
    (hone : ex.module = 0 → u.saw.modules.get 1 = s.saw.modules.get 1) {r : ModuleResult} {d : CommitRecord}
    (hring : changeSlot ex.tag (·.setCommit fun c => { c with results := c.results.set ex.module r }) u.tracker.ring =
      s.ringWithCommit ex.tag d) :
    s.moduleEnded (u.moduleDone ex r) ex d := by
  have hw' : (u.setResult ex.tag ex.module r).saw.wait = none := hw
  have ht' : (u.setResult ex.tag ex.module r).tables = s.tables := ht
  unfold State.moduleDone
  refine ⟨?_, fun hle => ?_, fun h0 h2 => ?_, ?_⟩
  · rw [State.beginModule_tracker]
    exact hring
  · rw [State.beginModule_past (by rw [ht']; exact hle)]
    exact Prod.ext rfl (Prod.ext hw hsent)
  · have hsucc : ex.module.val + 1 = (1 : Fin 2).val := by rw [h0]; rfl
    have hb := State.beginModule_begun (m := 1) hw' (by rw [ht', h2]; decide) ex.tag ex.timeout
    rw [hsucc, hb]
    refine ⟨?_, rfl, rfl⟩
    show some (SawBus.begun u.saw ex.tag 1 ex.timeout .readState) = _
    rw [SawBus.begun, hone h0]
    rfl
  · exact (State.beginModule_discarded _ _ _ _).trans hdisc

theorem State.moduleDone_keeps (ex : Exchange) (r : ModuleResult) :
    { u.moduleDone ex r with
        tracker := { (u.moduleDone ex r).tracker with ring := u.tracker.ring }, saw := u.saw, links := u.links } = u
      ∧ (u.moduleDone ex r).saw.modules = u.saw.modules
      ∧ ∀ l : Fin 11, l ≠ 9 → (u.moduleDone ex r).links.get l = u.links.get l := by
  unfold State.moduleDone
  obtain ⟨hk, -, -⟩ := (u.setResult ex.tag ex.module r).beginModule_keeps ex.tag ex.timeout (ex.module.val + 1)
  refine ⟨?_, State.beginModule_modules _ _ _ _, fun l hl => State.beginModule_links _ _ _ hl⟩
  exact congrArg (fun v : State =>
    { v with tracker := { v.tracker with ring := u.tracker.ring }, saw := u.saw, links := u.links }) hk

/-- An awaited answer, or the end of its wait, as it stands at the module: the wait is over, and beside the module being handled
only the bus's receiver, causes, reports and outputs can have changed. -/
structure State.Answered (s u : State) (ex : Exchange) : Prop where
  wait : u.saw.wait = none
  bus : { u.saw with modules := s.saw.modules, wait := s.saw.wait } = s.saw
  other : ∀ m, m ≠ ex.module → u.saw.modules.get m = s.saw.modules.get m
  links : ∀ l : Fin 11, l ≠ 9 → u.links.get l = s.links.get l
  rest : { u with saw := s.saw, ctl := s.ctl, field := s.field, links := s.links } = s

theorem Bank.modify_other {n : Nat} {α : Type} {b : Bank n α} {i j : Fin n} (h : j ≠ i) (f : α → α) :
    (b.modify i f).get j = b.get j := (Bank.get_modify b i j f).trans (if_neg h)

theorem Bank.modify_modify {n : Nat} {α : Type} (b : Bank n α) (i : Fin n) (f g : α → α) :
    (b.modify i f).modify i g = b.set i (g (f (b.get i))) := by
  unfold Bank.modify
  rw [Bank.set_set, Bank.get_set, if_pos rfl]

theorem State.Answered.setModule (f : Module → Module) : s.Answered (s.endWait.setModule ex.module f) ex where
  wait := rfl
  bus := rfl
  other _ hm := Bank.modify_other hm f
  links _ _ := rfl
  rest := rfl

/-- The same for an answer: the frame received first. -/
theorem State.Answered.received (p : List Byte) (h : (s.received .sawBus p).Answered u ex) : s.Answered u ex where
  wait := h.wait
  bus := h.bus
  other := h.other
  links l hl := (h.links l hl).trans (Bank.modify_other hl _)
  rest := congrArg (fun v : State => { v with links := s.links }) h.rest

theorem State.Answered.raise (h : s.Answered u ex) (x : Cause) : s.Answered (u.raise x) ex where
  wait := by rw [State.raise_saw]; exact h.wait
  bus := by rw [State.raise_saw]; exact h.bus
  other m hm := by rw [State.raise_saw]; exact h.other m hm
  links l hl := by rw [State.raise_links]; exact h.links l hl
  rest := (congrArg (fun v : State => { v with saw := s.saw, ctl := s.ctl, field := s.field, links := s.links })
    (u.raise_keeps x).1).trans h.rest

theorem State.Answered.setModuleAgain (h : s.Answered u ex) (f : Module → Module) : s.Answered (u.setModule ex.module f) ex where
  wait := h.wait
  bus := h.bus
  other m hm := (Bank.modify_other hm f).trans (h.other m hm)
  links := h.links
  rest := h.rest

theorem State.Answered.tracker (h : s.Answered u ex) : u.tracker = s.tracker := (congrArg State.tracker h.rest :)

theorem State.Answered.tables (h : s.Answered u ex) : u.tables = s.tables := (congrArg State.tables h.rest :)

theorem State.Answered.sent (h : s.Answered u ex) : u.saw.sent = s.saw.sent ∧ u.saw.discarded = s.saw.discarded :=
  ⟨(congrArg SawBus.sent h.bus :), (congrArg SawBus.discarded h.bus :)⟩

/-- The module's result after an answer: it goes into the commit record, and the next module is begun. -/
theorem State.Answered.done (h : s.Answered u ex) {r : ModuleResult} (hk : s.ringKept) {x : Slot} {c : CommitRecord}
    (hx : s.slot? ex.tag = some x) (hc : x.commit = some c) :
    (s.moduleEnded (u.moduleDone ex r) ex { c with results := c.results.set ex.module r }
        ∧ ∀ l : Fin 11, l ≠ 9 → (u.moduleDone ex r).links.get l = s.links.get l)
      ∧ (u.moduleDone ex r).saw.modules = u.saw.modules := by
  obtain ⟨-, hm, hl⟩ := State.moduleDone_keeps (u := u) ex r
  refine ⟨⟨State.moduleDone_ended h.wait h.sent.1 h.sent.2 h.tables (fun h0 => h.other 1 (by rw [h0]; decide)) ?_, fun l hne => (hl l hne).trans (h.links l hne)⟩, hm⟩
  rw [h.tracker]
  exact State.changeSlot_setCommit hk hx hc _

theorem State.moduleDone_rest (h : { u with saw := s.saw, links := s.links } = s) (ex : Exchange) (r : ModuleResult) :
    { u.moduleDone ex r with
      tracker := { (u.moduleDone ex r).tracker with ring := s.tracker.ring }, saw := s.saw, links := s.links } = s :=
  (congrArg (fun v : State => { v with tracker := { v.tracker with ring := s.tracker.ring }, saw := s.saw, links := s.links })
    (State.moduleDone_keeps (u := u) ex r).1).trans
    (congrArg (fun v : State => { v with tracker := { v.tracker with ring := s.tracker.ring } }) h)

theorem State.Answered.moduleDone_rest (h : s.Answered u ex) (r : ModuleResult) :
    { u.moduleDone ex r with
      tracker := { (u.moduleDone ex r).tracker with ring := s.tracker.ring }, saw := s.saw, ctl := s.ctl, field := s.field,
      links := s.links } = s :=
  (congrArg (fun v : State =>
    { v with
      tracker := { v.tracker with ring := s.tracker.ring }, saw := s.saw, ctl := s.ctl, field := s.field, links := s.links })
    (State.moduleDone_keeps (u := u) ex r).1).trans
    (congrArg (fun v : State => { v with tracker := { v.tracker with ring := s.tracker.ring } }) h.rest)

/-- The result and the next module touch no cause. -/
theorem State.moduleDone_isPending (ex : Exchange) (r : ModuleResult) (x : Cause) :
    (u.moduleDone ex r).isPending x = u.isPending x := by
  unfold State.isPending State.moduleDone
  rw [State.beginModule_ctl]
  rfl

end

/-! ## The answers and the timeout (R105, R107 to R109) -/

section
variable {s : State} {ex : Exchange} {left : Nat}

theorem exec_state (he : s.saw.exchange = some ex) (hp : ex.phase = .readState) (hw : s.saw.wait = some left)
    (mask seq down : Byte) :
    exec (.state [u8 (ex.module.val + 1), mask, seq, down]) s =
      .next (((s.received .sawBus [u8 (ex.module.val + 1), mask, seq, down]).endWait.setModule ex.module fun m =>
          { m with lastRead := some { mask := mask, seq := seq, down := down }, online := m.online || ex.probe }).setSaw fun b =>
        { b with
          exchange := some { ex with phase := .writeDue { mask := mask, seq := seq, down := down }, probe := false } }) := by
  have ha : (s.received .sawBus [u8 (ex.module.val + 1), mask, seq, down]).saw.awaits (u8 (ex.module.val + 1)).toNat
      Phase.isRead = some ex := SawBus.awaits_of he hw (by rw [hp]; rfl)
  rw [exec_eq_after, State.after_state, State.takeState]
  simp only [readState, ha]

theorem exec_ack (he : s.saw.exchange = some ex) {r : ModuleReading} (hp : ex.phase = .writePattern r)
    (hw : s.saw.wait = some left) :
    exec (.ack [u8 (ex.module.val + 1)]) s =
      .next (((s.received .sawBus [u8 (ex.module.val + 1)]).endWait.updateSlot ex.tag
        (·.setCommit (·.accept s.geo.saws ex.module r))).moduleDone ex .accepted) := by
  have ha := SawBus.readAddress_awaits (accepts := Phase.isWrite) (b := (s.received .sawBus [u8 (ex.module.val + 1)]).saw)
    he hw (Phase.isWrite_of ⟨r, hp⟩)
  have hr : ex.phase.reading = some r := by rw [hp]; rfl
  rw [exec_eq_after, State.after_ack, State.takeAck]
  simp only [ha, hr]
  rfl

theorem exec_retry (he : s.saw.exchange = some ex) (hp : ∃ r, ex.phase = .writePattern r) (hw : s.saw.wait = some left) :
    exec (.retry [u8 (ex.module.val + 1)]) s =
      .next (((s.received .sawBus [u8 (ex.module.val + 1)]).endWait.setModule ex.module fun m =>
        { m with retries := bump m.retries }).failAttempt ex false) := by
  have ha := SawBus.readAddress_awaits (accepts := Phase.isWrite) (b := (s.received .sawBus [u8 (ex.module.val + 1)]).saw)
    he hw (Phase.isWrite_of hp)
  rw [exec_eq_after, State.after_retry, State.takeRetry]
  simp only [ha]

theorem exec_fault (he : s.saw.exchange = some ex) (hp : ex.phase = .readState ∨ ∃ r, ex.phase = .writePattern r)
    (hw : s.saw.wait = some left) (code : Byte) :
    exec (.fault [u8 (ex.module.val + 1), code]) s =
      .next ((((s.received .sawBus [u8 (ex.module.val + 1), code]).endWait.setModule ex.module fun m =>
        { m with lastFault := some code, faults := bump m.faults, online := m.online || ex.probe }).raise
          .sawFault).moduleDone ex .faulted) := by
  have ha : (s.received .sawBus [u8 (ex.module.val + 1), code]).saw.awaits (u8 (ex.module.val + 1)).toNat
      (fun p => p.isRead || p.isWrite) = some ex := SawBus.awaits_of he hw (Phase.isRead_or_isWrite hp)
  rw [exec_eq_after, State.after_fault, State.takeFault]
  simp only [readFault, ha]

theorem exec_replyTimeout (he : s.saw.exchange = some ex) (hp : ex.phase = .readState ∨ ∃ r, ex.phase = .writePattern r)
    (hw : s.saw.wait = some left) :
    exec .replyTimeout s =
      .next (if ex.probe then
        (s.endWait.setModule ex.module fun m => { m with timeouts := bump m.timeouts }).moduleDone ex .skipped
      else (s.endWait.setModule ex.module fun m => { m with timeouts := bump m.timeouts }).failAttempt ex true) := by
  rw [exec_eq_after, State.after_replyTimeout, State.replyTimeout, hw, he]
  rcases hp with hp | ⟨r, hp⟩ <;> simp only [hp]

theorem State.failAttempt_again (h : ex.attempt < 3) (b : Bool) :
    s.failAttempt ex b =
      s.sendRead { ex with attempt := ex.attempt + 1, onlyTimeouts := ex.onlyTimeouts && b, probe := false } := if_pos h

theorem State.failAttempt_timedOut (h : ex.attempt = 3) (hb : ex.onlyTimeouts = true) :
    s.failAttempt ex true =
      ((s.setModule ex.module fun m => { m with online := false }).raise .moduleOffline).moduleDone ex .timedOut := by
  unfold State.failAttempt
  rw [hb]
  exact if_neg (by omega)

theorem State.failAttempt_unsettled (h : ex.attempt = 3) {b : Bool} (hb : (ex.onlyTimeouts && b) = false) :
    s.failAttempt ex b = s.moduleDone ex .unsettled := by
  unfold State.failAttempt
  dsimp only
  rw [if_neg (show ¬ ex.attempt < 3 by omega), hb]
  rfl

/-- A manual saw that disagrees at or between the kept saws (R111). -/
theorem conflicts_iff (saws : Nat) (c : CommitRecord) (m : Fin 2) (r : ModuleReading) :
    conflicts saws c m r = true ↔
      ∃ k p, c.keep = some k ∧ p < 8 ∧ r.mask.getLsbD p = true ∧ 8 * m.val + p < saws ∧ k.a ≤ 8 * m.val + p
        ∧ 8 * m.val + p ≤ k.b ∧ r.down.getLsbD p ≠ c.pattern.getD (8 * m.val + p) false := by
  unfold conflicts
  cases hk : c.keep with
  | none => simp
  | some k =>
    simp only [List.any_eq_true, List.mem_range, Bool.and_eq_true, Nat.blt_eq, Nat.ble_eq, bne_iff_ne, Option.some.injEq]
    constructor
    · rintro ⟨p, hp, ⟨⟨⟨h1, h2⟩, h3⟩, h4⟩, h5⟩
      exact ⟨k, p, rfl, hp, h1, h2, h3, h4, h5⟩
    · rintro ⟨_, p, rfl, hp, h1, h2, h3, h4, h5⟩
      exact ⟨p, hp, ⟨⟨⟨h1, h2⟩, h3⟩, h4⟩, h5⟩

theorem State.trimmerClear_of (h : ∀ y ∈ s.tracker.ring, s.geo.cm < y.offset → Station.tr ∈ y.passed) :
    s.trimmerClear = true := by
  refine List.all_eq_true.mpr fun y hy => ?_
  by_cases hc : s.geo.cm < y.offset
  · simp [h y hy hc]
  · simp [hc]

end

/-- Settles O38: the answer awaited is taken, the pattern goes out once the trimmer is clear, and an ACK ends the module. -/
theorem exchangeDeliversThePattern : Obligations.ExchangeDeliversThePattern := by
  refine ⟨fun ex left mask seq down s he hp hw => exec_state he hp hw mask seq down, fun ex r x c s he hp hx hc hclear => ?_,
    fun ex r left x c s hi he hp hw hx hc => ?_⟩
  · refine ⟨moduleSettings c.pattern ex.module, fun p => moduleSettings_getLsbD c.pattern ex.module, ?_⟩
    have hpat : s.patternOf ex.tag = c.pattern := by
      unfold State.patternOf
      rw [hx]
      show ((x.commit.map (·.pattern)).getD []) = _
      rw [hc]
      rfl
    rw [exec_eq_after, State.after_writePattern, State.sendPattern, he]
    simp only [hp]
    rw [if_pos (State.trimmerClear_of hclear), hpat]
    rfl
  · have hx' : (s.received .sawBus [u8 (ex.module.val + 1)]).slot? ex.tag = some x := hx
    obtain ⟨hk, hm, hl⟩ := State.moduleDone_keeps
      (u := (s.received .sawBus [u8 (ex.module.val + 1)]).endWait.updateSlot ex.tag
        (·.setCommit (·.accept s.geo.saws ex.module r))) ex .accepted
    refine ⟨_, { c.accept s.geo.saws ex.module r with results := c.results.set ex.module .accepted }, exec_ack he hp hw, rfl,
      rfl, rfl, ?_, ?_, hm, fun l hne => (hl l hne).trans
        (Bank.modify_other hne _), ?_⟩
    · show (c.manualConflict || conflicts s.geo.saws c ex.module r) = true ↔ _
      rw [Bool.or_eq_true, conflicts_iff]
    · refine State.moduleDone_ended (by rfl) (by rfl) (by rfl) (by rfl) (fun _ => by rfl) ?_
      refine (changeSlot_changeSlot ex.tag (f := (·.setCommit (·.accept s.geo.saws ex.module r))) (fun _ => rfl) _).trans ?_
      refine Eq.trans (congrArg (changeSlot ex.tag · s.tracker.ring) (funext fun y => ?_))
        (State.changeSlot_setCommit hi.ring hx hc fun c =>
          { c.accept s.geo.saws ex.module r with results := c.results.set ex.module .accepted })
      show Slot.setCommit (Slot.setCommit y _) _ = _
      unfold Slot.setCommit
      rw [Option.map_map]
      rfl
    · exact congrArg (fun v : State =>
        { v with tracker := { v.tracker with ring := s.tracker.ring }, saw := s.saw, links := s.links }) hk

/-! ## The failures of an exchange (R107 to R109, R112) -/

section
variable {s u : State} {ex : Exchange} {left : Nat}

/-- The next attempt after a failed one. -/
theorem State.Answered.again (h : s.Answered u ex) (ha : ex.attempt < 3) (b : Bool) :
    u.failAttempt ex b =
      { u with
        links := u.links.modify 9 (·.takeSent (busWire 0x61 [u8 (ex.module.val + 1)]))
        saw := { u.saw with
          exchange := some { ex with
            attempt := ex.attempt + 1, phase := .readState, onlyTimeouts := ex.onlyTimeouts && b, probe := false }
          wait := some (2 * ex.timeout)
          sent := some (busWire 0x61 [u8 (ex.module.val + 1)]) } } := by
  rw [State.failAttempt_again ha, State.sendRead_sent h.wait]

end

/-- The end of a wait left over from an abandoned exchange (R112): the second part of O39. -/
theorem leftOverWait_ends {s : State} {left : Nat} (hw : s.saw.wait = some left) :
    (s.saw.exchange = none → exec .replyTimeout s = .next { s with saw := { s.saw with wait := none } })
      ∧ ∀ ex : Exchange, s.saw.exchange = some ex → ex.phase = .readDue →
          exec .replyTimeout s =
            .next
              { s with
                links := s.links.modify 9 (·.takeSent (busWire 0x61 [u8 (ex.module.val + 1)]))
                saw :=
                  { s.saw with
                    exchange := some { ex with phase := .readState }
                    wait := some (2 * ex.timeout)
                    sent := some (busWire 0x61 [u8 (ex.module.val + 1)]) } } := by
  refine ⟨fun he => ?_, fun ex he hp => ?_⟩
  · rw [exec_eq_after, State.after_replyTimeout, State.replyTimeout, hw, he]
    rfl
  · rw [exec_eq_after, State.after_replyTimeout, State.replyTimeout, hw, he]
    simp only [hp]
    rw [State.sendRead_sent (s := s.endWait) rfl]
    rfl

end Sys2Proof.Machine


/-! PROOF. What SUBSCRIBE offers and UNSUBSCRIBE removes (R80, R81; the first parts of O40): PROPOSALs made in turn, each in place
of one for its tag still waiting or else at the tail. -/

namespace Sys2Proof.Machine

-- One proof after the other: together they would ask for more threads than the check has memory for.
set_option Elab.async false

/-! ## One PROPOSAL made -/

/-- A frame of a queue after PROPOSALs were made to its console: one for a tag among them gives way. -/
def ConsoleFrame.offered (offers : List (Nat × Frame)) (g : ConsoleFrame) : ConsoleFrame :=
  match offers.find? fun p => g.isProposalFor p.1 with
  | some p => .proposal p.1 p.2
  | none => g

theorem ConsoleFrame.offered_cons (p : Nat × Frame) (offers : List (Nat × Frame)) (g : ConsoleFrame) :
    g.offered (p :: offers) = if g.isProposalFor p.1 = true then .proposal p.1 p.2 else g.offered offers := by
  unfold ConsoleFrame.offered
  rw [List.find?_cons]
  cases g.isProposalFor p.1 <;> rfl

theorem ConsoleFrame.isProposalFor_proposal (t : Nat) (f : Frame) (tag : Nat) :
    (ConsoleFrame.proposal t f).isProposalFor tag = (t == tag) := rfl

/-- A PROPOSAL for a tag that is not among those made stays. -/
theorem ConsoleFrame.offered_proposal {offers : List (Nat × Frame)} {tag : Nat} (h : tag ∉ offers.map (·.1)) (f : Frame) :
    (ConsoleFrame.proposal tag f).offered offers = .proposal tag f := by
  unfold ConsoleFrame.offered
  rw [List.find?_eq_none.mpr fun p hp => ?_]
  rw [ConsoleFrame.isProposalFor_proposal, beq_iff_eq]
  rintro rfl
  exact h (List.mem_map_of_mem hp)

/-- The frame that a PROPOSAL leaves in the place of a frame that waits. -/
def ConsoleFrame.giveWay (tag : Nat) (f : Frame) (g : ConsoleFrame) : ConsoleFrame :=
  if g.isProposalFor tag = true then .proposal tag f else g

theorem ConsoleFrame.isProposalFor_giveWay (tag : Nat) (f : Frame) (g : ConsoleFrame) (t : Nat) :
    (g.giveWay tag f).isProposalFor t = g.isProposalFor t := by
  unfold ConsoleFrame.giveWay
  split
  · next h =>
    cases g with
    | proposal t' f' =>
      rw [ConsoleFrame.isProposalFor_proposal, beq_iff_eq] at h
      rw [ConsoleFrame.isProposalFor_proposal, ConsoleFrame.isProposalFor_proposal, h]
    | reply f' => cases h
    | withdraw t' f' => cases h
  · rfl

theorem Console.propose_of_queued {c : Console} {tag : Nat} {f : Frame} (h : c.queue.any (·.isProposalFor tag) = true) :
    c.propose tag f = { c with queue := c.queue.map (ConsoleFrame.giveWay tag f) } := if_pos h

theorem Console.propose_of_not_queued {c : Console} {tag : Nat} {f : Frame} (h : c.queue.any (·.isProposalFor tag) = false)
    (hroom : c.offersWaiting < 32) : c.propose tag f = { c with queue := c.queue ++ [.proposal tag f] } :=
  (if_neg (by rw [h]; decide)).trans (if_pos hroom)

theorem ConsoleFrame.isOffer_giveWay (tag : Nat) (f : Frame) (g : ConsoleFrame) : (g.giveWay tag f).isOffer = g.isOffer := by
  unfold ConsoleFrame.giveWay
  split
  · next h =>
    cases g with
    | proposal t' f' => rfl
    | reply f' => cases h
    | withdraw t' f' => cases h
  · rfl

theorem Console.offersWaiting_giveWay (c : Console) (tag : Nat) (f : Frame) :
    ({ c with queue := c.queue.map (ConsoleFrame.giveWay tag f) } : Console).offersWaiting = c.offersWaiting := by
  unfold Console.offersWaiting
  rw [List.countP_map]
  exact List.countP_congr fun g _ => by rw [Function.comp, ConsoleFrame.isOffer_giveWay]

theorem Console.offersWaiting_append (c : Console) (tag : Nat) (f : Frame) :
    ({ c with queue := c.queue ++ [.proposal tag f] } : Console).offersWaiting = c.offersWaiting + 1 := by
  unfold Console.offersWaiting
  rw [List.countP_append]
  rfl

/-! ## PROPOSALs made in turn -/

/-- PROPOSALs of different tags made in turn, with room for all: those for a tag still waiting take their places, the others join
the tail in their order (R80). -/
theorem Console.foldl_propose {offers : List (Nat × Frame)} (hn : (offers.map (·.1)).Nodup) {c : Console}
    (hroom : c.offersWaiting + offers.length ≤ 32) :
    offers.foldl (fun c p => c.propose p.1 p.2) c =
      { c with
        queue := c.queue.map (ConsoleFrame.offered offers)
          ++ (offers.filter fun p => !c.queue.any (·.isProposalFor p.1)).map fun p => .proposal p.1 p.2 } := by
  induction offers generalizing c with
  | nil =>
    have : c.queue.map (ConsoleFrame.offered []) = c.queue := List.map_id _
    rw [this]
    show c = { c with queue := c.queue ++ [] }
    rw [List.append_nil]
  | cons p ps ih =>
    obtain ⟨hp, hps⟩ := List.nodup_cons.mp hn
    have hne : ∀ q ∈ ps, q.1 ≠ p.1 := fun q hq he => hp (List.mem_map.mpr ⟨q, hq, he⟩)
    rw [List.length_cons] at hroom
    rw [List.foldl_cons, List.filter_cons]
    cases hq : c.queue.any (·.isProposalFor p.1) with
    | true =>
      rw [Console.propose_of_queued hq, ih hps (by rw [Console.offersWaiting_giveWay]; omega)]
      refine congrArg (fun l => { c with queue := l }) (congrArg₂ (· ++ ·) ?_ ?_)
      · rw [List.map_map]
        refine List.map_congr_left fun g _ => ?_
        rw [Function.comp, ConsoleFrame.giveWay, ConsoleFrame.offered_cons]
        split
        · exact ConsoleFrame.offered_proposal hp p.2
        · rfl
      · refine congrArg (List.map _) ((List.filter_congr fun q _ => ?_).trans (if_neg Bool.false_ne_true).symm)
        rw [List.any_map]
        exact congrArg (! ·) (congrArg (List.any c.queue) (funext fun g => ConsoleFrame.isProposalFor_giveWay _ _ _ _))
    | false =>
      rw [Console.propose_of_not_queued hq (by omega), ih hps (by rw [Console.offersWaiting_append]; omega)]
      refine congrArg (fun l => { c with queue := l }) ?_
      rw [List.map_append, List.append_assoc]
      refine congrArg₂ (· ++ ·) (List.map_congr_left fun g hg => ?_) ?_
      · rw [ConsoleFrame.offered_cons, if_neg]
        exact fun h => by
          rw [List.any_eq_false] at hq
          exact hq g hg h
      · rw [List.map_singleton, ConsoleFrame.offered_proposal hp, Bool.not_false, if_pos rfl, List.map_cons]
        refine congrArg (ConsoleFrame.proposal p.1 p.2 :: ·) (congrArg (List.map _) (List.filter_congr fun q hq' => ?_))
        rw [List.any_append]
        have : (p.1 == q.1) = false := beq_false_of_ne (hne q hq').symm
        simp [ConsoleFrame.isProposalFor_proposal, this]

/-! ## The pieces in the window -/

section
variable {s : State}

/-- The offer of a slot in the window (R81). -/
def Slot.windowOffer (x : Slot) : Option (Nat × Frame) :=
  if x.console.window = .open then x.solution.map fun sol => (x.tag, proposalFrame x sol) else none

theorem Slot.windowOffer_tag {x : Slot} {p : Nat × Frame} (h : x.windowOffer = some p) : p.1 = x.tag := by
  unfold Slot.windowOffer at h
  split at h
  · obtain ⟨sol, -, rfl⟩ := Option.map_eq_some_iff.mp h
    rfl
  · cases h

theorem State.windowOffers_length_le (s : State) : s.windowOffers.length ≤ s.tracker.ring.length :=
  List.length_filterMap_le _ _

theorem windowOffer_tags_sublist (ring : List Slot) :
    ((ring.filterMap Slot.windowOffer).map (·.1)).Sublist (ring.map (·.tag)) := by
  induction ring with
  | nil => exact List.Sublist.refl _
  | cons x xs ih =>
    rw [List.filterMap_cons]
    split
    · exact ih.cons _
    · next p hp =>
      rw [List.map_cons, List.map_cons, Slot.windowOffer_tag hp]
      exact ih.cons_cons _

theorem State.windowOffers_nodup (h : s.ringKept) : (s.windowOffers.map (·.1)).Nodup :=
  h.nodup.sublist (windowOffer_tags_sublist _)

/-- The offers of the window are made in the order of the ring. -/
theorem foldl_offerSlot (ring : List Slot) (c : Console) :
    (ring.filter (·.console.window == .open)).foldl (fun c y => c.offerSlot y) c =
      (ring.filterMap Slot.windowOffer).foldl (fun c p => c.propose p.1 p.2) c := by
  induction ring generalizing c with
  | nil => rfl
  | cons x xs ih =>
    rw [List.filter_cons, List.filterMap_cons, Slot.windowOffer]
    by_cases hw : x.console.window = .open
    · rw [if_pos (beq_iff_eq.mpr hw), if_pos hw, List.foldl_cons]
      cases hs : x.solution with
      | none =>
        rw [Console.offerSlot, hs]
        exact ih c
      | some sol =>
        rw [Console.offerSlot_of_some hs]
        exact ih _
    · rw [if_neg (mt beq_iff_eq.mp hw), if_neg hw]
      exact ih c

/-- A PROPOSAL made leaves the subscription and every reply that waits. -/
theorem Console.propose_keeps (c : Console) (tag : Nat) (f : Frame) :
    (c.propose tag f).subscribed = c.subscribed
      ∧ ∀ g : Frame, ConsoleFrame.reply g ∈ c.queue → ConsoleFrame.reply g ∈ (c.propose tag f).queue := by
  unfold Console.propose Console.joinOffer
  split
  · exact ⟨rfl, fun g hg => List.mem_map.mpr ⟨_, hg, rfl⟩⟩
  · split
    · exact ⟨rfl, fun g hg => List.mem_append_left _ hg⟩
    · exact ⟨rfl, fun g hg => hg⟩

theorem foldl_propose_keeps (offers : List (Nat × Frame)) (c : Console) :
    (offers.foldl (fun c p => c.propose p.1 p.2) c).subscribed = c.subscribed
      ∧ ∀ g : Frame, ConsoleFrame.reply g ∈ c.queue →
          ConsoleFrame.reply g ∈ (offers.foldl (fun c p => c.propose p.1 p.2) c).queue := by
  induction offers generalizing c with
  | nil => exact ⟨rfl, fun _ h => h⟩
  | cons p ps ih =>
    obtain ⟨h1, h2⟩ := ih (c.propose p.1 p.2)
    obtain ⟨k1, k2⟩ := c.propose_keeps p.1 p.2
    exact ⟨h1.trans k1, fun g hg => h2 g (k2 g hg)⟩

/-! ## The requests -/

theorem exec_subscribe {c : Fin 4} (h : s.consoleReady c) (ft : Byte) :
    exec (.subscribe c ft []) s =
      .next ((s.received (.console c) []).setConsole c fun x =>
        s.windowOffers.foldl (fun c p => c.propose p.1 p.2) ({ x with subscribed := true }.join (donePlain ft))) := by
  rw [exec_eq_after, State.after_subscribe]
  refine congrArg _ ((State.consoleFrame_taken h ft [] () _).trans ?_)
  unfold State.takeSubscribe
  exact congrArg (State.setConsole (s.received (.console c) []) c) (funext fun x => foldl_offerSlot s.tracker.ring _)

/-- SUBSCRIBE makes its console subscribed, answered DONE, and touches nothing else. -/
theorem subscribe_answers {c : Fin 4} (h : s.consoleReady c) (ft : Byte) :
    ∃ t, exec (.subscribe c ft []) s = .next t
      ∧ (t.consoles.get c).subscribed = true
      ∧ ConsoleFrame.reply { kind := 0x4E, tag := ft, payload := [] } ∈ (t.consoles.get c).queue
      ∧ { t with consoles := t.consoles.set c (s.consoles.get c), links := s.links } = s := by
  obtain ⟨h1, h2⟩ := foldl_propose_keeps s.windowOffers
    ({ s.consoles.get c with subscribed := true }.join (donePlain ft))
  have hget := Bank.get_modify_same s.consoles c fun x =>
    s.windowOffers.foldl (fun c p => c.propose p.1 p.2) ({ x with subscribed := true }.join (donePlain ft))
  refine ⟨_, exec_subscribe h ft, (congrArg Console.subscribed hget).trans h1, ?_, ?_⟩
  · exact (congrArg Console.queue hget).symm ▸ h2 _ (List.mem_append_right _ (List.mem_singleton_self _))
  · exact congrArg (fun b => { s with consoles := b }) (Bank.set_modify s.consoles c _)

/-- With room for them, SUBSCRIBE is answered and then every PROPOSAL of the window joins. -/
theorem subscribe_offers {c : Fin 4} (h : s.consoleReady c) (hi : s.Inv)
    (hroom : (s.consoles.get c).offersWaiting + s.tracker.ring.length ≤ 32) (ft : Byte) :
    exec (.subscribe c ft []) s =
      .next
        { s.received (.console c) [] with
          consoles :=
            s.consoles.set c
              { s.consoles.get c with
                subscribed := true
                queue :=
                  (s.consoles.get c).queue.map (ConsoleFrame.offered s.windowOffers)
                    ++ [.reply { kind := 0x4E, tag := ft, payload := [] }]
                    ++ (s.windowOffers.filter fun p => !(s.consoles.get c).queue.any (·.isProposalFor p.1)).map fun p =>
                        .proposal p.1 p.2 } } := by
  have hfold := Console.foldl_propose (State.windowOffers_nodup hi.ring)
    (c := { s.consoles.get c with subscribed := true }.join (donePlain ft)) (by
      rw [(Console.join_counts _ _).2]
      exact Nat.le_trans (Nat.add_le_add_left s.windowOffers_length_le _) hroom)
  rw [exec_subscribe h ft]
  refine congrArg (fun x => Host.Outcome.next { s.received (.console c) [] with consoles := s.consoles.set c x }) (hfold.trans ?_)
  refine congrArg (fun l => { s.consoles.get c with subscribed := true, queue := l }) ?_
  have hnone : ConsoleFrame.offered s.windowOffers (.reply (donePlain ft)) = .reply (donePlain ft) := by
    have hf : (s.windowOffers.find? fun p => (ConsoleFrame.reply (donePlain ft)).isProposalFor p.1) = none :=
      List.find?_eq_none.mpr fun p _ => Bool.false_ne_true
    unfold ConsoleFrame.offered
    rw [hf]
  have hq : ({ s.consoles.get c with subscribed := true }.join (donePlain ft)).queue =
      (s.consoles.get c).queue ++ [.reply (donePlain ft)] := rfl
  rw [hq, List.map_append, List.map_singleton, hnone]
  refine congrArg (_ ++ ·) (congrArg (List.map _) (List.filter_congr fun p _ => ?_))
  rw [List.any_append]
  exact congrArg (! ·) (Bool.or_false _)

theorem unsubscribe_removes {c : Fin 4} (h : s.consoleReady c) (ft : Byte) :
    exec (.unsubscribe c ft []) s =
      .next
        { s.received (.console c) [] with
          consoles :=
            s.consoles.set c
              { s.consoles.get c with
                subscribed := false
                queue :=
                  ((s.consoles.get c).queue.filter fun f => !f.isOffer)
                    ++ [.reply { kind := 0x4E, tag := ft, payload := [] }] } } := by
  rw [exec_eq_after, State.after_unsubscribe]
  exact congrArg _ (State.consoleFrame_taken h ft [] () _)

end

end Sys2Proof.Machine


/-! PROOF. The advance of the ring (R4, R8 to R12, R23; O25, O26): the runs keep their numbers and products through it, the new
slot is as created, and a lug pulse in the capture region makes one. -/

namespace Sys2Proof.Machine

-- One proof after the other: together they would ask for more threads than the check has memory for.
set_option Elab.async false

section
variable {s t u : State}

/-! ## The runs through the arrivals -/

/-- Every run keeps its number, its product, and whether it is log-current and board-current. -/
def State.RunsHold (s t : State) : Prop :=
  ∃ f : Run → Run, KeepsCurrent f ∧ (∀ r, (f r).product = r.product) ∧ t.runs.records = s.runs.records.map f

namespace State.RunsHold

theorem of_runs (h : t.runs = s.runs) : s.RunsHold t :=
  ⟨id, ⟨fun _ => rfl, fun _ => rfl, fun _ => rfl⟩, fun _ => rfl, by rw [h, List.map_id]⟩

theorem trans (h : s.RunsHold u) (k : u.RunsHold t) : s.RunsHold t := by
  obtain ⟨f, hf, hfp, hfr⟩ := h
  obtain ⟨g, hg, hgp, hgr⟩ := k
  refine ⟨g ∘ f, ⟨fun r => (hg.seq _).trans (hf.seq r), fun r => (hg.log _).trans (hf.log r),
    fun r => (hg.board _).trans (hf.board r)⟩, fun r => (hgp _).trans (hfp r), ?_⟩
  rw [hgr, hfr, List.map_map]

theorem enter (s : State) (seq : Nat) (l : List (Counter × Nat)) : s.RunsHold (s.enter seq l) :=
  ⟨_, changeRun_keepsCurrent seq l, fun r => by
    split
    · exact (r.countAll_keeps l).2.1
    · rfl, congrArg RunTable.records (s.enter_keeps seq l).2.2⟩

theorem closeDrained (s : State) : s.RunsHold s.closeDrained :=
  ⟨_, closeIfDrained_keepsCurrent s.tracker.ring, fun r => (r.closeIfDrained_tally _).2.2, rfl⟩

theorem exited (s : State) (x : Slot) : s.RunsHold (s.exited x) := by
  unfold State.exited State.exitPiece
  split
  · split
    · next c _ => exact (enter s x.run (exitEntry (s.productOf x.run) s.geo.pitch x c)).trans (of_runs rfl)
    · exact of_runs rfl
  · exact of_runs rfl

theorem arriveAt (s : State) (tag : Nat) (st : Station) : s.RunsHold (s.arriveAt tag st) := by
  unfold State.arriveAt
  split
  · exact of_runs rfl
  · next x _ =>
    split
    · refine .trans (u := s.updateSlot tag fun y => { y with passed := y.passed ++ [st] }) (of_runs rfl) ?_
      by_cases hst : st = .ex
      · subst hst
        show RunsHold _ (State.arriveEX _ _)
        rw [State.arriveEX_eq]
        exact (exited _ _).trans (.trans (u := State.removeSlot _ _) (of_runs rfl) (closeDrained _))
      · exact of_runs (State.SameKeys.announce _ hst _).runs
    · exact of_runs rfl

theorem movedOn (s : State) : s.RunsHold s.movedOn := by
  unfold State.movedOn State.fixKind
  dsimp only
  split
  · split
    · exact .trans (u := s.moveRing.updateSlot _ Slot.fixKind) (of_runs rfl) (enter _ _ _)
    · exact .trans (u := s.moveRing.updateSlot _ Slot.fixKind) (of_runs rfl) (closeDrained _)
  · exact of_runs rfl

theorem foldl {α : Type} {f : State → α → State} (hf : ∀ (s : State) a, s.RunsHold (f s a)) (l : List α) (s : State) :
    s.RunsHold (l.foldl f s) := by
  induction l generalizing s with
  | nil => exact of_runs rfl
  | cons a l ih => exact (hf s a).trans (ih _)

theorem beforeCreate (s : State) : s.RunsHold s.beforeCreate :=
  (movedOn s).trans (foldl (fun s tag => foldl (fun s st => arriveAt s tag st) _ s) _ _)

theorem boardSeq (h : s.RunsHold t) : t.boardSeq = s.boardSeq := by
  obtain ⟨f, hf, -, hr⟩ := h
  exact State.boardSeq_map hf hr

theorem productOf (h : s.RunsHold t) (ht : t.tables = s.tables) (seq : Nat) : t.productOf seq = s.productOf seq := by
  obtain ⟨f, hf, hp, hr⟩ := h
  unfold State.productOf
  rw [ht, State.run?_map hf hr, Option.map_map]
  exact congrArg (fun g => s.tables.product (((s.run? seq).map g).getD 0)) (funext hp)

end State.RunsHold

/-! ## The new slot -/

theorem State.beforeCreate_newSlot_key (s : State) (synth : Bool) :
    (s.beforeCreate.newSlot synth).key =
      { tag := s.tracker.nextTag, offset := 0, kind := .undecided, run := s.boardSeq, lugSynth := synth,
        eye := s.inputActive .boardEye, passed := [] } := by
  have h1 := (State.LineFrame.beforeCreate s).inputActive .boardEye
  have h2 : s.beforeCreate.boardSeq = s.boardSeq := (State.RunsHold.beforeCreate s).boardSeq
  show SlotKey.mk s.beforeCreate.tracker.nextTag _ _ s.beforeCreate.boardSeq _ (s.beforeCreate.inputActive .boardEye) _ = _
  rw [State.beforeCreate_nextTag, h2]
  exact congrArg (fun b => SlotKey.mk _ _ _ _ _ b _) h1

/-- The new slot as created (R10, R12, R23, R82). -/
theorem State.advance_freshSlot (s : State) (synth : Bool) :
    (s.advance synth).freshSlot s.geo.cells (s.beforeCreate.newSlot synth) := by
  have hgeo : s.beforeCreate.geo = s.geo := (State.LineFrame.beforeCreate s).geo
  refine ⟨rfl, congrArg (fun g : Geometry => List.replicate g.cells Cell.unseen) hgeo, fun h => ⟨?_, Bank.get_fill _ h⟩, rfl, rfl⟩
  show ((s.beforeCreate.scan.heads.map (·.status == .up)).get h = true ↔ (s.beforeCreate.scan.heads.get h).status = .up)
  rw [Bank.get_map, beq_iff_eq]

/-- The TRIGGER of the new slot (R23). -/
theorem State.advance_triggered (s : State) (synth : Bool) : s.triggered (s.advance synth) s.tracker.nextTag := by
  intro h
  have htr : s.beforeCreate.scan.triggers = s.scan.triggers := (State.LineFrame.beforeCreate s).triggers
  have hget : (s.advance synth).scan.triggers.get h =
      if (s.beforeCreate.scan.heads.get h).status == .disabled then s.beforeCreate.scan.triggers.get h
      else (s.beforeCreate.scan.triggers.get h).send s.beforeCreate.tracker.nextTag := Bank.get_ofFn _ h
  rw [hget, htr, State.beforeCreate_nextTag]
  refine if_congr beq_iff_eq rfl ?_
  unfold TriggerLink.send
  obtain ⟨sending, waiting⟩ := s.scan.triggers.get h
  cases sending <;> rfl

/-- What an advance makes of the ring and of the record of advances. -/
theorem State.advance_advancedTo (h : s.ringKept) (synth : Bool) : s.advancedTo (s.advance synth) synth := by
  have hkeys := State.advance_keys h synth
  refine ⟨?_, State.advance_nextTag s synth, ?_, ⟨_, ?_, State.advance_freshSlot s synth⟩, State.advance_triggered s synth, ?_⟩
  · have hmap : ((s.advance synth).tracker.ring.map fun y => (y.tag, y.offset, y.run, y.lugSynth, y.eye)) =
        (s.advance synth).keys.map fun k => (k.tag, k.offset, k.run, k.lugSynth, k.eye) := by
      rw [State.keys, List.map_map]
      rfl
    rw [hmap, hkeys, List.map_append, List.map_map, State.beforeCreate_newSlot_key]
    refine congrArg (· ++ _) (List.map_congr_left fun x _ => ?_)
    simp only [Function.comp, SlotKey.arriveAll_tag, SlotKey.arriveAll_offset, SlotKey.arriveAll_run, SlotKey.arriveAll_lugSynth,
      SlotKey.arriveAll_eye]
    rfl
  · exact (State.LineFrame.beforeCreate s).advanceTimes
  · rw [State.advance_ring]
    exact List.getLast?_concat
  · intro x hx y hy ht
    have hm : y.key ∈ (s.advance synth).keys := List.mem_map_of_mem hy
    rw [hkeys, List.mem_append, List.mem_singleton] at hm
    rcases hm with hm | hm
    · obtain ⟨z, hz, he⟩ := List.mem_map.mp hm
      have hzt : z.tag = y.tag := by
        have := congrArg SlotKey.tag he
        rwa [SlotKey.arriveAll_tag] at this
      obtain rfl := h.eq_of_tag (List.mem_filter.mp hz).1 hx (hzt.trans ht)
      have hk : y.kind = (z.movedKey.arriveAll s.geo).kind := congrArg SlotKey.kind he.symm
      rw [hk, SlotKey.arriveAll_kind]
      refine if_congr Iff.rfl ?_ rfl
      unfold Slot.fixedKind
      exact if_congr Bool.or_eq_true_iff rfl rfl
    · refine absurd (List.mem_map.mpr ⟨x, hx, ?_⟩) h.next_fresh
      rw [← ht]
      have := congrArg SlotKey.tag hm
      rw [State.beforeCreate_newSlot_key] at this
      exact this

/-! ## A lug pulse in the capture region -/

/-- The input bound to LUG recognised as active. -/
abbrev State.lugTaken (s : State) (i : Fin 8) : State :=
  { s with field := { s.field with inputs := s.field.inputs.set i { s.field.inputs.get i with filtered := true, timer := none } } }

/-- A lug pulse in the capture region makes a sensed advance (R3). -/
theorem exec_lugDue {i : Fin 8} {left : Nat} (h : s.lugDue i left) :
    exec (.filterTimerExpiry i) s = .next (((s.lugTaken i).advance false).setPos 0 .sensed) := by
  obtain ⟨hl, hf, ht, hr, hp⟩ := h
  rw [exec_filterTimerExpiry ht, hf, hr]
  refine congrArg _ ?_
  show (s.lugTaken i).lugPulse = _
  unfold State.lugPulse
  exact (if_neg (mt beq_iff_eq.mp hl)).trans (if_pos hp)

/-- The lug input's change is no change of another function's input. -/
theorem State.lugTaken_inputActive {i : Fin 8} (hf : (s.tables.inputs.get i).function = .lug) {f : InputFunction} (hne : f ≠ .lug) :
    (s.lugTaken i).inputActive f = s.inputActive f := by
  unfold State.inputActive
  refine congrArg (List.any (List.finRange 8)) (funext fun j => ?_)
  show (_ && ((s.field.inputs.set i _).get j).filtered) = _
  rw [Bank.get_set]
  by_cases hj : j = i
  · subst hj
    rw [hf, beq_false_of_ne hne.symm, Bool.false_and, Bool.false_and]
  · rw [if_neg hj]

theorem State.advancedTo_of_lugTaken {i : Fin 8} (hf : (s.tables.inputs.get i).function = .lug) {synth : Bool}
    (h : (s.lugTaken i).advancedTo t synth) : s.advancedTo t synth := by
  obtain ⟨h1, h2⟩ := h
  rw [State.lugTaken_inputActive hf (f := .boardEye) nofun] at h1
  exact ⟨h1, h2⟩

/-! ## A count that reaches K+W -/

/-- The count that brings pos to K+W (R4). -/
theorem State.forwardCount_of_eq (h : s.tracker.pos + 1 = s.geo.windowEnd) :
    s.forwardCount =
      (((s.setTracker fun t => { t.runForward s.geo with pos := t.pos + 1 }).advance true).setPos s.geo.halfWidth
        (.synthesized false)).raise .lugMissed := if_pos (Nat.le_of_eq h.symm)

/-- A count may change the line state, the run-up count and the stop timer. -/
theorem Tracker.runForward_eq (g : Geometry) (t : Tracker) :
    ∃ l n left, t.runForward g = { t with line := l, runUp := n, stopTimer := left } := by
  cases hl : t.line with
  | starting =>
    have h : t.runForward g = t := by simp only [Tracker.runForward, hl]
    exact ⟨t.line, t.runUp, t.stopTimer, h⟩
  | running => exact ⟨t.line, t.runUp, _, Tracker.runForward_running hl⟩
  | stopped => exact ⟨_, _, _, Tracker.runForward_stopped hl⟩

/-- What a count in RUNNING or STOPPED makes of the line state, the run-up count and the stop timer (R6, R7). -/
theorem Tracker.runForward_line (g : Geometry) (t : Tracker) :
    (t.line = .running →
        ((t.runForward g).line, (t.runForward g).runUp, (t.runForward g).stopTimer) = (.running, t.runUp, some (2 * g.stopTime)))
      ∧ (t.line = .stopped →
          ((t.runForward g).line, (t.runForward g).runUp, (t.runForward g).stopTimer) =
            if g.lugPitch / 16 ≤ t.runUp + 1 then (.running, t.runUp + 1, some (2 * g.stopTime))
            else (.stopped, t.runUp + 1, t.stopTimer)) := by
  refine ⟨fun h => ?_, fun h => ?_⟩
  · rw [Tracker.runForward_running h, h]
  · rw [Tracker.runForward_stopped h]
    dsimp only
    split <;> rfl

end

/-- Settles O25: the pulse is the advance, and the new slot joins last. -/
theorem lugPulseMakesSensedAdvance : Obligations.LugPulseMakesSensedAdvance := by
  intro i left s hi hl hf ht hr hp
  refine ⟨_, exec_lugDue ⟨hl, hf, ht, hr, hp⟩, rfl, rfl, ?_, ?_, ?_, ?_, ?_, ?_⟩
  · exact State.advancedTo_of_lugTaken hf (State.advance_advancedTo (s := s.lugTaken i) hi.ring false)
  · exact State.advance_line (s.lugTaken i) false
  · exact State.advance_tables (s.lugTaken i) false
  · exact State.advance_store (s.lugTaken i) false
  · exact State.advance_lane (s.lugTaken i) false
  · exact State.advance_inputs (s.lugTaken i) false

/-- Settles O26: the count acts on the line state first, and the ring then moves on as at a pulse. -/
theorem missedLugMakesSynthesizedAdvance : Obligations.MissedLugMakesSynthesizedAdvance := by
  intro s hi hl hp
  have hexec : exec .chainForwardCount s = .next (s.setTracker (·.turn true)).forwardCount := by
    rw [exec_eq_after, State.after_chainForwardCount, if_neg (mt beq_iff_eq.mp hl)]
  rw [State.forwardCount_of_eq (s := s.setTracker (·.turn true)) hp] at hexec
  obtain ⟨l, n, left, hrf⟩ := (s.tracker.turn true).runForward_eq s.geo
  have hline := (s.tracker.turn true).runForward_line s.geo
  rw [hrf] at hline
  let u : State :=
    { s with tracker := { s.tracker.turn true with line := l, runUp := n, stopTimer := left, pos := s.tracker.pos + 1 } }
  have hu : ((s.setTracker (·.turn true)).setTracker fun t => { t.runForward s.geo with pos := t.pos + 1 }) = u :=
    congrArg (fun t : Tracker => { s with tracker := { t with pos := s.tracker.pos + 1 } }) hrf
  have hexec : exec .chainForwardCount s =
      .next (((u.advance true).setPos s.geo.halfWidth (.synthesized false)).raise .lugMissed) := hu ▸ hexec
  have htracker := State.raise_tracker ((u.advance true).setPos s.geo.halfWidth (.synthesized false)) .lugMissed
  have hat : s.advancedTo (u.advance true) true := State.advance_advancedTo (s := u) hi.ring true
  refine ⟨_, hexec, congrArg Tracker.pos htracker, congrArg Tracker.lastAdvance htracker, (State.raise_isPending _ _).1, ?_,
    fun hr => ?_, fun hst => ?_, ?_, ?_, ?_, ?_, ?_⟩
  · rw [htracker]
    exact Prod.ext (State.advance_phaseA u true) (State.advance_phaseB u true)
  · rw [htracker]
    exact (Prod.ext (State.advance_line u true)
      (Prod.ext (State.advance_runUp u true) (State.advance_stopTimer u true))).trans (hline.1 hr)
  · rw [htracker]
    exact (Prod.ext (State.advance_line u true)
      (Prod.ext (State.advance_runUp u true) (State.advance_stopTimer u true))).trans (hline.2 hst)
  · unfold State.advancedTo State.freshSlot State.triggered
    rw [htracker, State.raise_scan]
    exact hat
  · rw [State.raise_tables]
    exact State.advance_tables u true
  · rw [State.raise_store]
    exact State.advance_store u true
  · rw [State.raise_lane]
    exact State.advance_lane u true
  · rw [State.raise_inputs]
    exact State.advance_inputs u true

end Sys2Proof.Machine


/-! PROOF. One arrival among those of an advance: what comes before it and what after (R13), for the statements about a slot that
arrives at a station at a lug pulse (O31, O37, O39, O40, O47). -/

namespace Sys2Proof.Machine

-- One proof after the other: together they would ask for more threads than the check has memory for.
set_option Elab.async false

section
variable {s u : State} {tag : Nat}

/-! ## The order of the stations -/

/-- The place of a station in the order in which a slot is announced (R13). -/
def Station.rank : Station → Nat
  | .sd => 0
  | .gw => 1
  | .cm => 2
  | .tr => 3
  | .ex => 4

/-- The frames that a slot's arrivals before the station of this rank may have put on a console's queue: its PROPOSAL at GW, its
WITHDRAW at CM. -/
def offersBefore (rank : Nat) : Nat := min (rank - 1) 2

/-- The frames that an arrival at a station may put on a console's queue. -/
def Station.offers : Station → Nat
  | .gw => 1
  | .cm => 1
  | _ => 0

theorem Station.offersBefore_succ (st : Station) : offersBefore (st.rank + 1) = offersBefore st.rank + st.offers := by
  cases st <;> rfl

theorem Station.eq_of_rank {st st' : Station} (h : st.rank = st'.rank) : st = st' := by
  cases st <;> cases st' <;> simp [Station.rank] at h ⊢

/-- The stations stand in their order (R15). -/
theorem Geometry.station_lt {g : Geometry} (h : g.valid = true) {st st' : Station} (hr : st.rank < st'.rank) :
    g.station st < g.station st' := by
  obtain ⟨-, h2, h3, h4, -⟩ := Geometry.valid_stations h
  have htr : g.tr = g.cm + 1 := rfl
  cases st <;> cases st' <;> simp only [Station.rank] at hr <;> simp only [Geometry.station] <;> omega

theorem Geometry.station_le {g : Geometry} (h : g.valid = true) {st st' : Station} (hr : st.rank ≤ st'.rank) :
    g.station st ≤ g.station st' := by
  rcases Nat.lt_or_eq_of_le hr with hlt | heq
  · exact Nat.le_of_lt (Geometry.station_lt h hlt)
  · rw [Station.eq_of_rank heq]

/-! ## The slots that are still in the ring -/

/-- Every slot of the ring was there before, at the same offset and of the same kind, and has passed the stations it had passed; the
tables are the same. -/
structure State.From (s u : State) : Prop where
  tables : u.tables = s.tables
  slots : ∀ y ∈ u.tracker.ring, ∃ z ∈ s.tracker.ring,
    z.tag = y.tag ∧ z.offset = y.offset ∧ (∀ st ∈ z.passed, st ∈ y.passed) ∧ z.kind = y.kind

namespace State.From

theorem geo (h : s.From u) : u.geo = s.geo := congrArg Tables.geometry h.tables

theorem refl (s : State) : s.From s := ⟨rfl, fun y hy => ⟨y, hy, rfl, rfl, fun _ => id, rfl⟩⟩

theorem arriveAt (h : s.From u) (hu : u.RingApart) (tag : Nat) (st : Station) : s.From (u.arriveAt tag st) := by
  refine ⟨(State.LineFrame.arriveAt u tag st).tables.trans h.tables, fun y hy => ?_⟩
  have hfrom : ∃ z ∈ u.tracker.ring,
      z.tag = y.tag ∧ z.offset = y.offset ∧ (∀ st ∈ z.passed, st ∈ y.passed) ∧ z.kind = y.kind := by
    by_cases hst : st = .ex
    · subst hst
      rw [State.arriveAt_ex_ring hu.tags hu.inLine] at hy
      exact ⟨y, List.mem_of_mem_filter hy, rfl, rfl, fun _ => id, rfl⟩
    · have hk : y.key ∈ (u.arriveAt tag st).keys := List.mem_map_of_mem hy
      rw [(State.arriveAt_keys hu.tags tag hst).1] at hk
      obtain ⟨k, hk, e⟩ := List.mem_map.mp hk
      obtain ⟨z, hz, rfl⟩ := List.mem_map.mp hk
      have hkey : y.key = z.key ∨ y.key = z.key.arrive u.geo st := by
        rw [← e]
        split
        · exact .inr rfl
        · exact .inl rfl
      refine ⟨z, hz, ?_⟩
      show z.key.tag = y.key.tag ∧ z.key.offset = y.key.offset ∧ (∀ p ∈ z.key.passed, p ∈ y.key.passed) ∧ z.key.kind = y.key.kind
      rcases hkey with hkey | hkey
      · rw [hkey]
        exact ⟨rfl, rfl, fun _ => id, rfl⟩
      · rw [hkey, SlotKey.arrive_tag, SlotKey.arrive_offset, SlotKey.arrive_kind]
        exact ⟨rfl, rfl, fun p hp => SlotKey.mem_arrive.mpr (.inl hp), rfl⟩
  obtain ⟨z, hz, ht, ho, hp, hk⟩ := hfrom
  obtain ⟨w, hw, hwt, hwo, hwp, hwk⟩ := h.slots z hz
  exact ⟨w, hw, hwt.trans ht, hwo.trans ho, fun st hst => hp st (hwp st hst), hwk.trans hk⟩

theorem arriveAll (h : s.From u) (hu : u.RingApart) (tag : Nat) : s.From (u.arriveAll tag) := by
  have h1 := hu.arriveAt tag .sd
  have h2 := h1.arriveAt tag .gw
  have h3 := h2.arriveAt tag .cm
  exact ((((h.arriveAt hu tag .sd).arriveAt h1 tag .gw).arriveAt h2 tag .cm).arriveAt h3 tag .tr).arriveAt (h3.arriveAt tag .tr) tag .ex

/-- A slot that has not come to a station is not announced there. -/
theorem not_due (h : s.From u) {st : Station} (hb : ∀ z ∈ s.tracker.ring, z.tag = tag → z.offset < s.geo.station st ∨ st ∈ z.passed) :
    u.arriveAt tag st = u := by
  refine State.arriveAt_of_not_due fun y hy hp => ?_
  obtain ⟨hm, ht⟩ := State.slot?_some hy
  obtain ⟨z, hz, hzt, hzo, hzp, -⟩ := h.slots y hm
  rcases hb z hz (hzt.trans ht) with hlt | hin
  · rw [h.geo, ← hzo]
    exact hlt
  · exact absurd (hzp st hin) hp

end State.From

/-! ## The arrivals of one slot, and of several -/

/-- What each of a slot's arrivals hands on to the next holds after them all. -/
theorem State.Moving.arriveAll_steps {P : Nat → State → Prop} (h : u.Moving) (hs : s.From u) (hg : s.geo.valid = true)
    (step : ∀ {v : State} (st : Station), v.Moving → s.From v → v.inOrder tag st → P st.rank v → P (st.rank + 1) (v.arriveAt tag st))
    (h0 : P 0 u) : P 5 (u.arriveAll tag) := by
  have next : ∀ {v : State} {st st' : Station}, v.Moving → s.From v → st ≠ .ex → st'.before = some st → st.rank ≤ st'.rank →
      (v.arriveAt tag st).inOrder tag st' := fun hm hf hne hb hr =>
    hm.apart.inOrder_arriveAt hne hb (by rw [hf.geo]; exact Geometry.station_le hg hr)
  have m1 := h.arriveAt_sd tag
  have f1 := hs.arriveAt h.apart tag .sd
  have i1 := next (st := .sd) (st' := .gw) h hs nofun rfl (by decide)
  have m2 := m1.arriveAt_gw i1
  have f2 := f1.arriveAt m1.apart tag .gw
  have i2 := next (st := .gw) (st' := .cm) m1 f1 nofun rfl (by decide)
  have m3 := m2.arriveAt_cm i2
  have f3 := f2.arriveAt m2.apart tag .cm
  have i3 := next (st := .cm) (st' := .tr) m2 f2 nofun rfl (by decide)
  have m4 := m3.arriveAt_tr i3
  have f4 := f3.arriveAt m3.apart tag .tr
  have i4 := next (st := .tr) (st' := .ex) m3 f3 nofun rfl (by decide)
  exact step .ex m4 f4 i4 (step .tr m3 f3 i3 (step .cm m2 f2 i2 (step .gw m1 f1 i1 (step .sd h hs (fun _ _ _ _ _ => nofun) h0))))

/-- What each arrival hands on to the next holds after those of several slots; each slot makes at most 2 frames. -/
theorem State.Moving.foldl_steps {P : Nat → State → Prop} {tags : List Nat} (h : u.Moving) (hs : s.From u) (hg : s.geo.valid = true)
    (step : ∀ {v : State} {k tag : Nat} (st : Station), tag ∈ tags → v.Moving → s.From v → v.inOrder tag st → P k v →
      P (k + st.offers) (v.arriveAt tag st))
    {k : Nat} (h0 : P k u) :
    (tags.foldl State.arriveAll u).Moving ∧ s.From (tags.foldl State.arriveAll u)
      ∧ P (k + 2 * tags.length) (tags.foldl State.arriveAll u) := by
  induction tags generalizing u k with
  | nil => exact ⟨h, hs, h0⟩
  | cons tag tags ih =>
    have hone : P (k + 2) (u.arriveAll tag) :=
      h.arriveAll_steps (P := fun r v => P (k + offersBefore r) v) hs hg
        (fun st hm hf hi hp => by
          rw [Station.offersBefore_succ, ← Nat.add_assoc]
          exact step st (List.mem_cons_self ..) hm hf hi hp) h0
    have := ih (h.arriveAll (hs.geo ▸ hg) tag) (hs.arriveAll h.apart tag) (fun st ht => step st (List.mem_cons_of_mem _ ht)) hone
    rwa [show k + 2 * (tag :: tags).length = k + 2 + 2 * tags.length by simp only [List.length_cons]; omega]

/-! ## One arrival among the others -/

/-- An arrival that comes before that of `x` at `st`: of a slot further on, or of `x` itself at an earlier station. -/
def State.arrivesBefore (s : State) (x : Slot) (st : Station) (tag : Nat) (st' : Station) : Prop :=
  (tag ≠ x.tag ∧ ∃ z ∈ s.tracker.ring, z.tag = tag ∧ x.offset < z.offset) ∨ tag = x.tag ∧ st'.rank < st.rank

/-- A slot comes to a station as the ring moves on. What the arrivals before its own hand on, its own turns into what the later ones
hand on: those of slots behind it, at earlier stations. -/
theorem State.Moving.announced_around {P : Nat → State → Prop} {Q : State → Prop} {x : Slot} {st : Station} (h : s.Moving)
    (hg : s.geo.valid = true) (hfall : (s.tracker.ring.map (·.offset)).Pairwise (· > ·)) (hx : x ∈ s.tracker.ring)
    (ho : x.offset = s.geo.station st) (start : P 0 s)
    (before : ∀ {v : State} {k tag : Nat} {st' : Station}, v.Moving → s.From v → v.inOrder tag st' → s.arrivesBefore x st tag st' →
      P k v → P (k + st'.offers) (v.arriveAt tag st'))
    (arrive : ∀ {v : State} {k : Nat}, v.Moving → s.From v → v.inOrder x.tag st → k + st.offers ≤ 2 * s.tracker.ring.length → P k v →
      Q (v.arriveAt x.tag st))
    (after : ∀ {v : State} {tag : Nat} {st' : Station}, v.Moving → s.From v → v.inOrder tag st' → tag ≠ x.tag → st'.rank < st.rank →
      Q v → Q (v.arriveAt tag st')) : Q s.announced := by
  obtain ⟨pre, post, hring⟩ := List.append_of_mem hx
  have htags := h.apart.tags
  rw [hring, List.map_append, List.map_cons, List.nodup_append] at htags
  obtain ⟨-, hpost, hapart⟩ := htags
  obtain ⟨hxpost, -⟩ := List.nodup_cons.mp hpost
  rw [hring, List.map_append, List.map_cons, List.pairwise_append] at hfall
  obtain ⟨-, hpostfall, hprefall⟩ := hfall
  obtain ⟨hxfall, -⟩ := List.pairwise_cons.mp hpostfall
  have hsplit : s.announced = (post.map (·.tag)).foldl State.arriveAll
      (((pre.map (·.tag)).foldl State.arriveAll s).arriveAll x.tag) := by
    unfold State.announced
    rw [hring, List.map_append, List.map_cons, List.foldl_append, List.foldl_cons]
  obtain ⟨m1, f1, p1⟩ := h.foldl_steps (P := P) (tags := pre.map (·.tag)) (State.From.refl s) hg
    (fun {v k tag} st' ht hm hf hi hp => by
      obtain ⟨z, hz, rfl⟩ := List.mem_map.mp ht
      refine before hm hf hi (.inl ⟨fun e => ?_, z, hring ▸ List.mem_append_left _ hz, rfl, ?_⟩) hp
      · exact hapart _ ht _ (List.mem_cons_self ..) e
      · exact hprefall _ (List.mem_map_of_mem hz) _ (List.mem_cons_self ..)) start
  have hbehind : ∀ {v : State} {st' : Station} {z : Slot}, s.From v → z ∈ s.tracker.ring → z.offset < x.offset → st.rank ≤ st'.rank →
      v.arriveAt z.tag st' = v := fun {v st' z} hf hz hlt hr => hf.not_due fun w hw ht => .inl <| by
    rw [Slot.eq_of_tag h.apart.tags hw hz ht]
    exact Nat.lt_of_lt_of_le (ho ▸ hlt) (Geometry.station_le hg hr)
  have p2 : Q (((pre.map (·.tag)).foldl State.arriveAll s).arriveAll x.tag) := by
    have hlen : s.tracker.ring.length = pre.length + (post.length + 1) := by rw [hring, List.length_append, List.length_cons]
    have hstage := m1.arriveAll_steps (tag := x.tag)
      (P := fun r v => if r ≤ st.rank then P (2 * pre.length + offersBefore r) v else Q v) f1 hg
      (fun {v} st' hm hf hi hp => by
        rcases Nat.lt_trichotomy st'.rank st.rank with hlt | heq | hgt
        · rw [if_pos (Nat.le_of_lt hlt)] at hp
          rw [if_pos (Nat.succ_le_of_lt hlt), Station.offersBefore_succ, ← Nat.add_assoc]
          exact before hm hf hi (.inr ⟨rfl, hlt⟩) hp
        · obtain rfl : st' = st := Station.eq_of_rank heq
          rw [if_pos (Nat.le_refl _)] at hp
          rw [if_neg (Nat.not_succ_le_self _)]
          refine arrive hm hf hi ?_ hp
          have : offersBefore st'.rank + st'.offers ≤ 2 := by cases st' <;> decide
          omega
        · rw [if_neg (Nat.not_le.mpr hgt)] at hp
          rw [if_neg (by omega), hf.not_due fun w hw ht => .inl ?_]
          · exact hp
          · rw [Slot.eq_of_tag h.apart.tags hw hx ht, ho]
            exact Geometry.station_lt hg hgt) (by
        rw [if_pos (Nat.zero_le _)]
        rw [List.length_map, Nat.zero_add] at p1
        exact p1)
    rwa [if_neg (by cases st <;> decide)] at hstage
  rw [hsplit]
  refine ((m1.arriveAll (f1.geo ▸ hg) x.tag).foldl_steps (P := fun _ => Q) (k := 0) (f1.arriveAll m1.apart x.tag) hg
    (fun {v k tag} st' ht hm hf hi hp => ?_) p2).2.2
  obtain ⟨z, hz, rfl⟩ := List.mem_map.mp ht
  rcases Nat.lt_or_ge st'.rank st.rank with hlt | hge
  · exact after hm hf hi (fun e => hxpost (e ▸ ht)) hlt hp
  · rwa [hbehind hf (hring ▸ List.mem_append_right _ (List.mem_cons_of_mem _ hz)) (hxfall _ (List.mem_map_of_mem hz)) hge]

/-! ## At a lug pulse -/

theorem Slot.moved_offset (x : Slot) : x.moved.offset = x.offset + 1 := by
  unfold Slot.moved
  split
  · rw [Slot.fixKind_eq]
    rfl
  · rfl

/-- Past offset 1 a slot is only moved on. -/
theorem Slot.moved_of_pos {x : Slot} (h : x.offset ≠ 0) : x.moved = x.further := if_neg h

/-- The state whose slots are about to arrive, at a lug pulse in the capture region. -/
abbrev State.lugMoved (s : State) (i : Fin 8) : State := (s.lugTaken i).movedOn

theorem State.lugMoved_ring (hi : s.Inv) (i : Fin 8) : (s.lugMoved i).tracker.ring = s.tracker.ring.map Slot.moved :=
  State.movedOn_ring (s := s.lugTaken i) hi.ring

theorem State.lugMoved_geo (s : State) (i : Fin 8) : (s.lugMoved i).geo = s.geo := (s.lugTaken i).movedOn_geo

theorem State.Inv.lugMoved (hi : s.Inv) (i : Fin 8) : (s.lugMoved i).Moving := by
  obtain ⟨⟨h1, h2, h3, h4, h5, h6, h7, h8, h9⟩, -⟩ := s.inv_iff.mp hi
  exact State.InvButPos.movedOn (s := s.lugTaken i) ⟨h1, h2, h3, h4, h5, h6, h7, h8, h9⟩

/-- A slot that comes to a station at a lug pulse: what holds after its arrival holds once every slot has arrived. -/
theorem State.Inv.lugDue_around {P : Nat → State → Prop} {Q : State → Prop} {i : Fin 8} {x : Slot} {st : Station} (hi : s.Inv)
    (hx : x ∈ s.tracker.ring) (ho : x.offset + 1 = s.geo.station st) (start : P 0 (s.lugMoved i))
    (before : ∀ {v : State} {k tag : Nat} {st' : Station}, v.Moving → (s.lugMoved i).From v → v.inOrder tag st' →
      (s.lugMoved i).arrivesBefore x.moved st tag st' → P k v → P (k + st'.offers) (v.arriveAt tag st'))
    (arrive : ∀ {v : State} {k : Nat}, v.Moving → (s.lugMoved i).From v → v.inOrder x.tag st →
      k + st.offers ≤ 2 * s.tracker.ring.length → P k v → Q (v.arriveAt x.tag st))
    (after : ∀ {v : State} {tag : Nat} {st' : Station}, v.Moving → (s.lugMoved i).From v → v.inOrder tag st' → tag ≠ x.tag →
      st'.rank < st.rank → Q v → Q (v.arriveAt tag st')) : Q (s.lugTaken i).beforeCreate := by
  have hring := State.lugMoved_ring hi i
  have hfall : ((s.lugMoved i).tracker.ring.map (·.offset)).Pairwise (· > ·) := by
    obtain ⟨hfall, -⟩ := hi.ring
    rw [hring, List.map_map]
    rw [List.pairwise_map] at hfall ⊢
    exact hfall.imp fun h => by
      simp only [Function.comp, Slot.moved_offset]
      omega
  have hgeo := s.lugMoved_geo i
  obtain ⟨htag, -⟩ := x.moved_keeps
  refine (hi.lugMoved i).announced_around (P := P) (Q := Q) (st := st) (x := x.moved) (hgeo ▸ hi.geometry.1) hfall
    (hring ▸ List.mem_map_of_mem hx) (by rw [Slot.moved_offset, hgeo, ho]) start before (fun hm hf hin hk hp => ?_)
    fun hm hf hin hne => after hm hf hin (htag ▸ hne)
  rw [htag] at hin ⊢
  rw [hring, List.length_map] at hk
  exact arrive hm hf hin hk hp

end

end Sys2Proof.Machine


/-! PROOF. What one arrival leaves of the heads and of the other slots, and the scan closed at SD (R29 to R33; O31). -/

namespace Sys2Proof.Machine

-- One proof after the other: together they would ask for more threads than the check has memory for.
set_option Elab.async false

section
variable {s u : State} {tag : Nat} {st : Station}

/-! ## The scan intake -/

theorem State.trimPiece_scan (s : State) (tag : Nat) : (s.trimPiece tag).scan = s.scan := by
  have h : (s.endExchangeOf tag).scan = s.scan := by
    unfold State.endExchangeOf
    split <;> simp
  rw [State.trimPiece_eq]
  split
  · exact h
  · dsimp only
    split
    · rw [State.raise_scan]
      exact h
    · exact h

theorem State.exited_scan (s : State) (x : Slot) : (s.exited x).scan = s.scan := by
  unfold State.exited State.exitPiece
  split
  · split
    · exact State.enter_scan ..
    · rfl
  · rfl

/-- An arrival past SD leaves the scan intake. -/
theorem State.announce_scan (h : st ≠ .sd) (s : State) (x : Slot) : (s.announce st x).scan = s.scan := by
  cases st with
  | sd => exact absurd rfl h
  | gw =>
    obtain ⟨-, -, hscan, -⟩ := s.arriveGW_keeps x
    exact hscan
  | cm =>
    show (s.arriveCM x).scan = _
    unfold State.arriveCM
    rw [State.judge_scan]
    obtain ⟨-, -, hscan, -⟩ := (if x.kind == .board then (s.endSolving x).commitPiece x else s).closeWindow_keeps x
    rw [hscan]
    split
    · exact ((s.endSolving x).commitPiece_keeps x).2.2
    · rfl
  | tr =>
    show (s.arriveTR x).scan = _
    unfold State.arriveTR
    dsimp only
    split
    · exact State.trimPiece_scan _ _
    · rfl
  | ex =>
    show (s.arriveEX x).scan = _
    rw [State.arriveEX_eq, State.closeDrained_scan]
    exact s.exited_scan x

theorem State.arriveAt_scan (h : st ≠ .sd) (s : State) (tag : Nat) : (s.arriveAt tag st).scan = s.scan := by
  unfold State.arriveAt
  split
  · rfl
  · split
    · exact State.announce_scan h _ _
    · rfl

/-! ## The other slots -/

theorem List.mem_map_of_eq {α β : Type} {f : α → β} {l : List α} {a : α} {b : β} (h : a ∈ l) (e : f a = b) : b ∈ l.map f :=
  e ▸ List.mem_map_of_mem h

/-- The exchange that an arrival ends: none and the exchange as before, or the one in flight with only the arriving piece's to follow. -/
def State.exchangeEnds (u v : State) (tag : Nat) (ex : Option Exchange) : Prop :=
  (ex = none ∧ v.saw.exchange = u.saw.exchange) ∨ (ex = u.saw.exchange ∧ ∀ e ∈ v.saw.exchange, e.tag = tag)

theorem State.trimPiece_other {y : Slot} (hy : y ∈ s.tracker.ring) (hne : y.tag ≠ tag) :
    y.abandonedBy (s.exchangeOf tag) ∈ (s.trimPiece tag).tracker.ring := by
  obtain ⟨⟨missed, hring⟩, -⟩ := s.trimPiece_keeps tag
  rcases hring with hring | hring
  · rw [hring, changeSlot, List.map_map]
    refine List.mem_map_of_eq hy (if_neg ?_)
    rwa [Slot.abandonedBy_tag, beq_iff_eq]
  · rw [hring]
    exact List.mem_map_of_mem hy

/-- A slot other than the one that arrives keeps all but the result of an exchange of its own that the arrival ends (R112). -/
theorem State.Moving.arriveAt_other (h : u.Moving) (tag : Nat) (st : Station) :
    ∃ ex, u.exchangeEnds (u.arriveAt tag st) tag ex
      ∧ ∀ y ∈ u.tracker.ring, y.tag ≠ tag → y.abandonedBy ex ∈ (u.arriveAt tag st).tracker.ring := by
  by_cases hd : ∃ x, u.slot? tag = some x ∧ st ∉ x.passed ∧ u.geo.station st ≤ x.offset
  · obtain ⟨x, hx, hp, ho⟩ := hd
    obtain ⟨hm, htag⟩ := State.slot?_some hx
    have heq := State.arriveAt_of_due hx ho hp
    have plain : ∀ {g : Slot → Slot}, (u.arriveAt tag st).saw = u.saw →
        ((u.arriveAt tag st).tracker.ring = u.tracker.ring.map fun y => if y.tag == tag then g y else y) →
        ∃ ex, u.exchangeEnds (u.arriveAt tag st) tag ex
          ∧ ∀ y ∈ u.tracker.ring, y.tag ≠ tag → y.abandonedBy ex ∈ (u.arriveAt tag st).tracker.ring := by
      intro g hsaw hring
      refine ⟨none, .inl ⟨rfl, congrArg SawBus.exchange hsaw⟩, fun y hy hne => ?_⟩
      rw [hring]
      exact List.mem_map_of_eq hy (if_neg (mt beq_iff_eq.mp hne))
    cases st with
    | sd =>
      obtain ⟨-, -, hsaw, -⟩ := (u.updateSlot tag (Slot.pass .sd)).arriveSD_keeps (x.pass .sd)
      exact plain ((congrArg State.saw heq).trans hsaw) (State.arriveAt_sd_ring hx hp ho)
    | gw =>
      obtain ⟨-, hsaw, -⟩ := (u.updateSlot tag (Slot.pass .gw)).arriveGW_keeps (x.pass .gw)
      exact plain ((congrArg State.saw heq).trans hsaw) (State.arriveAt_gw_ring hx hp ho)
    | cm =>
      by_cases hk : x.kind = .board
      · refine ⟨u.saw.exchange, .inr ⟨rfl, fun e he => ?_⟩, fun y hy hne => ?_⟩
        · rw [heq] at he
          exact (((u.updateSlot tag (Slot.pass .cm)).arriveCM_exchange (x.pass .cm)).1 hk e he).trans htag
        · rw [State.arriveAt_cm_ring hx hp ho hk]
          exact List.mem_map_of_eq hy (if_neg hne)
      · exact plain ((congrArg State.saw heq).trans
          (((u.updateSlot tag (Slot.pass .cm)).arriveCM_exchange (x.pass .cm)).2 hk)) (State.arriveAt_cm_ring_of_not_board hx hp ho hk)
    | tr =>
      have hann : u.arriveAt tag .tr =
          if x.kind = .board then ((u.updateSlot tag (Slot.pass .tr)).pulse .fire).trimPiece tag
          else (u.updateSlot tag (Slot.pass .tr)).pulse .fire := by
        rw [heq, ← htag]
        exact if_congr beq_iff_eq rfl rfl
      by_cases hk : x.kind = .board
      · rw [if_pos hk] at hann
        obtain ⟨-, hsaw, -⟩ := ((u.updateSlot tag (Slot.pass .tr)).pulse .fire).trimPiece_keeps tag
        have hexch : (u.arriveAt tag .tr).saw.exchange =
            if u.saw.exchange.map (·.tag) = some tag then none else u.saw.exchange := by
          rw [hann]
          exact congrArg SawBus.exchange hsaw
        refine ⟨u.exchangeOf tag, ?_, fun y hy hne => ?_⟩
        · unfold State.exchangeOf
          by_cases he : u.saw.exchange.map (·.tag) = some tag
          · rw [if_pos he] at hexch ⊢
            exact .inr ⟨rfl, fun e hm => by rw [hexch] at hm; cases hm⟩
          · rw [if_neg he] at hexch ⊢
            exact .inl ⟨rfl, hexch⟩
        · rw [hann]
          exact State.trimPiece_other (s := (u.updateSlot tag (Slot.pass .tr)).pulse .fire)
            (List.mem_map_of_eq hy (if_neg (mt beq_iff_eq.mp hne))) hne
      · rw [if_neg hk] at hann
        exact plain (g := Slot.pass .tr) ((congrArg State.saw hann).trans rfl)
          ((congrArg (fun v : State => v.tracker.ring) hann).trans rfl)
    | ex =>
      obtain ⟨-, hsaw, -⟩ := State.arriveAt_ex_keeps hx hp ho
      refine ⟨none, .inl ⟨rfl, congrArg SawBus.exchange hsaw⟩, fun y hy hne => ?_⟩
      rw [State.arriveAt_ex_ring h.apart.tags h.apart.inLine]
      exact List.mem_filter.mpr ⟨hy, by simp [hne]⟩
  · rw [State.arriveAt_of_not_due fun x hx hp => Nat.lt_of_not_le fun ho => hd ⟨x, hx, hp, ho⟩]
    exact ⟨none, .inl ⟨rfl, rfl⟩, fun y hy _ => hy⟩

theorem Slot.abandonedBy_rest (ex : Option Exchange) (y : Slot) :
    y.abandonedBy ex = { y with commit := (y.abandonedBy ex).commit } := by
  obtain ⟨f, hf⟩ := y.abandonedBy_eq ex
  rw [hf]
  rfl

/-- The slot `x` is in the ring, as it was but for its commit record. -/
def State.keepsSlot (v : State) (x : Slot) : Prop := ∃ y ∈ v.tracker.ring, y = { x with commit := y.commit }

theorem State.keepsSlot.arriveAt {x : Slot} (hk : u.keepsSlot x) (h : u.Moving) (hne : tag ≠ x.tag) (st : Station) :
    (u.arriveAt tag st).keepsSlot x := by
  obtain ⟨y, hy, e⟩ := hk
  obtain ⟨ex, -, hother⟩ := h.arriveAt_other tag st
  have hyt : y.tag ≠ tag := (congrArg Slot.tag e).trans_ne hne.symm
  exact ⟨_, hother y hy hyt, (y.abandonedBy_rest ex).trans (congrArg (fun z : Slot => { z with commit := (y.abandonedBy ex).commit }) e)⟩

/-! ## SD -/

/-- A slot as its scan is closed at SD (R30, R32, R33). -/
theorem Slot.atSD_scan (x : Slot) :
    x.atSD.scan.deadlinePassed = true ∧ x.atSD.scan.cells = x.scan.cells ∧ x.atSD.scan.expected = x.scan.expected
      ∧ x.atSD.scan.last = x.scan.last ∧ x.atSD.kind = x.kind
      ∧ (x.scan.status = .open →
          x.atSD.scan.status = .closedPartial ∧ x.atSD.scan.scanPartial = true ∧ extentIs x.atSD.scan.cells x.atSD.scan.extent
            ∧ (x.kind = .board → x.scan.handedOver = false → x.atSD.solve = some SolveRecord.new))
      ∧ (x.scan.status ≠ .open →
          (x.atSD.scan.status, x.atSD.scan.scanPartial, x.atSD.scan.extent) =
            (x.scan.status, x.scan.scanPartial, x.scan.extent)) := by
  rw [Slot.atSD_eq]
  unfold Slot.deadline
  dsimp only
  by_cases ho : x.scan.status = .open
  · rw [if_pos (beq_iff_eq.mpr ho), Slot.closeScan_eq _ (by decide)]
    exact ⟨rfl, rfl, rfl, rfl, rfl, fun _ => ⟨rfl, Bool.or_true _, extentOf_is _, fun hb hh => if_pos ⟨hb, hh⟩⟩, fun h => absurd ho h⟩
  · rw [if_neg (mt beq_iff_eq.mp ho)]
    exact ⟨rfl, rfl, rfl, rfl, rfl, fun h => absurd h ho, fun _ => rfl⟩

/-- A head after the misses of an arrival at SD (R31). -/
theorem missHeads_afterDeadline (r : ScanRecord) (heads : Bank 4 Head) (h : Fin 4) :
    Head.afterDeadline r h (heads.get h) ((missHeads r heads).get h) := by
  have hget : (missHeads r heads).get h =
      if r.expected.get h && !r.last.get h && (heads.get h).status != .disabled then (heads.get h).miss else heads.get h :=
    Bank.get_ofFn _ h
  unfold Head.afterDeadline
  rw [hget]
  refine if_congr (by simp [and_assoc]) ?_ rfl
  unfold Head.miss
  have hthird : 3 ≤ min ((heads.get h).misses + 1) 255 ↔ 2 ≤ (heads.get h).misses := by omega
  simp only [Bool.and_eq_true, beq_iff_eq, decide_eq_true_eq, hthird]

/-- The heads after an arrival at SD, and the cause where one goes DOWN. -/
theorem State.arriveSD_heads (s : State) (x : Slot) :
    (s.arriveSD x).scan.heads = missHeads x.scan s.scan.heads
      ∧ ((∃ h : Fin 4, (s.scan.heads.get h).status = .up ∧ ((s.arriveSD x).scan.heads.get h).status = .down) →
          (s.arriveSD x).isPending .headDown = true) := by
  obtain ⟨-, -, -, hheads⟩ := s.arriveSD_keeps x
  refine ⟨hheads, fun ⟨h, hup, hdown⟩ => ?_⟩
  rw [hheads] at hdown
  have hany : ((List.finRange 4).any fun h =>
      (s.scan.heads.get h).status == .up && ((missHeads x.scan s.scan.heads).get h).status == .down) = true :=
    List.any_eq_true.mpr ⟨h, List.mem_finRange h, by rw [hup, hdown]; rfl⟩
  unfold State.arriveSD
  dsimp only
  rw [if_pos hany]
  exact (State.raise_isPending _ _).1

/-- The scan of a slot that is moved on, but for what goes with its kind. -/
theorem Slot.moved_scan (x : Slot) :
    x.moved.scan = { x.scan with noProfile := x.moved.scan.noProfile, handedOver := x.moved.scan.handedOver } := by
  unfold Slot.moved
  split
  · rw [Slot.fixKind_eq]
    rfl
  · rfl

/-- The heads while the ring moves on. -/
theorem State.movedOn_scan (s : State) : s.movedOn.scan = s.scan := by
  unfold State.movedOn State.fixKind
  dsimp only
  split
  · split
    · exact State.enter_scan ..
    · exact State.closeDrained_scan ..
  · rfl

/-- What a slot's arrival at SD leaves of it and of the heads (R30, R31). -/
def State.deadlineMet (s v : State) (x : Slot) : Prop :=
  (∃ y ∈ v.tracker.ring, y.tag = x.tag ∧ ∃ z : Slot, y = z.atSD ∧ z = { x.moved with commit := z.commit } ∧ z.scan.handedOver = z.solve.isSome
      ∧ (z.solve.isSome → z.scan.status ≠ .open))
    ∧ v.scan.heads = missHeads x.moved.scan s.scan.heads
    ∧ ((∃ h : Fin 4, (s.scan.heads.get h).status = .up ∧ (v.scan.heads.get h).status = .down) → v.isPending .headDown = true)

/-- A slot that comes to SD at a lug pulse, those ahead of it past SD. -/
theorem State.Inv.deadlineMet {i : Fin 8} {x : Slot} (hi : s.Inv) (hx : x ∈ s.tracker.ring) (ho : x.offset + 1 = s.geo.sd)
    (hp : Station.sd ∉ x.passed) (hahead : ∀ z ∈ s.tracker.ring, x.offset < z.offset → Station.sd ∈ z.passed) :
    s.deadlineMet (s.lugTaken i).beforeCreate x := by
  have hring := State.lugMoved_ring hi i
  obtain ⟨htag, -, -, hpassed, -⟩ := x.moved_keeps
  refine hi.lugDue_around (i := i) (x := x) (st := .sd)
    (P := fun _ v => v.keepsSlot x.moved ∧ v.scan.heads = s.scan.heads) (Q := fun v => s.deadlineMet v x) hx ho ?_ ?_ ?_ ?_
  · exact ⟨⟨x.moved, hring ▸ List.mem_map_of_mem hx, rfl⟩, congrArg ScanIntake.heads (State.movedOn_scan (s.lugTaken i))⟩
  · intro v k tag st' hm hf _ hb ⟨hkeep, hheads⟩
    rcases hb with ⟨hne, z, hz, rfl, hlt⟩ | ⟨-, hlt⟩
    · by_cases hst : st' = .sd
      · subst hst
        rw [hring] at hz
        obtain ⟨w, hw, rfl⟩ := List.mem_map.mp hz
        obtain ⟨-, -, -, hwp, -⟩ := w.moved_keeps
        rw [hf.not_due fun z hz ht => .inr ?_]
        · exact ⟨hkeep, hheads⟩
        · rw [Slot.eq_of_tag (hi.lugMoved i).apart.tags hz (hring ▸ List.mem_map_of_mem hw) ht, hwp]
          rw [Slot.moved_offset, Slot.moved_offset] at hlt
          exact hahead w hw (Nat.lt_of_succ_lt_succ hlt)
      · exact ⟨hkeep.arriveAt hm hne st', (congrArg ScanIntake.heads (State.arriveAt_scan hst v z.tag)).trans hheads⟩
    · exact absurd hlt (Nat.not_lt_zero _)
  · intro v k hm hf _ _ ⟨⟨y, hy, hyx⟩, hheads⟩
    have hyt : y.tag = x.tag := (congrArg Slot.tag hyx).trans htag
    have hys : y.scan = x.moved.scan := (congrArg Slot.scan hyx :)
    have hslot := hyt ▸ State.slot?_of_mem hm.apart.tags hy
    have hyp : Station.sd ∉ y.passed := by
      rw [show y.passed = x.moved.passed from (congrArg Slot.passed hyx :), hpassed]
      exact hp
    have hyo : v.geo.station .sd ≤ y.offset := by
      rw [hf.geo, s.lugMoved_geo i, show y.offset = x.moved.offset from (congrArg Slot.offset hyx :), Slot.moved_offset]
      exact Nat.le_of_eq ho.symm
    have hsound := hm.sound hy
    obtain ⟨h1, h2⟩ := (v.updateSlot x.tag (Slot.pass .sd)).arriveSD_heads (y.pass .sd)
    have heq := State.arriveAt_of_due hslot hyo hyp
    refine ⟨⟨y.atSD, ?_, ?_, y, rfl, hyx, hsound.handedOver, fun hs => (hsound.solve.mp hs).2⟩, ?_, ?_⟩
    · rw [State.arriveAt_sd_ring hslot hyp hyo]
      exact List.mem_map_of_eq hy (if_pos (beq_iff_eq.mpr hyt))
    · rw [Slot.atSD_eq]
      exact y.deadline_tag.trans hyt
    · rw [heq, ← hheads, ← hys]
      exact h1
    · rw [heq, ← hheads]
      exact h2
  · intro v tag st' _ _ _ _ hlt
    exact absurd hlt (Nat.not_lt_zero _)

end

/-- Settles O31: the merge of a LAST segment, and the slot's own arrival at SD among those of the advance. -/
theorem lastSegmentClosesTheScan : Obligations.LastSegmentClosesTheScan := by
  refine ⟨fun h payload g x s hi hl hd hg hlast hx hnot ho hdl => ?_, fun i left x s hi hdue hx ho hp hahead => ?_⟩
  · obtain ⟨t, he, hring, hscan, hrest⟩ := lastSegment_closes hi hl hd hg hlast hx hnot ho hdl
    obtain ⟨hm, -⟩ := State.slot?_some hx
    obtain ⟨h1, h2, h3, h4, h5, h6, h7, h8⟩ :=
      Slot.mergeSegment_last ((s.slotsKept_iff.mp hi.slots).1 x hm) ho (s.tables.heads.get h) h hlast
    refine ⟨t, _, he, hring, h1, hscan, hrest, ?_, h3, h4, h5, h6, h7, h8⟩
    rw [h2]
    exact mergeEntries_merges _ g _
  · obtain ⟨⟨y, hy, hyt, z, rfl, hzx, hhand, hclosed⟩, hheads, hdown⟩ := hi.deadlineMet (i := i) hx ho hp hahead
    obtain ⟨a1, a2, a3, a4, a5, a6, a7⟩ := z.atSD_scan
    have hzs : z.scan = { x.scan with noProfile := x.moved.scan.noProfile, handedOver := x.moved.scan.handedOver } :=
      (congrArg Slot.scan hzx).trans x.moved_scan
    have hopen : z.scan.status = x.scan.status := (congrArg ScanRecord.status hzs :)
    refine ⟨_, z.atSD, exec_lugDue hdue, List.mem_append_left _ hy, hyt, a1, a2.trans (congrArg ScanRecord.cells hzs :),
      a3.trans (congrArg ScanRecord.expected hzs :), a4.trans (congrArg ScanRecord.last hzs :), fun hop => ?_, fun hne => ?_,
      fun h => ?_, hdown⟩
    · obtain ⟨b1, b2, b3, b4⟩ := a6 (hopen.trans hop)
      refine ⟨b1, b2, b3, fun hb => b4 (a5.symm.trans hb) ?_⟩
      rw [hhand]
      exact Bool.eq_false_iff.mpr fun hs => hclosed hs (hopen.trans hop)
    · refine (a7 (hopen.trans_ne hne)).trans ?_
      rw [hzs]
    · have := missHeads_afterDeadline x.moved.scan s.scan.heads h
      rw [← hheads] at this
      unfold Head.afterDeadline at this ⊢
      rw [x.moved_scan] at this
      exact this

end Sys2Proof.Machine


/-! PROOF. The consoles' queues through the arrivals, and the offer at GW (R80, R82 to R84; the last part of O40). -/

namespace Sys2Proof.Machine

-- One proof after the other: together they would ask for more threads than the check has memory for.
set_option Elab.async false

section
variable {s u : State} {tag : Nat} {st : Station}

/-! ## One console told of one piece -/

/-- A console that at most `n` frames on the piece with this tag have joined: nothing else joined, and no WITHDRAW left. -/
structure Console.Told (tag n : Nat) (c c' : Console) : Prop where
  subscribed : c'.subscribed = c.subscribed
  waiting : c'.offersWaiting ≤ c.offersWaiting + n
  frames : ∀ f ∈ c'.queue, f ∈ c.queue ∨ ∀ t, t ≠ tag → f.isProposalFor t = false
  withdraws : ∀ (t : Nat) (f : Frame), ConsoleFrame.withdraw t f ∈ c.queue → ConsoleFrame.withdraw t f ∈ c'.queue

namespace Console.Told

theorem refl (tag n : Nat) (c : Console) : Console.Told tag n c c :=
  ⟨rfl, Nat.le_add_right .., fun _ => .inl, fun _ _ => id⟩

/-- A frame on the piece that would join the tail. -/
theorem joinOffer (c : Console) {f : ConsoleFrame} (ho : f.isOffer = true) (hf : ∀ t, t ≠ tag → f.isProposalFor t = false) :
    Console.Told tag 1 c (c.joinOffer f) := by
  unfold Console.joinOffer
  split
  · refine ⟨rfl, ?_, fun g hg => ?_, fun t g hg => List.mem_append_left _ hg⟩
    · unfold Console.offersWaiting
      rw [List.countP_append, List.countP_singleton, if_pos ho]
    · rcases List.mem_append.mp hg with hg | hg
      · exact .inl hg
      · rw [List.mem_singleton.mp hg]
        exact .inr hf
  · exact ⟨rfl, Nat.le_succ _, fun g => .inl, fun t g => id⟩

theorem propose (c : Console) (tag : Nat) (f : Frame) : Console.Told tag 1 c (c.propose tag f) := by
  have hprop : ∀ t, t ≠ tag → (ConsoleFrame.proposal tag f).isProposalFor t = false := fun t ht => beq_false_of_ne ht.symm
  by_cases hq : c.queue.any (·.isProposalFor tag) = true
  · rw [Console.propose_of_queued hq]
    refine ⟨rfl, ?_, fun g hg => ?_, fun t g hg => List.mem_map_of_eq hg rfl⟩
    · rw [Console.offersWaiting_giveWay]
      exact Nat.le_succ _
    · obtain ⟨g', hg', rfl⟩ := List.mem_map.mp hg
      unfold ConsoleFrame.giveWay
      split
      · exact .inr hprop
      · exact .inl hg'
  · have : c.propose tag f = c.joinOffer (.proposal tag f) := if_neg hq
    rw [this]
    exact joinOffer c rfl hprop

theorem withdraw (c : Console) (tag : Nat) (f : Frame) : Console.Told tag 1 c (c.withdraw tag f) := by
  obtain ⟨h1, h2, h3, h4⟩ := joinOffer (tag := tag) ({ c with queue := c.queue.filter fun g => !g.isProposalFor tag } : Console)
    (f := .withdraw tag f) rfl (fun _ _ => rfl)
  refine ⟨h1, Nat.le_trans h2 (Nat.add_le_add_right (List.Sublist.countP_le List.filter_sublist) 1), fun g hg => ?_, fun t g hg => ?_⟩
  · exact (h3 g hg).imp_left fun hg => (List.mem_filter.mp hg).1
  · exact h4 t g (List.mem_filter.mpr ⟨hg, rfl⟩)

theorem offerSlot (c : Console) (x : Slot) : Console.Told x.tag 1 c (c.offerSlot x) := by
  unfold Console.offerSlot
  split
  · exact propose c x.tag _
  · exact refl _ _ c

end Console.Told

/-! ## The consoles at one arrival -/

theorem State.arriveAt_sd_consoles (u : State) (tag : Nat) : (u.arriveAt tag .sd).consoles = u.consoles := by
  unfold State.arriveAt
  split
  · rfl
  · split
    · exact ((u.updateSlot tag _).arriveSD_keeps _).2.1
    · rfl

/-- The consoles subscribed are offered a BOARD piece at GW (R83). -/
theorem State.arriveAt_gw_consoles {x : Slot} (hx : u.slot? tag = some x) (ho : u.geo.station .gw ≤ x.offset)
    (hp : Station.gw ∉ x.passed) :
    (u.arriveAt tag .gw).consoles =
      if x.kind = .board then u.consoles.map fun c => if c.subscribed then c.offerSlot (x.pass .gw) else c else u.consoles := by
  rw [State.arriveAt_of_due hx ho hp]
  exact ((u.updateSlot tag (Slot.pass .gw)).arriveGW_keeps (x.pass .gw)).2.2.2.2

/-- A BOARD piece is withdrawn at the consoles subscribed at CM (R84). -/
theorem State.arriveAt_cm_consoles {x : Slot} (hx : u.slot? tag = some x) (ho : u.geo.station .cm ≤ x.offset)
    (hp : Station.cm ∉ x.passed) :
    (u.arriveAt tag .cm).consoles =
      if x.kind = .board then u.consoles.map fun c => if c.subscribed then c.withdraw tag (withdrawFrame tag .commit) else c
      else u.consoles := by
  obtain ⟨-, htag⟩ := State.slot?_some hx
  have hbefore : (if (x.pass .cm).kind == .board then
      ((u.updateSlot tag (Slot.pass .cm)).endSolving (x.pass .cm)).commitPiece (x.pass .cm)
      else u.updateSlot tag (Slot.pass .cm)).consoles = u.consoles := by
    split
    · exact (((u.updateSlot tag (Slot.pass .cm)).endSolving (x.pass .cm)).commitPiece_keeps (x.pass .cm)).2.1
    · rfl
  rw [State.arriveAt_of_due hx ho hp]
  show (State.arriveCM _ (x.pass .cm)).consoles = _
  unfold State.arriveCM
  rw [State.judge_consoles]
  refine (State.closeWindow_keeps _ (x.pass .cm)).2.2.2.2.trans ?_
  rw [hbefore, Slot.pass_tag, htag]
  rfl

/-- At one arrival each console is told of the arriving piece alone. -/
theorem State.arriveAt_told (u : State) (tag : Nat) (st : Station) (n : Fin 4) :
    Console.Told tag st.offers (u.consoles.get n) ((u.arriveAt tag st).consoles.get n) := by
  by_cases hd : ∃ x, u.slot? tag = some x ∧ st ∉ x.passed ∧ u.geo.station st ≤ x.offset
  · obtain ⟨x, hx, hp, ho⟩ := hd
    obtain ⟨-, htag⟩ := State.slot?_some hx
    cases st with
    | sd =>
      rw [State.arriveAt_sd_consoles]
      exact .refl _ _ _
    | gw =>
      rw [State.arriveAt_gw_consoles hx ho hp]
      split
      · rw [Bank.get_map]
        split
        · exact htag ▸ Console.Told.offerSlot _ (x.pass .gw)
        · exact .refl _ _ _
      · exact .refl _ _ _
    | cm =>
      rw [State.arriveAt_cm_consoles hx ho hp]
      split
      · rw [Bank.get_map]
        split
        · exact .withdraw _ _ _
        · exact .refl _ _ _
      · exact .refl _ _ _
    | tr =>
      obtain ⟨-, -, hcon, -⟩ := State.arriveAt_tr_keeps hx hp ho
      rw [hcon]
      exact .refl _ _ _
    | ex =>
      obtain ⟨-, -, hcon⟩ := State.arriveAt_ex_keeps hx hp ho
      rw [hcon]
      exact .refl _ _ _
  · rw [State.arriveAt_of_not_due fun x hx hp => Nat.lt_of_not_le fun ho => hd ⟨x, hx, hp, ho⟩]
    exact .refl _ _ _

/-- After arrivals that may have put `k` frames on its queue, each console is subscribed as before and has so many more waiting. -/
def State.offersWithin (s : State) (k : Nat) (v : State) : Prop :=
  ∀ n : Fin 4, (v.consoles.get n).subscribed = (s.consoles.get n).subscribed
    ∧ (v.consoles.get n).offersWaiting ≤ (s.consoles.get n).offersWaiting + k

theorem State.offersWithin.arriveAt {k : Nat} (h : s.offersWithin k u) (tag : Nat) (st : Station) :
    s.offersWithin (k + st.offers) (u.arriveAt tag st) := fun n => by
  obtain ⟨h1, h2⟩ := h n
  obtain ⟨t1, t2, -⟩ := u.arriveAt_told tag st n
  exact ⟨t1.trans h1, by omega⟩

/-! ## GW -/

/-- A PROPOSAL made where there is room waits, and no other for its tag (R80). -/
theorem Console.propose_only {c : Console} (h : c.offersWaiting < 32) (tag : Nat) (f : Frame) :
    .proposal tag f ∈ (c.propose tag f).queue
      ∧ ∀ g ∈ (c.propose tag f).queue, g.isProposalFor tag = true → g = .proposal tag f := by
  cases hq : c.queue.any (·.isProposalFor tag) with
  | true =>
    rw [Console.propose_of_queued hq]
    obtain ⟨g, hg, hgt⟩ := List.any_eq_true.mp hq
    refine ⟨List.mem_map_of_eq hg (if_pos hgt), fun g' hg' ht => ?_⟩
    obtain ⟨g, -, rfl⟩ := List.mem_map.mp hg'
    rw [ConsoleFrame.isProposalFor_giveWay] at ht
    exact if_pos ht
  | false =>
    rw [Console.propose_of_not_queued hq h]
    refine ⟨List.mem_append_right _ (List.mem_singleton_self _), fun g hg ht => ?_⟩
    rcases List.mem_append.mp hg with hg | hg
    · exact absurd ht (List.any_eq_false.mp hq g hg)
    · exact List.mem_singleton.mp hg

/-- The piece `x` on its way to GW: what its offer there is made of. -/
def State.offerable (v : State) (x : Slot) : Prop :=
  ∃ y ∈ v.tracker.ring, y.tag = x.tag ∧ y.kind = x.kind ∧ y.offset = x.offset + 1 ∧ Station.gw ∉ y.passed ∧ y.console = x.console
    ∧ ∀ sol, x.solution = some sol → y.solution = some sol ∧ proposalFrame y sol = proposalFrame x sol

theorem State.offerable.arriveAt_other {x : Slot} (h : u.offerable x) (hm : u.Moving) (hne : tag ≠ x.tag) (st : Station) :
    (u.arriveAt tag st).offerable x := by
  obtain ⟨y, hy, hyt, hrest⟩ := h
  obtain ⟨ex, -, hother⟩ := hm.arriveAt_other tag st
  refine ⟨_, hother y hy (hyt.trans_ne hne.symm), ?_⟩
  rw [y.abandonedBy_rest ex]
  exact ⟨hyt, hrest⟩

/-- An arrival at SD changes a slot's scan record and may hand it over; a closed scan only has its deadline passed (R30). -/
theorem Slot.atSD_rest (y : Slot) :
    y.atSD = { y.pass .sd with scan := y.atSD.scan, solve := y.atSD.solve }
      ∧ (y.scan.status ≠ .open → y.atSD.solve = y.solve ∧ y.atSD.scan = { y.scan with deadlinePassed := true }) := by
  rw [Slot.atSD_eq]
  unfold Slot.deadline
  dsimp only
  by_cases ho : y.scan.status = .open
  · rw [if_pos (beq_iff_eq.mpr ho), Slot.closeScan_eq _ (by decide)]
    exact ⟨rfl, fun h => absurd ho h⟩
  · rw [if_neg (mt beq_iff_eq.mp ho)]
    exact ⟨rfl, fun _ => ⟨rfl, rfl⟩⟩

/-- A sound slot with a solution has its scan closed. -/
theorem Slot.Sound.closed_of_solution {e : Option Nat} {x : Slot} (h : x.Sound e) {sol : Solution} (hs : x.solution = some sol) :
    x.scan.status ≠ .open := by
  refine (h.solve.mp ?_).2
  cases hr : x.solve with
  | none => rw [Slot.solution, hr] at hs; cases hs
  | some r => rfl

theorem State.offerable.arriveAt_sd {x : Slot} (h : u.offerable x) (hm : u.Moving) : (u.arriveAt x.tag .sd).offerable x := by
  obtain ⟨y, hy, hyt, hk, hof, hp, hcon, hsol⟩ := h
  have hslot := hyt ▸ State.slot?_of_mem hm.apart.tags hy
  by_cases hd : Station.sd ∉ y.passed ∧ u.geo.station .sd ≤ y.offset
  · obtain ⟨hp', ho⟩ := hd
    obtain ⟨hrest, hclosed⟩ := y.atSD_rest
    refine ⟨y.atSD, ?_, ?_⟩
    · rw [State.arriveAt_sd_ring hslot hp' ho]
      exact List.mem_map_of_eq hy (if_pos (beq_iff_eq.mpr hyt))
    · refine ⟨(congrArg Slot.tag hrest :).trans hyt, (congrArg Slot.kind hrest :).trans hk, (congrArg Slot.offset hrest :).trans hof,
        ?_, (congrArg Slot.console hrest :).trans hcon, fun sol hs => ?_⟩
      · rw [show y.atSD.passed = y.passed ++ [.sd] from (congrArg Slot.passed hrest :)]
        simpa using hp
      · obtain ⟨h1, h2⟩ := hsol sol hs
        obtain ⟨hso, hsc⟩ := hclosed ((hm.sound hy).closed_of_solution h1)
        rw [← h1, ← h2, hrest, hso, hsc]
        exact ⟨rfl, rfl⟩
  · rw [State.arriveAt_of_not_due fun z hz hzp => Nat.lt_of_not_le fun ho => ?_]
    · exact ⟨y, hy, hyt, hk, hof, hp, hcon, hsol⟩
    · obtain rfl := Option.some.inj (hslot.symm.trans hz)
      exact hd ⟨hzp, ho⟩

/-- The piece `x` offered: its window OPEN, and its PROPOSAL alone for its tag at each console subscribed that had room. -/
def State.offeredAtGate (s v : State) (x : Slot) : Prop :=
  (∃ y ∈ v.tracker.ring, y.tag = x.tag ∧ y.console = { x.console with window := .open })
    ∧ ∀ (n : Fin 4) (sol : Solution), x.solution = some sol → (s.consoles.get n).subscribed = true →
        (s.consoles.get n).offersWaiting + 2 * s.tracker.ring.length ≤ 32 →
        .proposal x.tag (proposalFrame x sol) ∈ (v.consoles.get n).queue
          ∧ ∀ f ∈ (v.consoles.get n).queue, f.isProposalFor x.tag = true → f = .proposal x.tag (proposalFrame x sol)

/-- A BOARD piece that comes to GW at a lug pulse is offered. -/
theorem State.Inv.offeredAtGate {i : Fin 8} {x : Slot} (hi : s.Inv) (hx : x ∈ s.tracker.ring) (hk : x.kind = .board)
    (ho : x.offset + 1 = s.geo.gw) (hp : Station.gw ∉ x.passed) : s.offeredAtGate (s.lugTaken i).beforeCreate x := by
  have hring := State.lugMoved_ring hi i
  obtain ⟨-, hall, -⟩ := hi.ring
  have hx0 : x.offset ≠ 0 := fun h0 => absurd (hk.symm.trans ((hall x hx).2.2.mpr h0)) nofun
  refine hi.lugDue_around (i := i) (x := x) (st := .gw) (P := fun k v => v.offerable x ∧ s.offersWithin k v)
    (Q := fun v => s.offeredAtGate v x) hx ho ?_ ?_ ?_ ?_
  · refine ⟨⟨x.further, ?_, rfl, rfl, rfl, hp, rfl, fun sol h => ⟨h, rfl⟩⟩, fun n => ?_⟩
    · rw [hring, ← Slot.moved_of_pos hx0]
      exact List.mem_map_of_mem hx
    · have hcon : (s.lugMoved i).consoles = s.consoles := (s.lugTaken i).movedOn_keeps.2.2
      rw [hcon]
      exact ⟨rfl, Nat.le_refl _⟩
  · intro v k tag st' hm _ _ hb ⟨hoff, hwithin⟩
    refine ⟨?_, hwithin.arriveAt tag st'⟩
    rcases hb with ⟨hne, -⟩ | ⟨rfl, hlt⟩
    · exact hoff.arriveAt_other hm (fun e => hne (e.trans x.moved_keeps.1.symm)) st'
    · obtain rfl : st' = .sd := Station.eq_of_rank (Nat.lt_one_iff.mp hlt)
      rw [x.moved_keeps.1]
      exact hoff.arriveAt_sd hm
  · intro v k hm hf _ hk2 ⟨⟨y, hy, hyt, hyk, hyo, hyp, hcon, hsol⟩, hwithin⟩
    have hslot := hyt ▸ State.slot?_of_mem hm.apart.tags hy
    have hyo' : v.geo.station .gw ≤ y.offset := by
      rw [hf.geo, s.lugMoved_geo i, hyo]
      exact Nat.le_of_eq ho.symm
    refine ⟨⟨y.atGW, ?_, hyt, congrArg (fun c : ConsoleRecord => { c with window := .open }) hcon⟩, fun n sol hs hsub hroom => ?_⟩
    · rw [State.arriveAt_gw_ring hslot hyp hyo']
      exact List.mem_map_of_eq hy (if_pos (beq_iff_eq.mpr hyt))
    · obtain ⟨hsol, hframe⟩ := hsol sol hs
      obtain ⟨hsub', hwait⟩ := hwithin n
      have hslots : (y.pass .gw).solution = some sol := hsol
      rw [State.arriveAt_gw_consoles hslot hyo' hyp, if_pos (hyk.trans hk), Bank.get_map, if_pos (hsub'.trans hsub),
        Console.offerSlot_of_some hslots, ← hframe, ← hyt]
      refine Console.propose_only ?_ _ _
      have : Station.gw.offers = 1 := rfl
      omega
  · intro v tag st' hm _ _ hne hlt ⟨⟨y, hy, hyt, hcon⟩, hoff⟩
    obtain rfl : st' = .sd := Station.eq_of_rank (Nat.lt_one_iff.mp hlt)
    obtain ⟨ex, -, hother⟩ := hm.arriveAt_other tag .sd
    refine ⟨⟨_, hother y hy (hyt.trans_ne hne.symm), ?_⟩, ?_⟩
    · rw [y.abandonedBy_rest ex]
      exact ⟨hyt, hcon⟩
    · rw [State.arriveAt_sd_consoles]
      exact hoff

end

/-- Settles O40: what a request does to its console, and the offer at GW among the arrivals of the advance. -/
theorem subscriptionsOfferAndWithdraw : Obligations.SubscriptionsOfferAndWithdraw := by
  refine ⟨fun c ft s h => ⟨subscribe_answers h ft, fun hi hroom => subscribe_offers h hi hroom ft, unsubscribe_removes h ft⟩,
    fun i left x s hi hdue hx hk ho hp => ?_⟩
  obtain ⟨⟨y, hy, hyt, hcon⟩, hoff⟩ := hi.offeredAtGate (i := i) hx hk ho hp
  exact ⟨_, y, exec_lugDue hdue, List.mem_append_left _ hy, hyt, hcon, hoff⟩

end Sys2Proof.Machine


/-! PROOF. The pulses and the saw bus through the arrivals, and the trim station (R106, R112, R113; O39). -/

namespace Sys2Proof.Machine

-- One proof after the other: together they would ask for more threads than the check has memory for.
set_option Elab.async false

section
variable {s t u : State} {tag : Nat} {st : Station}

/-! ## The pulse timers -/

/-- Every pulse timer is as before. -/
def State.SamePulses (s t : State) : Prop := ∀ o : Fin 8, (t.field.outputs.get o).pulse = (s.field.outputs.get o).pulse

namespace State.SamePulses

theorem of_field (h : t.field = s.field) : s.SamePulses t := fun _ => by rw [h]

theorem trans (h : s.SamePulses u) (k : u.SamePulses t) : s.SamePulses t := fun o => (k o).trans (h o)

theorem judge (s : State) : s.SamePulses s.judge := fun o => (s.judge_keepsOutput o).2.1

theorem report (s : State) (k : Byte) (p : List Byte) : s.SamePulses (s.report k p) :=
  .trans (u := s.setCtl (·.report k p)) (of_field rfl) (judge _)

theorem raise (s : State) (x : Cause) : s.SamePulses (s.raise x) := by
  unfold State.raise
  split
  · exact of_field rfl
  · exact fun o => judge _ o

theorem enter (s : State) (seq : Nat) (l : List (Counter × Nat)) : s.SamePulses (s.enter seq l) := by
  rcases s.enter_eq seq l with h | h <;> rw [h]
  · exact of_field rfl
  · exact fun o => raise _ _ o

theorem movedOn (s : State) : s.SamePulses s.movedOn := by
  unfold State.movedOn State.fixKind
  dsimp only
  split
  · split
    · exact fun o => enter _ _ _ o
    · exact of_field (State.closeDrained_field _)
  · exact of_field rfl

theorem arriveSD (s : State) (x : Slot) : s.SamePulses (s.arriveSD x) := by
  unfold State.arriveSD
  dsimp only
  split
  · exact fun o => raise _ _ o
  · exact of_field rfl

theorem arriveGW (s : State) (x : Slot) : s.SamePulses (s.arriveGW x) := by
  unfold State.arriveGW
  dsimp only
  split <;> exact fun o => judge _ o

theorem raiseCommit (s : State) (x : Slot) : s.SamePulses (s.raiseCommit x) := by
  unfold State.raiseCommit
  split
  · exact raise _ _
  · split
    · exact raise _ _
    · exact of_field rfl

theorem commitPiece (s : State) (x : Slot) : s.SamePulses (s.commitPiece x) := by
  unfold State.commitPiece
  exact (raiseCommit (s.updateSlot x.tag fun y => { y with commit := some (s.decision x) }) x).trans (of_field (by simp))

theorem arriveCM (s : State) (x : Slot) : s.SamePulses (s.arriveCM x) := by
  have hcommit : s.SamePulses (if x.kind == .board then (s.endSolving x).commitPiece x else s) := by
    split
    · exact .trans (u := s.endSolving x) (of_field rfl) (commitPiece _ x)
    · exact of_field rfl
  have hclose : ∀ u : State, u.SamePulses (u.closeWindow x) := fun u => by
    unfold State.closeWindow
    dsimp only
    split <;> exact of_field rfl
  exact (hcommit.trans (hclose _)).trans (judge _)

theorem trimPiece (s : State) (tag : Nat) : s.SamePulses (s.trimPiece tag) := by
  have h : s.SamePulses (s.endExchangeOf tag) := by
    unfold State.endExchangeOf
    split
    · exact of_field (by simp)
    · exact of_field rfl
  rw [State.trimPiece_eq]
  split
  · exact h
  · dsimp only
    split
    · exact h.trans fun o => raise _ _ o
    · exact h.trans (of_field rfl)

theorem arriveEX (s : State) (x : Slot) : s.SamePulses (s.arriveEX x) := by
  have h : s.SamePulses (s.exited x) := by
    unfold State.exited State.exitPiece
    split
    · split
      · exact (enter _ _ _).trans (report _ _ _)
      · exact of_field rfl
    · exact of_field rfl
  exact h.trans (of_field (State.closeDrained_field _))

/-- An arrival at another station than TR. -/
theorem arriveAt (s : State) (tag : Nat) (h : st ≠ .tr) : s.SamePulses (s.arriveAt tag st) := by
  unfold State.arriveAt
  split
  · exact of_field rfl
  · split
    · next x _ _ =>
      refine .trans (u := s.updateSlot tag fun y => { y with passed := y.passed ++ [st] }) (of_field rfl) ?_
      cases st with
      | sd => exact arriveSD _ _
      | gw => exact arriveGW _ _
      | cm => exact arriveCM _ _
      | tr => exact absurd rfl h
      | ex => exact arriveEX _ _
    · exact of_field rfl

end State.SamePulses

/-- An arrival at TR, whatever the slot's kind (R113). -/
theorem State.arriveAt_tr_pulses {x : Slot} (hx : u.slot? tag = some x) (ho : u.geo.station .tr ≤ x.offset)
    (hp : Station.tr ∉ x.passed) (o : Fin 8) :
    ((u.arriveAt tag .tr).field.outputs.get o).pulse =
      if (u.tables.outputs.get o).function = .fire then some (2 * (u.tables.outputs.get o).width)
      else (u.field.outputs.get o).pulse := by
  rw [State.arriveAt_of_due hx ho hp]
  refine Eq.trans ?_ ((u.updateSlot tag (Slot.pass .tr)).pulse_output .fire o).2
  show ((State.arriveTR _ _).field.outputs.get o).pulse = _
  unfold State.arriveTR
  dsimp only
  split
  · exact State.SamePulses.trimPiece _ _ o
  · rfl

/-! ## The saw bus -/

/-- READ STATE sent, or due once the wait that runs is over (R112). -/
theorem State.sendRead_saw (s : State) (ex : Exchange) :
    (s.sendRead ex).saw =
      if s.saw.wait.isSome then { s.saw with exchange := some { ex with phase := .readDue } }
      else
        { s.saw with
          exchange := some { ex with phase := .readState }, wait := some (2 * ex.timeout), sent := some (readStateFrame ex.module).wire } := by
  unfold State.sendRead
  split <;> rfl

/-- A module count is 1 or 2 (R15, R63). -/
theorem State.geometryKept.modules_pos (h : s.geometryKept) : 0 < s.tables.sawBus.modules := by
  obtain ⟨hv, hm⟩ := h
  have hs : 1 ≤ s.geo.saws := by
    simp only [Geometry.valid, within, Bool.and_eq_true, decide_eq_true_eq] at hv
    omega
  rw [hm, Geometry.modules]
  omega

/-- The exchange of a piece begins with module 1, the one in flight abandoned (R106, R112). -/
theorem State.commitPiece_saw (hm : 0 < s.tables.sawBus.modules) (x : Slot) :
    (s.commitPiece x).saw =
      if s.saw.wait.isSome then { s.saw with exchange := some (s.saw.begun x.tag 0 s.tables.sawBus.timeout .readDue) }
      else
        { s.saw with
          exchange := some (s.saw.begun x.tag 0 s.tables.sawBus.timeout .readState), wait := some (2 * s.tables.sawBus.timeout)
          sent := some (busWire 0x61 [1]) } := by
  have htab := (State.LineFrame.raiseCommit (s.updateSlot x.tag fun y => { y with commit := some (s.decision x) }) x).tables
  obtain ⟨-, -, hsaw, -⟩ := (s.updateSlot x.tag fun y => { y with commit := some (s.decision x) }).raiseCommit_keeps x
  unfold State.commitPiece
  dsimp only
  generalize (s.updateSlot x.tag fun y => { y with commit := some (s.decision x) }).raiseCommit x = v at *
  have hv : v.abandonExchange.saw = { s.saw with exchange := none } := by
    rw [State.abandonExchange_saw, hsaw]
    rfl
  have htv : v.abandonExchange.tables = s.tables := (State.abandonExchange_tables v).trans htab
  generalize v.abandonExchange = w at *
  unfold State.beginModule
  rw [show place? 2 0 = some 0 from rfl]
  dsimp only
  rw [if_pos (by rw [htv]; exact hm), State.sendRead_saw, hv]
  rfl

/-- The saw bus after a BOARD piece's arrival at CM. -/
theorem State.arriveAt_cm_saw {x : Slot} (hx : u.slot? tag = some x) (ho : u.geo.station .cm ≤ x.offset)
    (hp : Station.cm ∉ x.passed) (hk : x.kind = .board) (hm : 0 < u.tables.sawBus.modules) :
    (u.arriveAt tag .cm).saw =
      if u.saw.wait.isSome then { u.saw with exchange := some (u.saw.begun tag 0 u.tables.sawBus.timeout .readDue) }
      else
        { u.saw with
          exchange := some (u.saw.begun tag 0 u.tables.sawBus.timeout .readState), wait := some (2 * u.tables.sawBus.timeout)
          sent := some (busWire 0x61 [1]) } := by
  obtain ⟨-, rfl⟩ := State.slot?_some hx
  rw [State.arriveAt_of_due hx ho hp]
  show (State.arriveCM _ (x.pass .cm)).saw = _
  unfold State.arriveCM
  rw [State.judge_saw, (State.closeWindow_keeps _ _).2.1, if_pos (beq_iff_eq.mpr hk : ((x.pass .cm).kind == .board) = true)]
  exact State.commitPiece_saw (s := (u.updateSlot x.tag (Slot.pass .cm)).endSolving (x.pass .cm)) hm (x.pass .cm)

/-- A slot that is no BOARD leaves the saw bus at CM. -/
theorem State.arriveAt_cm_saw_of_not_board {x : Slot} (hx : u.slot? tag = some x) (ho : u.geo.station .cm ≤ x.offset)
    (hp : Station.cm ∉ x.passed) (hk : x.kind ≠ .board) : (u.arriveAt tag .cm).saw = u.saw := by
  rw [State.arriveAt_of_due hx ho hp]
  exact ((u.updateSlot tag (Slot.pass .cm)).arriveCM_exchange (x.pass .cm)).2 hk

/-- The trim station ends the arriving BOARD piece's own exchange, and that alone (R112). -/
theorem State.arriveAt_tr_saw {x : Slot} (hx : u.slot? tag = some x) (ho : u.geo.station .tr ≤ x.offset)
    (hp : Station.tr ∉ x.passed) :
    (u.arriveAt tag .tr).saw =
      if x.kind = .board then { u.saw with exchange := if u.saw.exchange.map (·.tag) = some tag then none else u.saw.exchange }
      else u.saw := by
  obtain ⟨-, rfl⟩ := State.slot?_some hx
  rw [State.arriveAt_of_due hx ho hp]
  show (State.arriveTR _ (x.pass .tr)).saw = _
  unfold State.arriveTR
  dsimp only
  by_cases hk : x.kind = .board
  · rw [if_pos (beq_iff_eq.mpr hk : ((x.pass .tr).kind == .board) = true), if_pos hk]
    exact (((u.updateSlot x.tag (Slot.pass .tr)).pulse .fire).trimPiece_keeps x.tag).2.1
  · rw [if_neg (mt beq_iff_eq.mp hk : ¬((x.pass .tr).kind == .board) = true), if_neg hk]
    rfl

/-- The saw bus at an arrival at SD, GW or EX. -/
theorem State.arriveAt_saw (u : State) (tag : Nat) (hcm : st ≠ .cm) (htr : st ≠ .tr) : (u.arriveAt tag st).saw = u.saw := by
  unfold State.arriveAt
  split
  · rfl
  · split
    · next x _ _ =>
      cases st with
      | sd => exact (State.arriveSD_keeps _ _).2.2.1
      | gw => exact (State.arriveGW_keeps _ _).2.1
      | cm => exact absurd rfl hcm
      | tr => exact absurd rfl htr
      | ex =>
        show (State.arriveEX _ _).saw = _
        rw [State.arriveEX_eq, State.closeDrained_saw]
        exact (State.exited_keeps _ _).2.1
    · rfl

/-- A wait for an answer runs on through every arrival (R112). -/
theorem State.arriveAt_wait {w : Nat} (hw : u.saw.wait = some w) (hm : 0 < u.tables.sawBus.modules) (tag : Nat) (st : Station) :
    (u.arriveAt tag st).saw.wait = some w := by
  by_cases hd : ∃ x, u.slot? tag = some x ∧ st ∉ x.passed ∧ u.geo.station st ≤ x.offset
  · obtain ⟨x, hx, hp, ho⟩ := hd
    by_cases hcm : st = .cm
    · subst hcm
      by_cases hk : x.kind = .board
      · rw [State.arriveAt_cm_saw hx ho hp hk hm, if_pos (by rw [hw]; rfl)]
        exact hw
      · rw [State.arriveAt_cm_saw_of_not_board hx ho hp hk]
        exact hw
    · by_cases htr : st = .tr
      · subst htr
        rw [State.arriveAt_tr_saw hx ho hp]
        split <;> exact hw
      · rw [State.arriveAt_saw u tag hcm htr]
        exact hw
  · rw [State.arriveAt_of_not_due fun x hx hp => Nat.lt_of_not_le fun ho => hd ⟨x, hx, hp, ho⟩]
    exact hw

/-! ## The results of a piece -/

/-- The results of the piece with a tag once an exchange has ended (R112). -/
def abandonResults (ex : Option Exchange) (tag : Nat) (r : Bank 2 ModuleResult) : Bank 2 ModuleResult :=
  match ex with
  | some ex => if ex.tag = tag then r.set ex.module .abandoned else r
  | none => r

theorem abandonResults_of_ne {ex : Option Exchange} (h : ∀ e ∈ ex, e.tag ≠ tag) (r : Bank 2 ModuleResult) :
    abandonResults ex tag r = r := by
  cases ex with
  | none => rfl
  | some e => exact if_neg (h e rfl)

theorem Slot.abandonedBy_commit {y : Slot} {d : CommitRecord} (h : y.commit = some d) (ex : Option Exchange) :
    (y.abandonedBy ex).commit = some { d with results := abandonResults ex y.tag d.results } := by
  cases ex with
  | none => exact h
  | some e =>
    unfold Slot.abandonedBy abandonResults
    dsimp only
    by_cases ht : e.tag = y.tag
    · rw [if_pos ht.symm, if_pos ht, Slot.setCommit, h]
      rfl
    · rw [if_neg (Ne.symm ht), if_neg ht, h]

/-- An abandoned exchange of another piece. -/
theorem Slot.abandonedBy_of_ne {y : Slot} {ex : Option Exchange} (h : ∀ e ∈ ex, e.tag ≠ y.tag) : y.abandonedBy ex = y := by
  cases ex with
  | none => rfl
  | some e => exact if_neg (h e rfl).symm

/-- The piece `x` with its commit record `c`, its exchange as in `s` or ended. -/
def State.holdsResults (s v : State) (x : Slot) (c : CommitRecord) : Prop :=
  ∃ y ∈ v.tracker.ring, y = { x with commit := y.commit } ∧ ∃ d, y.commit = some d ∧ d = { c with results := d.results }
    ∧ ((v.saw.exchange = s.saw.exchange ∧ d.results = c.results)
      ∨ ((∀ e ∈ v.saw.exchange, e.tag ≠ x.tag) ∧ d.results = abandonResults s.saw.exchange x.tag c.results))

theorem State.holdsResults.arriveAt {x : Slot} {c : CommitRecord} (h : s.holdsResults u x c) (hm : u.Moving) (hne : tag ≠ x.tag)
    (st : Station) : s.holdsResults (u.arriveAt tag st) x c := by
  obtain ⟨y, hy, hyx, d, hd, hdc, hcase⟩ := h
  have hyt : y.tag = x.tag := (congrArg Slot.tag hyx :)
  obtain ⟨ex, hends, hother⟩ := hm.arriveAt_other tag st
  refine ⟨_, hother y hy (hyt.trans_ne hne.symm),
    (y.abandonedBy_rest ex).trans (congrArg (fun z : Slot => { z with commit := (y.abandonedBy ex).commit }) hyx), _,
    Slot.abandonedBy_commit hd ex, congrArg (fun e : CommitRecord => { e with results := abandonResults ex y.tag d.results }) hdc, ?_⟩
  rw [hyt]
  rcases hends with ⟨rfl, hsame⟩ | ⟨rfl, hnew⟩
  · rw [hsame]
    exact hcase
  · refine .inr ⟨fun e he => (hnew e he).trans_ne hne, ?_⟩
    rcases hcase with ⟨h1, h2⟩ | ⟨h1, h2⟩
    · rw [h1, h2]
    · exact (abandonResults_of_ne h1 _).trans h2

/-! ## TR -/

theorem exchangeOf_results (u : State) (tag : Nat) (r : Bank 2 ModuleResult) :
    abandonResults (u.exchangeOf tag) tag r = abandonResults u.saw.exchange tag r := by
  unfold State.exchangeOf
  split
  · rfl
  · next h => exact (abandonResults_of_ne (fun e he ht => h (by rw [Option.mem_def.mp he, Option.map_some, ht])) r).symm

/-- A module of the module count with neither ACCEPTED nor SKIPPED as its result (R113). -/
theorem State.exchangeIncomplete_iff (s : State) (c : CommitRecord) :
    s.exchangeIncomplete c = true ↔
      ∃ m : Fin 2, m.val < s.tables.sawBus.modules ∧ c.results.get m ≠ .accepted ∧ c.results.get m ≠ .skipped := by
  have hc : ∀ r : ModuleResult, (!r.complete) = true ↔ r ≠ .accepted ∧ r ≠ .skipped := by
    intro r
    cases r <;> simp [ModuleResult.complete]
  unfold State.exchangeIncomplete State.activeModules
  simp only [List.any_eq_true, List.mem_filter, List.mem_finRange, true_and, decide_eq_true_eq, hc]

/-- A BOARD piece with its commit record as the trim station leaves it (R112, R113). -/
theorem State.Moving.arriveAt_tr_piece (h : u.Moving) {y : Slot} {d : CommitRecord} (hy : y ∈ u.tracker.ring) (hk : y.kind = .board)
    (ho : u.geo.station .tr ≤ y.offset) (hp : Station.tr ∉ y.passed) (hd : y.commit = some d) :
    ∃ d0 d1, d0 = { d with results := abandonResults u.saw.exchange y.tag d.results }
      ∧ d1 = d0.trim (u.exchangeIncomplete d0)
      ∧ { y.pass .tr with commit := some d1 } ∈ (u.arriveAt y.tag .tr).tracker.ring
      ∧ (u.exchangeIncomplete d0 = true → (u.arriveAt y.tag .tr).isPending .trimMissed = true) := by
  have hslot := State.slot?_of_mem h.apart.tags hy
  let w := (u.updateSlot y.tag (Slot.pass .tr)).pulse .fire
  have hann : u.arriveAt y.tag .tr = w.trimPiece y.tag := by
    rw [State.arriveAt_of_due hslot ho hp]
    exact if_pos (beq_iff_eq.mpr hk)
  let y1 := (y.pass .tr).abandonedBy (u.exchangeOf y.tag)
  have hring : (w.endExchangeOf y.tag).tracker.ring = w.tracker.ring.map (Slot.abandonedBy (u.exchangeOf y.tag)) :=
    (w.endExchangeOf_keeps y.tag).1
  have hy1 : y1 ∈ (w.endExchangeOf y.tag).tracker.ring := by
    rw [hring]
    exact List.mem_map_of_mem (List.mem_map_of_eq hy (if_pos (beq_self_eq_true _)))
  have hy1t : y1.tag = y.tag := Slot.abandonedBy_tag _ _
  have htags : ((w.endExchangeOf y.tag).tracker.ring.map (·.tag)).Nodup := by
    have hmap : (w.endExchangeOf y.tag).tracker.ring.map (·.tag) = u.tracker.ring.map (·.tag) := by
      rw [hring, List.map_map]
      show ((changeSlot y.tag (Slot.pass .tr) u.tracker.ring).map _) = _
      rw [changeSlot, List.map_map]
      refine List.map_congr_left fun z _ => ?_
      simp only [Function.comp, Slot.abandonedBy_tag]
      split <;> rfl
    rw [hmap]
    exact h.apart.tags
  have hcommit : y1.commit = some { d with results := abandonResults u.saw.exchange y.tag d.results } := by
    have := Slot.abandonedBy_commit (y := y.pass .tr) hd (u.exchangeOf y.tag)
    rwa [Slot.pass_tag, exchangeOf_results] at this
  have hfound : ((w.endExchangeOf y.tag).slot? y.tag).bind (·.commit) =
      some { d with results := abandonResults u.saw.exchange y.tag d.results } := by
    have hs := State.slot?_of_mem htags hy1
    rw [hy1t] at hs
    rw [hs]
    exact hcommit
  generalize hd0 : ({ d with results := abandonResults u.saw.exchange y.tag d.results } : CommitRecord) = d0 at *
  have hinc : (w.endExchangeOf y.tag).exchangeIncomplete d0 = u.exchangeIncomplete d0 := by
    have htab : (w.endExchangeOf y.tag).tables = u.tables := (State.LineFrame.endExchangeOf w y.tag).tables
    unfold State.exchangeIncomplete State.activeModules
    rw [htab]
  refine ⟨d0, _, rfl, rfl, ?_⟩
  rw [hann, State.trimPiece_eq, hfound]
  dsimp only
  rw [hinc]
  have hin : { y.pass .tr with commit := some (d0.trim (u.exchangeIncomplete d0)) } ∈
      ((w.endExchangeOf y.tag).updateSlot y.tag (·.setCommit (CommitRecord.trim (u.exchangeIncomplete d0)))).tracker.ring := by
    refine List.mem_map_of_eq hy1 ?_
    rw [if_pos (beq_iff_eq.mpr hy1t)]
    show { y1 with commit := y1.commit.map (CommitRecord.trim (u.exchangeIncomplete d0)) } = _
    rw [hcommit]
    exact (congrArg (fun z : Slot => { z with commit := some (d0.trim (u.exchangeIncomplete d0)) })
      ((y.pass .tr).abandonedBy_rest (u.exchangeOf y.tag)) :)
  split
  · exact ⟨by rw [State.raise_tracker]; exact hin, fun _ => (State.raise_isPending _ _).1⟩
  · next hno => exact ⟨hin, fun hyes => absurd hyes hno⟩

/-- What an arrival of `x` at TR leaves: every FIRE output pulsed, and a BOARD piece judged. -/
def State.trimmed (s v : State) (x : Slot) : Prop :=
  (∀ o : Fin 8,
      (v.field.outputs.get o).pulse =
        if (s.tables.outputs.get o).function = .fire then some (2 * (s.tables.outputs.get o).width)
        else (s.field.outputs.get o).pulse)
    ∧ (∀ w, s.saw.wait = some w → v.saw.wait = some w)
    ∧ ∀ c : CommitRecord, x.kind = .board → x.commit = some c →
        ∃ y d0, y ∈ v.tracker.ring ∧ y.tag = x.tag
          ∧ d0 = { c with results := abandonResults s.saw.exchange x.tag c.results }
          ∧ y.commit = some (d0.trim (s.exchangeIncomplete d0)) ∧ (∀ e ∈ v.saw.exchange, e.tag ≠ x.tag)
          ∧ (s.exchangeIncomplete d0 = true → v.isPending .trimMissed = true)

/-- What holds on the way of `x` to TR: only FIRE outputs may have been pulsed, and its exchange may have ended. -/
def State.towardTrim (s v : State) (x : Slot) : Prop :=
  (∀ o : Fin 8,
      (v.field.outputs.get o).pulse = (s.field.outputs.get o).pulse
        ∨ (s.tables.outputs.get o).function = .fire
          ∧ (v.field.outputs.get o).pulse = some (2 * (s.tables.outputs.get o).width))
    ∧ v.tables = s.tables ∧ (∀ w, s.saw.wait = some w → v.saw.wait = some w)
    ∧ (∃ y ∈ v.tracker.ring, y.tag = x.tag ∧ Station.tr ∉ y.passed ∧ y.offset = x.offset + 1)
    ∧ ∀ c : CommitRecord, x.kind = .board → x.commit = some c → s.holdsResults v x.further c

/-- The arriving slot itself, before EX. -/
theorem State.RingApart.arriveAt_own (h : u.RingApart) {y : Slot} (hy : y ∈ u.tracker.ring) (hst : st ≠ .ex) :
    ∃ y' ∈ (u.arriveAt y.tag st).tracker.ring, y'.key = y.key.arrive u.geo st := by
  have hk : y.key.arrive u.geo st ∈ (u.arriveAt y.tag st).keys := by
    rw [(State.arriveAt_keys h.tags y.tag hst).1]
    exact List.mem_map_of_eq (List.mem_map_of_mem hy) (if_pos rfl)
  obtain ⟨y', hy', e⟩ := List.mem_map.mp hk
  exact ⟨y', hy', e⟩

/-- Only FIRE outputs are pulsed by an arrival. -/
theorem State.arriveAt_pulses (u : State) (tag : Nat) (st : Station) (o : Fin 8) :
    ((u.arriveAt tag st).field.outputs.get o).pulse = (u.field.outputs.get o).pulse
      ∨ (u.tables.outputs.get o).function = .fire
        ∧ ((u.arriveAt tag st).field.outputs.get o).pulse = some (2 * (u.tables.outputs.get o).width) := by
  by_cases hst : st = .tr
  · subst hst
    by_cases hd : ∃ x, u.slot? tag = some x ∧ Station.tr ∉ x.passed ∧ u.geo.station .tr ≤ x.offset
    · obtain ⟨x, hx, hp, ho⟩ := hd
      rw [State.arriveAt_tr_pulses hx ho hp o]
      by_cases hf : (u.tables.outputs.get o).function = .fire
      · exact .inr ⟨hf, if_pos hf⟩
      · exact .inl (if_neg hf)
    · rw [State.arriveAt_of_not_due fun x hx hp => Nat.lt_of_not_le fun ho => hd ⟨x, hx, hp, ho⟩]
      exact .inl rfl
  · exact .inl (State.SamePulses.arriveAt u tag hst o)

theorem State.towardTrim.pulses {x : Slot} (h : s.towardTrim u x) (tag : Nat) (st : Station) (o : Fin 8) :
    ((u.arriveAt tag st).field.outputs.get o).pulse = (s.field.outputs.get o).pulse
      ∨ (s.tables.outputs.get o).function = .fire
        ∧ ((u.arriveAt tag st).field.outputs.get o).pulse = some (2 * (s.tables.outputs.get o).width) := by
  obtain ⟨h1, h2, -⟩ := h
  have hu := u.arriveAt_pulses tag st o
  rw [h2] at hu
  rcases hu with hu | hu
  · rw [hu]
    exact h1 o
  · exact .inr hu

theorem State.towardTrim.arriveAt_other {x : Slot} (h : s.towardTrim u x) (hm : u.Moving) (hne : tag ≠ x.tag)
    (hmod : 0 < s.tables.sawBus.modules) (st : Station) : s.towardTrim (u.arriveAt tag st) x := by
  have hpulses := h.pulses tag st
  obtain ⟨-, h2, h3, ⟨y, hy, hyt, hyp, hyo⟩, h5⟩ := h
  refine ⟨hpulses, (State.LineFrame.arriveAt u tag st).tables.trans h2, fun w hw =>
    State.arriveAt_wait (h3 w hw) (h2 ▸ hmod) tag st, ?_, fun c hk hc => (h5 c hk hc).arriveAt hm hne st⟩
  obtain ⟨ex, -, hother⟩ := hm.arriveAt_other tag st
  refine ⟨_, hother y hy (hyt.trans_ne hne.symm), ?_⟩
  rw [y.abandonedBy_rest ex]
  exact ⟨hyt, hyp, hyo⟩

theorem State.towardTrim.arriveAt_own {x : Slot} (h : s.towardTrim u x) (hm : u.Moving) (hmod : 0 < s.tables.sawBus.modules)
    (htr : st ≠ .tr) (hex : st ≠ .ex) (hc : x.commit = none) : s.towardTrim (u.arriveAt x.tag st) x := by
  have hpulses := h.pulses x.tag st
  obtain ⟨-, h2, h3, ⟨y, hy, hyt, hyp, hyo⟩, -⟩ := h
  refine ⟨hpulses, (State.LineFrame.arriveAt u x.tag st).tables.trans h2, fun w hw =>
    State.arriveAt_wait (h3 w hw) (h2 ▸ hmod) x.tag st, ?_, fun c _ hc' => absurd (hc.symm.trans hc') nofun⟩
  obtain ⟨y', hy', e⟩ := hm.apart.arriveAt_own hy hex
  rw [hyt] at hy'
  have htag : y'.tag = y.tag := (congrArg SlotKey.tag e).trans (SlotKey.arrive_tag ..)
  have hoff : y'.offset = y.offset := (congrArg SlotKey.offset e).trans (SlotKey.arrive_offset ..)
  have hpass : y'.passed = (y.key.arrive u.geo st).passed := congrArg SlotKey.passed e
  refine ⟨y', hy', htag.trans hyt, ?_, hoff.trans hyo⟩
  rw [hpass, SlotKey.mem_arrive]
  rintro (h' | ⟨h', -⟩)
  · exact hyp h'
  · exact htr h'.symm

/-- A slot that comes to TR at a lug pulse. -/
theorem State.Inv.trimmed {i : Fin 8} {x : Slot} (hi : s.Inv) (hx : x ∈ s.tracker.ring) (ho : x.offset + 1 = s.geo.tr)
    (hp : Station.tr ∉ x.passed) : s.trimmed (s.lugTaken i).beforeCreate x := by
  have hring := State.lugMoved_ring hi i
  have hmod := hi.geometry.modules_pos
  have hx0 : x.offset ≠ 0 := by
    obtain ⟨hv, -⟩ := hi.geometry
    obtain ⟨h1, h2, h3, -⟩ := Geometry.valid_stations hv
    have : s.geo.tr = s.geo.cm + 1 := rfl
    omega
  have hmoved : x.moved = x.further := Slot.moved_of_pos hx0
  have hin : x.further ∈ (s.lugMoved i).tracker.ring := by
    rw [hring, ← hmoved]
    exact List.mem_map_of_mem hx
  have hsound := (s.slotsKept_iff.mp hi.slots).1 x hx
  obtain ⟨-, hsaw, -⟩ := (s.lugTaken i).movedOn_keeps
  have htables : (s.lugMoved i).tables = s.tables := (State.LineFrame.movedOn (s.lugTaken i)).tables
  refine hi.lugDue_around (i := i) (x := x) (st := .tr) (P := fun _ v => s.towardTrim v x) (Q := fun v => s.trimmed v x) hx ho ?_ ?_ ?_ ?_
  · refine ⟨fun o => .inl (State.SamePulses.movedOn (s.lugTaken i) o), htables, fun w hw => ?_, ⟨x.further, hin, rfl, hp, rfl⟩,
      fun c hk hc => ⟨x.further, hin, rfl, c, hc, rfl, .inl ⟨congrArg SawBus.exchange hsaw, rfl⟩⟩⟩
    rw [hsaw]
    exact hw
  · intro v k tag st' hm hf _ hb hP
    rcases hb with ⟨hne, -⟩ | ⟨rfl, hlt⟩
    · exact hP.arriveAt_other hm (fun e => hne (e.trans x.moved_keeps.1.symm)) hmod st'
    · rw [x.moved_keeps.1]
      cases hc : x.commit with
      | none => exact hP.arriveAt_own hm hmod (fun e => absurd (e ▸ hlt) (by decide)) (fun e => absurd (e ▸ hlt) (by decide)) hc
      | some c =>
        obtain ⟨-, hcm⟩ := hsound.kind_board hc
        have hpassed : st' ∈ x.passed := by
          cases st' with
          | sd => exact hsound.gw (hsound.cm hcm)
          | gw => exact hsound.cm hcm
          | cm => exact hcm
          | tr => exact absurd hlt (by decide)
          | ex => exact absurd hlt (by decide)
        rw [hf.not_due fun z hz ht => .inr ?_]
        · exact hP
        · rw [Slot.eq_of_tag (hi.lugMoved i).apart.tags hz hin ht]
          exact hpassed
  · intro v k hm hf _ _ hP
    obtain ⟨h1, h2, h3, ⟨y, hy, hyt, hyp, hyo⟩, h5⟩ := hP
    have hslot := hyt ▸ State.slot?_of_mem hm.apart.tags hy
    have hdue : v.geo.station .tr ≤ y.offset := by
      rw [hf.geo, s.lugMoved_geo i, hyo]
      exact Nat.le_of_eq ho.symm
    refine ⟨fun o => ?_, fun w hw => State.arriveAt_wait (h3 w hw) (h2 ▸ hmod) x.tag .tr, fun c hk hc => ?_⟩
    · rw [State.arriveAt_tr_pulses hslot hdue hyp o, h2]
      by_cases hf : (s.tables.outputs.get o).function = .fire
      · rw [if_pos hf, if_pos hf]
      · rw [if_neg hf, if_neg hf]
        exact (h1 o).resolve_right fun h => hf h.1
    · obtain ⟨z, hz, hzx, d, hd, hdc, hcase⟩ := h5 c hk hc
      obtain rfl : z = y := Slot.eq_of_tag hm.apart.tags hz hy ((congrArg Slot.tag hzx :).trans hyt.symm)
      have hzk : z.kind = .board := (congrArg Slot.kind hzx :).trans hk
      obtain ⟨d0, d1, e0, e1, hin', hmiss⟩ := hm.arriveAt_tr_piece hy hzk hdue hyp hd
      rw [hyt] at e0 hin' hmiss
      have hres : abandonResults v.saw.exchange x.tag d.results = abandonResults s.saw.exchange x.tag c.results := by
        rcases hcase with ⟨g1, g2⟩ | ⟨g1, g2⟩
        · rw [g1, g2]
        · rw [g2]
          exact abandonResults_of_ne g1 _
      have hd0 : d0 = { c with results := abandonResults s.saw.exchange x.tag c.results } := by
        rw [e0, hres, hdc]
      have hinc : v.exchangeIncomplete d0 = s.exchangeIncomplete d0 := by
        unfold State.exchangeIncomplete State.activeModules
        rw [h2]
      rw [hinc] at hmiss e1
      refine ⟨_, d0, hin', hyt, hd0, congrArg some e1, fun e he ht => ?_, hmiss⟩
      rw [State.arriveAt_tr_saw hslot hdue hyp, if_pos hzk] at he
      have he' : (if v.saw.exchange.map (·.tag) = some x.tag then none else v.saw.exchange) = some e := he
      split at he'
      · cases he'
      · next hno => exact hno (by rw [he', Option.map_some, ht])
  · intro v tag st' hm hf _ hne hlt ⟨h1, h3, h5⟩
    have htab : v.tables = s.tables := hf.tables.trans htables
    refine ⟨fun o => (State.SamePulses.arriveAt v tag (fun e => absurd (e ▸ hlt) (by decide)) o).trans (h1 o),
      fun w hw => State.arriveAt_wait (h3 w hw) (htab ▸ hmod) tag st', fun c hk hc => ?_⟩
    obtain ⟨y, d0, hy, hyt, hd0, hd, hex, hmiss⟩ := h5 c hk hc
    obtain ⟨ex, hends, hother⟩ := hm.arriveAt_other tag st'
    have hsame : y.abandonedBy ex = y := Slot.abandonedBy_of_ne fun e he => by
      rcases hends with ⟨rfl, -⟩ | ⟨rfl, -⟩
      · cases he
      · exact hyt ▸ hex e he
    refine ⟨y, d0, hsame ▸ hother y hy (hyt.trans_ne hne.symm), hyt, hd0, hd, fun e he => ?_, fun hi' =>
      (State.LevelFrame.arriveAt v tag st').pending _ (hmiss hi')⟩
    rcases hends with ⟨-, hsame⟩ | ⟨-, hnew⟩
    · exact hex e (hsame ▸ he)
    · exact (hnew e he).trans_ne hne

end

/-- Settles O39: each failed attempt by its cases, the end of a wait left over, and the arrival at TR among those of the advance. -/
theorem exchangeFailuresHaveTheirResults : Obligations.ExchangeFailuresHaveTheirResults := by
  refine ⟨fun ex left x c s hi he hw hx hc => ?_, fun left s hw => leftOverWait_ends hw, fun i left x s hi hdue hx ho hp => ?_⟩
  · intro m again answer failed ended
    have retried : s.Answered (answer.endWait.setModule ex.module fun m => { m with retries := bump m.retries }) ex :=
      .received _ (.setModule (s := answer) _)
    have timedOut : s.Answered (s.endWait.setModule ex.module fun m => { m with timeouts := bump m.timeouts }) ex := .setModule _
    refine ⟨fun hp ha => ?_, fun hp ha => ?_, fun hp hpr ha => ?_, fun hp hpr ha ho => ?_, fun hp hpr ha ho => ?_,
      fun hp hpr => ?_, fun code hp => ?_⟩
    · rw [exec_retry he hp hw, retried.again ha, Bool.and_false]
      rfl
    · obtain ⟨h1, h2⟩ := retried.done (r := .unsettled) hi.ring hx hc
      refine ⟨_, (exec_retry he hp hw).trans (congrArg _ (State.failAttempt_unsettled ha (Bool.and_false _))), h1, h2,
        State.moduleDone_rest ?_ ex .unsettled⟩
      rfl
    · rw [exec_replyTimeout he hp hw, hpr, if_neg Bool.false_ne_true, timedOut.again ha, Bool.and_true]
      rfl
    · have off := (timedOut.setModuleAgain fun m => { m with online := false }).raise .moduleOffline
      obtain ⟨h1, h2⟩ := off.done (r := .timedOut) hi.ring hx hc
      refine ⟨_, (exec_replyTimeout he hp hw).trans ?_, h1, ?_, ?_, off.moduleDone_rest .timedOut⟩
      · rw [hpr, if_neg Bool.false_ne_true, State.failAttempt_timedOut ha ho]
      · rw [h2, State.raise_saw]
        exact Bank.modify_modify s.saw.modules ex.module (fun m => { m with timeouts := bump m.timeouts }) fun m =>
          { m with online := false }
      · rw [State.moduleDone_isPending]
        exact (State.raise_isPending _ _).1
    · obtain ⟨h1, h2⟩ := timedOut.done (r := .unsettled) hi.ring hx hc
      refine ⟨_, (exec_replyTimeout he hp hw).trans ?_, h1, h2, State.moduleDone_rest ?_ ex .unsettled⟩
      · rw [hpr, if_neg Bool.false_ne_true, State.failAttempt_unsettled ha (by rw [ho]; rfl)]
      · rfl
    · obtain ⟨h1, h2⟩ := timedOut.done (r := .skipped) hi.ring hx hc
      refine ⟨_, (exec_replyTimeout he (.inl hp) hw).trans ?_, h1, h2, State.moduleDone_rest ?_ ex .skipped⟩
      · rw [hpr, if_pos rfl]
      · rfl
    · have faulted : s.Answered (((s.received .sawBus [u8 (ex.module.val + 1), code]).endWait.setModule ex.module fun m =>
          { m with lastFault := some code, faults := bump m.faults, online := m.online || ex.probe }).raise .sawFault) ex :=
        (State.Answered.received _ (.setModule (s := s.received .sawBus [u8 (ex.module.val + 1), code]) _)).raise _
      obtain ⟨h1, h2⟩ := faulted.done (r := .faulted) hi.ring hx hc
      refine ⟨_, exec_fault he hp hw code, h1, ?_, ?_, faulted.moduleDone_rest .faulted⟩
      · rw [h2, State.raise_saw]
        rfl
      · rw [State.moduleDone_isPending]
        exact (State.raise_isPending _ _).1
  · obtain ⟨hpulse, hwait, hpiece⟩ := hi.trimmed (i := i) hx ho hp
    refine ⟨_, exec_lugDue hdue, hpulse, fun c hk hc => ?_⟩
    obtain ⟨y, d0, hy, hyt, hd0, hd, hex, hmiss⟩ := hpiece c hk hc
    have hres : d0.results = abandonResults s.saw.exchange x.tag c.results := congrArg CommitRecord.results hd0
    have htrim : d0.trimMissed = c.trimMissed := (congrArg CommitRecord.trimMissed hd0 :)
    have hinc := s.exchangeIncomplete_iff d0
    refine ⟨y, _, List.mem_append_left _ hy, hyt, hd, ?_, rfl, ?_, hex, hwait, ?_, fun h => hmiss (hinc.mpr h)⟩
    · rw [hd0]
      rfl
    · show (match s.saw.exchange with
        | some ex => d0.results = (if ex.tag = x.tag then c.results.set ex.module .abandoned else c.results)
        | none => d0.results = c.results)
      rw [hres]
      cases s.saw.exchange <;> rfl
    · show (d0.trimMissed || s.exchangeIncomplete d0) = true ↔ _
      rw [Bool.or_eq_true, htrim]
      exact or_congr Iff.rfl hinc

end Sys2Proof.Machine


/-! PROOF. The exit of a piece: its tally entry and its report (R138, R141 to R143; O47). -/

namespace Sys2Proof.Machine

-- One proof after the other: together they would ask for more threads than the check has memory for.
set_option Elab.async false

section
variable {s t u : State} {tag : Nat} {st : Station}

/-! ## The reports that wait -/

/-- Every report that waits still waits. -/
def State.ReportsStay (s t : State) : Prop := ∀ f ∈ s.ctl.reports, f ∈ t.ctl.reports

namespace State.ReportsStay

theorem of_ctl (h : t.ctl = s.ctl) : s.ReportsStay t := fun f hf => by rwa [h]

theorem trans (h : s.ReportsStay u) (k : u.ReportsStay t) : s.ReportsStay t := fun f hf => k f (h f hf)

theorem raise (s : State) (x : Cause) : s.ReportsStay (s.raise x) := fun _ hf => (s.raise_prefix x).subset hf

theorem report (s : State) (k : Byte) (p : List Byte) : s.ReportsStay (s.report k p) := fun _ hf =>
  (s.ctl.report_prefix k p).subset hf

theorem arriveSD (s : State) (x : Slot) : s.ReportsStay (s.arriveSD x) := by
  unfold State.arriveSD
  dsimp only
  split
  · exact fun f hf => raise _ _ f hf
  · exact of_ctl rfl

theorem raiseCommit (s : State) (x : Slot) : s.ReportsStay (s.raiseCommit x) := by
  unfold State.raiseCommit
  split
  · exact raise _ _
  · split
    · exact raise _ _
    · exact of_ctl rfl

theorem arriveCM (s : State) (x : Slot) : s.ReportsStay (s.arriveCM x) := by
  have hcommit : s.ReportsStay (if x.kind == .board then (s.endSolving x).commitPiece x else s) := by
    split
    · unfold State.commitPiece
      exact .trans (u := ((s.endSolving x).updateSlot x.tag _).raiseCommit x) (fun f hf => raiseCommit _ x f hf)
        (of_ctl (by rw [State.beginModule_ctl, State.abandonExchange_ctl]))
    · exact of_ctl rfl
  have hclose : ∀ u : State, u.ReportsStay (u.closeWindow x) := fun u => of_ctl (u.closeWindow_keeps x).2.2.2.1
  exact (hcommit.trans (hclose _)).trans (of_ctl rfl)

/-- The trim station may raise TRIM_MISSED. -/
theorem trimPiece (s : State) (tag : Nat) :
    s.ReportsStay (s.trimPiece tag)
      ∧ (s.ctl.reports.length < 64 → (s.trimPiece tag).ctl.reports.length ≤ s.ctl.reports.length + 1)
      ∧ (s.trimPiece tag).runs = s.runs := by
  have h : (s.endExchangeOf tag).ctl = s.ctl ∧ (s.endExchangeOf tag).runs = s.runs := by
    unfold State.endExchangeOf
    split
    · exact ⟨State.abandonExchange_ctl _, State.abandonExchange_runs _⟩
    · exact ⟨rfl, rfl⟩
  obtain ⟨hctl, hruns⟩ := h
  rw [State.trimPiece_eq]
  split
  · exact ⟨of_ctl hctl, fun _ => by rw [hctl]; exact Nat.le_succ _, hruns⟩
  · dsimp only
    generalize hv : (s.endExchangeOf tag).updateSlot tag _ = v
    have hvc : v.ctl = s.ctl := by rw [← hv]; exact hctl
    have hvr : v.runs = s.runs := by rw [← hv]; exact hruns
    split
    · refine ⟨(of_ctl hvc).trans (raise _ _), fun hlt => ?_, (State.raise_runs _ _).trans hvr⟩
      have := State.raise_reports_le (s := v) (hvc ▸ hlt) .trimMissed
      rwa [hvc] at this
    · exact ⟨of_ctl hvc, fun _ => by rw [hvc]; exact Nat.le_succ _, hvr⟩

/-- An arrival before EX. -/
theorem arriveAt (s : State) (tag : Nat) (h : st ≠ .ex) : s.ReportsStay (s.arriveAt tag st) := by
  unfold State.arriveAt
  split
  · exact of_ctl rfl
  · split
    · next x _ _ =>
      refine .trans (u := s.updateSlot tag fun y => { y with passed := y.passed ++ [st] }) (of_ctl rfl) ?_
      cases st with
      | sd => exact arriveSD _ _
      | gw => exact of_ctl (State.arriveGW_keeps _ _).2.2.2.1
      | cm => exact arriveCM _ _
      | tr =>
        show State.ReportsStay _ (State.arriveTR _ _)
        unfold State.arriveTR
        dsimp only
        split
        · exact fun f hf => (trimPiece _ _).1 f hf
        · exact of_ctl rfl
      | ex => exact absurd rfl h
    · exact of_ctl rfl

end State.ReportsStay

/-- The arrival at TR: one report more at most, the runs as they were. -/
theorem State.arriveAt_tr_reports (h : u.ctl.reports.length < 64) (tag : Nat) :
    (u.arriveAt tag .tr).ctl.reports.length ≤ u.ctl.reports.length + 1 := by
  unfold State.arriveAt
  split
  · exact Nat.le_succ _
  · split
    · show (State.arriveTR _ _).ctl.reports.length ≤ _
      unfold State.arriveTR
      dsimp only
      split
      · exact (State.ReportsStay.trimPiece _ _).2.1 h
      · exact Nat.le_succ _
    · exact Nat.le_succ _

/-! ## A run while the ring moves on -/

/-- The run `q` later on: every counter but `scanned` as it was. -/
def State.runStands (v : State) (seq : Nat) (q : Run) : Prop :=
  ∃ q1, v.run? seq = some q1 ∧ q1.seq = q.seq ∧ ∀ c : Counter, c ≠ .scanned → q1.tally.get c = q.tally.get c

theorem State.movedOn_run {seq : Nat} {q : Run} (h : s.run? seq = some q) (hq : ∀ c, q.tally.get c ≤ Config.tallyMax) :
    s.movedOn.runStands seq q := by
  unfold State.movedOn State.fixKind
  dsimp only
  split
  · next x _ =>
    split
    · refine ⟨_, (State.run?_map (s := s.moveRing.updateSlot x.tag Slot.fixKind) (changeRun_keepsCurrent x.run [(.scanned, 1)])
        (congrArg RunTable.records (State.enter_runs _ _ _)) seq).trans (congrArg _ h), ?_, fun c hc => ?_⟩
      · dsimp only
        split
        · exact Run.countAll_seq _ q
        · rfl
      · dsimp only
        split
        · rw [Run.get_countAll (hq c), gain_cons, if_neg hc.symm, gain_nil, Nat.add_zero, Nat.min_eq_left (hq c)]
        · rfl
    · refine ⟨_, (State.run?_map (s := s.moveRing.updateSlot x.tag Slot.fixKind) (closeIfDrained_keepsCurrent _)
        (congrArg RunTable.records (State.closeDrained_runs _)) seq).trans (congrArg _ h), ?_, fun c _ => ?_⟩
      · exact (closeIfDrained_keepsCurrent _).seq q
      · exact congrArg (Tally.get · c) (Run.closeIfDrained_tally _ q).1
  · exact ⟨q, h, rfl, fun _ _ => rfl⟩

/-- One report more at most while the ring moves on. -/
theorem State.movedOn_reports (h : s.ctl.reports.length < 64) : s.movedOn.ctl.reports.length ≤ s.ctl.reports.length + 1 := by
  unfold State.movedOn State.fixKind
  dsimp only
  split
  · split
    · exact State.enter_reports_le (s := s.moveRing.updateSlot _ _) h _ _
    · exact Nat.le_succ _
  · exact Nat.le_succ _

/-! ## The exit -/

/-- The decision record `d` of a piece whose record was `c` before its last stations: only the results and what TR judges may
differ, and nothing once past TR. -/
def CommitRecord.leads (x : Slot) (c d : CommitRecord) : Prop :=
  d = { c with results := d.results, trimMissed := d.trimMissed, trimmed := d.trimmed } ∧ (Station.tr ∈ x.passed → d = c)

/-- What holds on the way of the piece `x` to EX. -/
def State.towardExit (s v : State) (x : Slot) (c : CommitRecord) (q : Run) : Prop :=
  (∃ y ∈ v.tracker.ring, y = { x.further with commit := y.commit, passed := y.passed }
      ∧ (∃ d, y.commit = some d ∧ CommitRecord.leads x c d) ∧ (Station.tr ∈ x.passed → Station.tr ∈ y.passed)
      ∧ (s.ctl.reports.length ≤ 48 → v.ctl.reports.length + (if Station.tr ∈ y.passed then 0 else 1) ≤ 50))
    ∧ v.runStands x.run q ∧ v.productOf x.run = s.productOf x.run

/-- What the exit of the piece `x` leaves: no slot with its tag, its entry in its run, its report. -/
def State.gone (s v : State) (x : Slot) (c : CommitRecord) (q : Run) : Prop :=
  (∀ y ∈ v.tracker.ring, y.tag ≠ x.tag)
    ∧ ∃ d, CommitRecord.leads x c d
      ∧ (∃ q' ∈ v.runs.records, q'.seq = q.seq ∧ ∀ k : Counter, k ≠ .scanned →
          q'.tally.get k = min (q.tally.get k + gain (exitEntry (s.productOf x.run) s.geo.pitch x d) k) Config.tallyMax)
      ∧ (s.ctl.reports.length ≤ 48 →
          ∃ f ∈ v.ctl.reports, f.kind = exitKind ∧ f.payload = exitPayload (s.productOf x.run) s.geo.pitch x d)

/-- The exit itself. -/
theorem State.Moving.arriveAt_ex_exits (h : u.Moving) {y : Slot} {d : CommitRecord} {q : Run} (hy : y ∈ u.tracker.ring)
    (hk : y.kind = .board) (ho : u.geo.station .ex ≤ y.offset) (hd : y.commit = some d) (hq : u.runStands y.run q)
    (hmax : ∀ c, q.tally.get c ≤ Config.tallyMax) :
    (∀ z ∈ (u.arriveAt y.tag .ex).tracker.ring, z.tag ≠ y.tag)
      ∧ (∃ q' ∈ (u.arriveAt y.tag .ex).runs.records, q'.seq = q.seq ∧ ∀ k : Counter, k ≠ .scanned →
          q'.tally.get k = min (q.tally.get k + gain (exitEntry (u.productOf y.run) u.geo.pitch y d) k) Config.tallyMax)
      ∧ (u.ctl.reports.length ≤ 50 →
          ∃ f ∈ (u.arriveAt y.tag .ex).ctl.reports,
            f.kind = exitKind ∧ f.payload = exitPayload (u.productOf y.run) u.geo.pitch y d) := by
  have hslot := State.slot?_of_mem h.apart.tags hy
  have hp := h.apart.inLine y hy
  let w := u.updateSlot y.tag (Slot.pass .ex)
  let e := (w.enter y.run (exitEntry (u.productOf y.run) u.geo.pitch y d)).report exitKind
    (exitPayload (u.productOf y.run) u.geo.pitch y d)
  have hexit : w.exited (y.pass .ex) = e := by
    unfold State.exited State.exitPiece
    rw [if_pos (beq_iff_eq.mpr hk : ((y.pass .ex).kind == .board) = true), show (y.pass .ex).commit = some d from hd]
    rfl
  have hann : u.arriveAt y.tag .ex = (e.removeSlot y.tag).closeDrained := by
    rw [State.arriveAt_of_due hslot ho hp, ← hexit]
    rfl
  refine ⟨fun z hz ht => ?_, ?_, fun hlen => ?_⟩
  · rw [State.arriveAt_ex_ring h.apart.tags h.apart.inLine] at hz
    obtain ⟨hm, hf⟩ := List.mem_filter.mp hz
    rw [Slot.eq_of_tag h.apart.tags hm hy ht] at hf
    have ho' : u.geo.ex ≤ y.offset := ho
    simp [ho'] at hf
  · obtain ⟨q1, hq1, hseq, hget⟩ := hq
    have hrun : (u.arriveAt y.tag .ex).runs.records =
        (u.runs.records.map fun r => if r.seq = y.run then r.countAll (exitEntry (u.productOf y.run) u.geo.pitch y d) else r).map
          (Run.closeIfDrained (e.removeSlot y.tag).tracker.ring) := by
      rw [hann]
      refine congrArg (List.map _) ?_
      show (w.enter y.run _).runs.records = _
      rw [State.enter_runs]
      exact changeRun_eq_map y.run _ u.runs.records
    have hmem : q1 ∈ u.runs.records := List.mem_of_find?_eq_some hq1
    have hseq1 : q1.seq = y.run := by
      have := List.find?_some hq1
      exact beq_iff_eq.mp this
    rw [hrun]
    refine ⟨_, List.mem_map_of_mem (List.mem_map_of_eq hmem (if_pos hseq1)), ?_, fun k hk => ?_⟩
    · rw [(closeIfDrained_keepsCurrent _).seq, Run.countAll_seq, hseq]
    · rw [(Run.closeIfDrained_tally _ _).1, Run.get_countAll (by rw [hget k hk]; exact hmax k), hget k hk]
  · rw [hann]
    refine State.report_waits (s := w.enter y.run _) (Nat.lt_of_le_of_lt (State.enter_reports_le (s := w) ?_ _ _) ?_) _ _
    · exact Nat.lt_of_le_of_lt hlen (by decide)
    · exact Nat.lt_of_le_of_lt (Nat.succ_le_succ hlen) (by decide)

/-- The piece comes past TR on its way to EX. -/
theorem State.towardExit.arriveAt_tr {x : Slot} {c : CommitRecord} {q : Run} (h : s.towardExit u x c q) (hm : u.Moving)
    (hk : x.kind = .board) (hpx : Station.tr ∉ x.passed) (ho : u.geo.station .tr ≤ x.offset + 1) :
    s.towardExit (u.arriveAt x.tag .tr) x c q := by
  obtain ⟨⟨y, hy, hyx, ⟨d, hd, hdc, hpast⟩, htr, hrep⟩, hstands, hprod⟩ := id h
  have hyt : y.tag = x.tag := (congrArg Slot.tag hyx :)
  have hyo : y.offset = x.offset + 1 := (congrArg Slot.offset hyx :)
  have hslot := hyt ▸ State.slot?_of_mem hm.apart.tags hy
  by_cases hp : Station.tr ∈ y.passed
  · rw [State.arriveAt_of_not_due fun z hz hzp => ?_]
    · exact h
    · obtain rfl := Option.some.inj (hslot.symm.trans hz)
      exact absurd hp hzp
  · obtain ⟨d0, d1, hd0, hd1, hin, -⟩ :=
      hm.arriveAt_tr_piece hy ((congrArg Slot.kind hyx :).trans hk) (hyo ▸ ho) hp hd
    rw [hyt] at hin
    have hruns := (State.arriveAt_keys hm.apart.tags x.tag (st := .tr) nofun).2
    refine ⟨⟨_, hin, ?_, ⟨d1, rfl, ?_, fun h => absurd h hpx⟩, fun h => absurd h hpx, fun hlen => ?_⟩, ?_, ?_⟩
    · exact (congrArg (fun z : Slot => { z.pass .tr with commit := some d1 }) hyx :)
    · rw [hd1, hd0, hdc]
      rfl
    · have hle := hrep hlen
      rw [if_neg hp] at hle
      have hin' : Station.tr ∈ ({ y.pass .tr with commit := some d1 } : Slot).passed := List.mem_append_right _ (by simp)
      rw [if_pos hin']
      have := State.arriveAt_tr_reports (u := u) (by omega) x.tag
      omega
    · unfold State.runStands State.run?
      rw [hruns]
      exact hstands
    · rw [← hprod]
      unfold State.productOf State.run?
      rw [hruns, (State.LineFrame.arriveAt u x.tag .tr).tables]

/-- The piece at the head of the ring comes to EX at a lug pulse. -/
theorem State.Inv.gone {i : Fin 8} {x : Slot} {c : CommitRecord} {q : Run} (hi : s.Inv) (hx : s.tracker.ring.head? = some x)
    (hk : x.kind = .board) (ho : x.offset + 1 = s.geo.ex) (hc : x.commit = some c) (hq : s.run? x.run = some q) :
    s.gone (s.lugTaken i).beforeCreate x c q := by
  have hm := List.mem_of_head? hx
  have hring := State.lugMoved_ring hi i
  have hx0 : x.offset ≠ 0 := by
    obtain ⟨hv, -⟩ := hi.geometry
    obtain ⟨h1, h2, h3, h4, -⟩ := Geometry.valid_stations hv
    omega
  have hmoved : x.moved = x.further := Slot.moved_of_pos hx0
  have hin : x.further ∈ (s.lugMoved i).tracker.ring := by
    rw [hring, ← hmoved]
    exact List.mem_map_of_mem hm
  have hsound := (s.slotsKept_iff.mp hi.slots).1 x hm
  obtain ⟨-, hcm⟩ := hsound.kind_board hc
  have hhead : ∀ w ∈ s.tracker.ring, w.offset ≤ x.offset := fun w hw => by
    obtain ⟨hfall, -⟩ := hi.ring
    obtain ⟨l, hl⟩ := List.head?_eq_some_iff.mp hx
    rw [hl] at hw hfall
    rw [List.map_cons, List.pairwise_cons] at hfall
    rcases List.mem_cons.mp hw with rfl | hw
    · exact Nat.le_refl _
    · exact Nat.le_of_lt (hfall.1 _ (List.mem_map_of_mem hw))
  have htables : (s.lugMoved i).tables = s.tables := (State.LineFrame.movedOn (s.lugTaken i)).tables
  have hmax : ∀ k, q.tally.get k ≤ Config.tallyMax := fun k => by
    obtain ⟨-, hall, -⟩ := hi.runs
    exact ((hall q (List.mem_of_find?_eq_some hq)).2.2 k).1
  refine hi.lugDue_around (i := i) (x := x) (st := .ex) (P := fun _ v => s.towardExit v x c q) (Q := fun v => s.gone v x c q) hm ho
    ?_ ?_ ?_ ?_
  · refine ⟨⟨x.further, hin, rfl, ⟨c, hc, rfl, fun _ => rfl⟩, id, fun hlen => ?_⟩, State.movedOn_run (s := s.lugTaken i) hq hmax,
      (State.RunsHold.movedOn (s.lugTaken i)).productOf htables x.run⟩
    have := State.movedOn_reports (s := s.lugTaken i) (Nat.lt_of_le_of_lt hlen (by decide))
    have hle : (s.lugMoved i).ctl.reports.length ≤ s.ctl.reports.length + 1 := this
    split <;> omega
  · intro v k tag st' hm' hf hin' hb hP
    rcases hb with ⟨-, z, hz, -, hlt⟩ | ⟨rfl, hlt⟩
    · rw [hring] at hz
      obtain ⟨w, hw, rfl⟩ := List.mem_map.mp hz
      rw [Slot.moved_offset, Slot.moved_offset] at hlt
      exact absurd (hhead w hw) (by omega)
    · rw [x.moved_keeps.1]
      by_cases hpassed : st' ∈ x.passed
      · rw [hf.not_due fun z hz ht => .inr ?_]
        · exact hP
        · rw [Slot.eq_of_tag (hi.lugMoved i).apart.tags hz hin ht]
          exact hpassed
      · obtain rfl : st' = .tr := by
          cases st' with
          | sd => exact absurd (hsound.gw (hsound.cm hcm)) hpassed
          | gw => exact absurd (hsound.cm hcm) hpassed
          | cm => exact absurd hcm hpassed
          | tr => rfl
          | ex => exact absurd hlt (by decide)
        have hto : v.geo.station .tr ≤ x.offset + 1 := by
          rw [hf.geo, s.lugMoved_geo i, ho]
          exact Geometry.station_le hi.geometry.1 (st := .tr) (st' := .ex) (by decide)
        exact hP.arriveAt_tr hm' hk hpassed hto
  · intro v k hm' hf _ _ ⟨⟨y, hy, hyx, ⟨d, hd, hlead⟩, _, hrep⟩, hstands, hprod⟩
    have hyt : y.tag = x.tag := (congrArg Slot.tag hyx :)
    have hyr : y.run = x.run := (congrArg Slot.run hyx :)
    have hdue : v.geo.station .ex ≤ y.offset := by
      rw [hf.geo, s.lugMoved_geo i, show y.offset = x.offset + 1 from (congrArg Slot.offset hyx :)]
      exact Nat.le_of_eq ho.symm
    obtain ⟨h1, h2, h3⟩ := hm'.arriveAt_ex_exits hy ((congrArg Slot.kind hyx :).trans hk) hdue hd (hyr ▸ hstands) hmax
    have hentry : exitEntry (v.productOf y.run) v.geo.pitch y d = exitEntry (s.productOf x.run) s.geo.pitch x d := by
      rw [hyr, hprod, hf.geo, s.lugMoved_geo i, hyx]
      rfl
    have hpay : exitPayload (v.productOf y.run) v.geo.pitch y d = exitPayload (s.productOf x.run) s.geo.pitch x d := by
      rw [hyr, hprod, hf.geo, s.lugMoved_geo i, hyx]
      rfl
    rw [hyt] at h1 h2 h3
    rw [hentry] at h2
    rw [hpay] at h3
    exact ⟨h1, d, hlead, h2, fun hlen => h3 (Nat.le_trans (Nat.le_add_right ..) (hrep hlen))⟩
  · intro v tag st' hm' _ _ _ hlt ⟨h1, d, hlead, h2, h3⟩
    have hst : st' ≠ .ex := fun e => absurd (e ▸ hlt) (by decide)
    refine ⟨fun y hy => ?_, d, hlead, ?_, fun hlen => ?_⟩
    · obtain ⟨z, hz, hzt, -⟩ := ((State.From.refl v).arriveAt hm'.apart tag st').slots y hy
      exact hzt ▸ h1 z hz
    · rw [(State.arriveAt_keys hm'.apart.tags tag hst).2]
      exact h2
    · obtain ⟨f, hf, hfk⟩ := h3 hlen
      exact ⟨f, State.ReportsStay.arriveAt v tag hst f hf, hfk⟩

/-! ## What an exit counts and reports -/

section
variable (p : Product) (pitch : Nat) (x : Slot) {c : CommitRecord}

/-- A piece scrapped (R141). -/
theorem exitEntry_of_scrap (hk : c.keep = none) :
    gain (exitEntry p pitch x c) .scrapped = 1 ∧ gain (exitEntry p pitch x c) .value = 0
      ∧ ∀ g : Fin 8, gain (exitEntry p pitch x c) (.volume g) = 0 ∧ ∀ n : Fin 15, gain (exitEntry p pitch x c) (.kept g n) = 0 := by
  simp [exitEntry, hk]

/-- A piece kept (R141, R142). -/
theorem exitEntry_of_keep {k : Keep} (hk : c.keep = some k) :
    gain (exitEntry p pitch x c) .scrapped = 0 ∧ gain (exitEntry p pitch x c) .value = k.value
      ∧ ∀ g : Fin 8,
          gain (exitEntry p pitch x c) (.volume g) = (if k.grade.index = g then pieceVolume p pitch k.length else 0)
            ∧ ∀ n : Fin 15, gain (exitEntry p pitch x c) (.kept g n) =
                if k.grade.index = g ∧ lengthIndex k.length = n then 1 else 0 := by
  simp [exitEntry, hk]

/-- The flags of a piece (R141). -/
theorem exitEntry_flags (c : CommitRecord) :
    gain (exitEntry p pitch x c) .overridden = (if x.console.overrides.inForce = true then 1 else 0)
      ∧ gain (exitEntry p pitch x c) .fallback = (if c.source = .fallback then 1 else 0)
      ∧ gain (exitEntry p pitch x c) (.flag .overrideMissed) = (if c.overrideMissed = true then 1 else 0)
      ∧ gain (exitEntry p pitch x c) (.flag .trimMissed) = (if c.trimMissed = true then 1 else 0)
      ∧ gain (exitEntry p pitch x c) (.flag .inhibited) = (if c.inhibited = true then 1 else 0)
      ∧ gain (exitEntry p pitch x c) (.flag .manualConflict) = (if c.manualConflict = true then 1 else 0)
      ∧ gain (exitEntry p pitch x c) (.flag .scanPartial) = (if x.scan.scanPartial = true then 1 else 0)
      ∧ gain (exitEntry p pitch x c) (.flag .noProfile) = if x.scan.noProfile = true then 1 else 0 := by
  cases hk : c.keep <;> simp [exitEntry, hk]

/-- No other counter (R141). -/
theorem exitEntry_others (c : CommitRecord) :
    (∀ k ∈ [Counter.lost, .logsMeasured, .accepted, .rejected .fault, .rejected .sed, .rejected .length, .faulted, .acceptedVolume],
        gain (exitEntry p pitch x c) k = 0)
      ∧ ∀ j : Fin 8, gain (exitEntry p pitch x c) (.logClass j) = 0 := by
  cases hk : c.keep <;> simp [exitEntry, hk]

/-- The bytes of the decision and of the volume in an EXIT report (R142, section 11.3). -/
def decisionBytes (keep : Option Keep) : List Byte :=
  match keep with
  | some k =>
    ([0, u8 k.a, u8 k.b, match k.grade with | .graded g => u8 g | .ungraded => 8, u8 (k.b - k.a)] : List Byte)
      ++ u16 k.value ++ u32 ((p.thickness * p.width * ((k.b - k.a) * pitch * 100) + 500) / 1000)
  | none => [1, 0xFF, 0xFF, 0xFF, 0xFF, 0, 0, 0, 0, 0, 0]

theorem decisionBytes_eq (keep : Option Keep) :
    keepBytes keep ++ u32 ((keep.map fun k => pieceVolume p pitch k.length).getD 0) = decisionBytes p pitch keep := by
  cases keep with
  | none => exact (by decide : keepBytes none ++ u32 0 = [1, 0xFF, 0xFF, 0xFF, 0xFF, 0, 0, 0, 0, 0, 0])
  | some k => rfl

/-- The first 19 bytes of an EXIT report (R143, section 11.3). -/
def exitHead (c : CommitRecord) : List Byte :=
  u16 x.tag ++ u16 x.run ++ decisionBytes p pitch c.keep ++ [c.source.code] ++ u16 (c.generation.getD 0)
    ++ [flagByte
        [x.console.overrides.inForce, x.lugSynth, x.scan.scanPartial, x.scan.noProfile, c.noSpan, c.overrideMissed, c.inhibited,
          c.manualConflict]]

theorem exitHead_length (c : CommitRecord) : (exitHead p pitch x c).length = 19 := by
  unfold exitHead
  cases c.keep <;> rfl

theorem exitPayload_eq (c : CommitRecord) :
    exitPayload p pitch x c =
      exitHead p pitch x c ++ ([flagByte [c.trimMissed]] ++ maskBytes (c.masks.get 0) ++ maskBytes (c.masks.get 1)) := by
  unfold exitPayload exitHead
  rw [List.append_assoc (u16 x.tag ++ u16 x.run), decisionBytes_eq]
  simp only [List.append_assoc, List.cons_append, List.nil_append]

theorem exitPayload_take (c : CommitRecord) : (exitPayload p pitch x c).take 19 = exitHead p pitch x c := by
  rw [exitPayload_eq, List.take_left' (exitHead_length p pitch x c)]

/-- The bytes after them, and how many there are. -/
theorem exitPayload_drop (c : CommitRecord) :
    (exitPayload p pitch x c).drop 19 =
        ([if c.trimMissed then 1 else 0] : List Byte)
          ++ ((List.finRange 2).flatMap fun m =>
            match c.masks.get m with
            | some r => ([1, r.mask, r.down] : List Byte)
            | none => [0, 0, 0])
      ∧ (exitPayload p pitch x c).length = 26 := by
  have hmask : ∀ r, (maskBytes r).length = 3 := fun r => by cases r <;> rfl
  rw [exitPayload_eq]
  refine ⟨?_, ?_⟩
  · rw [List.drop_left' (exitHead_length p pitch x c), List.append_assoc]
    refine congrArg₂ (· ++ ·) ?_ ?_
    · cases c.trimMissed <;> rfl
    · rw [show List.finRange 2 = [0, 1] from by decide, List.flatMap_cons, List.flatMap_cons, List.flatMap_nil, List.append_nil]
      rfl
  · rw [List.length_append, exitHead_length, List.length_append, List.length_append, hmask, hmask]
    rfl

end

/-- A counter that an entry adds 1 to where a condition holds. -/
theorem counted_of_gain {g new old top : Nat} {P : Prop} [Decidable P] (h : new = min (old + g) top) (hg : g = if P then 1 else 0)
    (hle : old ≤ top) : new = if P then min (old + 1) top else old := by
  rw [h, hg]
  split
  · rfl
  · rw [Nat.add_zero, Nat.min_eq_left hle]

/-- A counter that an entry adds nothing to. -/
theorem uncounted_of_gain {g new old top : Nat} (h : new = min (old + g) top) (hg : g = 0) (hle : old ≤ top) : new = old := by
  rw [h, hg, Nat.add_zero, Nat.min_eq_left hle]

end

/-- Settles O47: the piece's own arrivals at TR and EX, no slot being ahead of it, and those behind it after. -/
theorem exitEntersTheTally : Obligations.ExitEntersTheTally := by
  intro i left x c q s hi hl hf ht hr hp hx hk ho hc hq
  obtain ⟨hgone, d, ⟨hdc, hpast⟩, ⟨q', hq', hseq, hget⟩, hrep⟩ := hi.gone (i := i) hx hk ho hc hq
  have hmax : ∀ k, q.tally.get k ≤ Config.tallyMax := fun k => by
    obtain ⟨-, hall, -⟩ := hi.runs
    exact ((hall q (List.mem_of_find?_eq_some hq)).2.2 k).1
  have hkeep : d.keep = c.keep := (congrArg CommitRecord.keep hdc :)
  obtain ⟨f1, f2, f3, f4, f5, f6, f7, f8⟩ := exitEntry_flags (s.productOf x.run) s.geo.pitch x d
  obtain ⟨o1, o2⟩ := exitEntry_others (s.productOf x.run) s.geo.pitch x d
  have hsource : d.source = c.source := (congrArg CommitRecord.source hdc :)
  have hmissed : d.overrideMissed = c.overrideMissed := (congrArg CommitRecord.overrideMissed hdc :)
  have hinhibited : d.inhibited = c.inhibited := (congrArg CommitRecord.inhibited hdc :)
  have hconflict : d.manualConflict = c.manualConflict := (congrArg CommitRecord.manualConflict hdc :)
  refine ⟨_, q', exec_lugDue ⟨hl, hf, ht, hr, hp⟩, fun y hy => ?_, hq', hseq, fun hkn => ?_, fun k j hks hgrade => ?_,
    ⟨?_, ?_, ?_, fun htr => ?_, ?_, ?_, ?_, ?_⟩, fun k hkm => ?_, ?_, fun hlen => ?_⟩
  · rcases List.mem_append.mp hy with hy | hy
    · exact hgone y hy
    · rw [List.mem_singleton.mp hy]
      intro e
      have hfresh := State.ringKept.next_fresh hi.ring
      have hnew : ((s.lugTaken i).beforeCreate.newSlot false).tag = s.tracker.nextTag := (s.lugTaken i).beforeCreate_nextTag
      exact hfresh (List.mem_map.mpr ⟨x, List.mem_of_head? hx, e.symm.trans hnew⟩)
  · obtain ⟨g1, g2, g3⟩ := exitEntry_of_scrap (s.productOf x.run) s.geo.pitch x (hkeep.trans hkn)
    refine ⟨?_, uncounted_of_gain (hget .value nofun) g2 (hmax .value), Bank.eq_of_get fun g => ?_,
      Bank.eq_of_get fun g => Bank.eq_of_get fun n => ?_⟩
    · rw [← g1]
      exact hget .scrapped nofun
    · exact uncounted_of_gain (hget (.volume g) nofun) (g3 g).1 (hmax (.volume g))
    · exact uncounted_of_gain (hget (.kept g n) nofun) ((g3 g).2 n) (hmax (.kept g n))
  · obtain ⟨g1, g2, g3⟩ := exitEntry_of_keep (s.productOf x.run) s.geo.pitch x (hkeep.trans hks)
    have hindex : k.grade.index = j := by
      rw [hgrade]
      split
      · next h7 => exact Fin.ext h7.symm
      · next h7 =>
        refine Fin.ext ?_
        show min (j.val + 1 - 1) 6 = j.val
        omega
    refine ⟨uncounted_of_gain (hget .scrapped nofun) g1 (hmax .scrapped), ?_, ?_, fun g hg => ?_, fun l hl => ⟨?_, fun g n hgn => ?_⟩⟩
    · rw [← g2]
      exact hget .value nofun
    · have := hget (.volume j) nofun
      rw [(g3 j).1, if_pos hindex] at this
      exact this
    · exact uncounted_of_gain (hget (.volume g) nofun) ((g3 g).1.trans (if_neg fun e => hg (e.symm.trans hindex))) (hmax (.volume g))
    · have hlength : lengthIndex k.length = l := by
        refine Fin.ext ?_
        show min (k.b - k.a - 1) 14 = l.val
        omega
      have := hget (.kept j l) nofun
      rw [(g3 j).2 l, if_pos ⟨hindex, hlength⟩] at this
      exact this
    · refine uncounted_of_gain (hget (.kept g n) nofun) (((g3 g).2 n).trans (if_neg ?_)) (hmax (.kept g n))
      rintro ⟨eg, en⟩
      rcases hgn with hg | hn
      · exact hg (eg.symm.trans hindex)
      · refine hn (en.symm.trans (Fin.ext ?_))
        show min (k.b - k.a - 1) 14 = l.val
        omega
  · exact counted_of_gain (hget .overridden nofun) f1 (hmax .overridden)
  · exact counted_of_gain (hget .fallback nofun) (hsource ▸ f2) (hmax .fallback)
  · exact counted_of_gain (hget (.flag .overrideMissed) nofun) (hmissed ▸ f3) (hmax (.flag .overrideMissed))
  · exact counted_of_gain (hget (.flag .trimMissed) nofun) (hpast htr ▸ f4) (hmax (.flag .trimMissed))
  · exact counted_of_gain (hget (.flag .inhibited) nofun) (hinhibited ▸ f5) (hmax (.flag .inhibited))
  · exact counted_of_gain (hget (.flag .manualConflict) nofun) (hconflict ▸ f6) (hmax (.flag .manualConflict))
  · exact counted_of_gain (hget (.flag .scanPartial) nofun) f7 (hmax (.flag .scanPartial))
  · exact counted_of_gain (hget (.flag .noProfile) nofun) f8 (hmax (.flag .noProfile))
  · exact uncounted_of_gain (hget k fun e => by rw [e] at hkm; simp at hkm) (o1 k hkm) (hmax k)
  · exact Bank.eq_of_get fun j => uncounted_of_gain (hget (.logClass j) nofun) (o2 j) (hmax (.logClass j))
  · obtain ⟨f, hf, hfk, hfp⟩ := hrep hlen
    obtain ⟨h1, h2⟩ := exitPayload_drop (s.productOf x.run) s.geo.pitch x d
    refine ⟨f, hf, hfk, ?_, ?_, fun htr => ?_⟩
    · rw [hfp]
      exact h2
    · rw [hfp, exitPayload_take, hdc]
      rfl
    · rw [hpast htr] at hfp h1
      exact (congrArg (List.drop 19) hfp).trans h1

end Sys2Proof.Machine


/-! PROOF. The arrival at CM: the decision, the withdrawal and the exchange that begins (R49, R56, R84, R88, R99 to R112; O37). -/

namespace Sys2Proof.Machine

-- One proof after the other: together they would ask for more threads than the check has memory for.
set_option Elab.async false

section
variable {s t u : State} {tag : Nat} {st : Station} {x : Slot}

/-! ## The decision -/

/-- A decision with its fresh commit record (R99, R104). -/
theorem State.decision_fresh (s : State) (x : Slot) :
    (s.decision x).inhibited = s.inhibitActive
      ∧ (s.decision x).pattern =
          (if s.inhibitActive then List.replicate s.geo.saws false else sawPattern s.geo x.scan.extent (s.decision x).keep)
      ∧ ((s.decision x).results, (s.decision x).masks, (s.decision x).manualConflict, (s.decision x).trimMissed, (s.decision x).trimmed) =
          (Bank.fill 2 .notStarted, Bank.fill 2 none, false, false, false) := by
  unfold State.decision
  cases x.solution <;> exact ⟨rfl, rfl, rfl⟩

/-- The stored solution honoured (R99, R100). -/
theorem State.decision_of_solution {sol : Solution} (h : x.solution = some sol) (s : State) :
    ((s.decision x).keep, (s.decision x).noSpan, (s.decision x).source, (s.decision x).generation) =
        (sol.keep, sol.noSpan, sol.source, some sol.generation)
      ∧ (s.decision x).overrideMissed = (sol.generation != x.generation) := by
  unfold State.decision
  rw [h]
  exact ⟨rfl, rfl⟩

/-- The fallback without a solution (R99). -/
theorem State.decision_of_none (h : x.solution = none) (s : State) :
    ((s.decision x).source, (s.decision x).generation, (s.decision x).overrideMissed) = (.fallback, none, false)
      ∧ (s.decision x).keep =
          (fallbackDecision s.geo (s.productOf x.run) x.console.overrides x.scan.cells x.scan.extent).keep
      ∧ (s.decision x).noSpan =
          (fallbackDecision s.geo (s.productOf x.run) x.console.overrides x.scan.cells x.scan.extent).noSpan := by
  unfold State.decision
  rw [h]
  exact ⟨rfl, rfl, rfl⟩

/-- The fallback where a span may be kept: the longest valid one, among equals the nearest the fence (R49). -/
theorem fallbackDecision_of_extent {g : Geometry} {p : Product} {o : Overrides} {cells : List Cell} {e : Nat} :
    if o.forcedScrap = true ∨ p.fallback = .scrap then
      ((fallbackDecision g p o cells (some e)).keep, (fallbackDecision g p o cells (some e)).noSpan) = (none, false)
    else
      ((fallbackDecision g p o cells (some e)).keep = none ↔
          ∀ a b, ¬(b < g.saws ∧ spanAllowed g.pitch e cells p.minLength o.forcedLength a b))
        ∧ ((fallbackDecision g p o cells (some e)).noSpan = true ↔ (fallbackDecision g p o cells (some e)).keep = none)
        ∧ ∀ k, (fallbackDecision g p o cells (some e)).keep = some k →
            (k.b < g.saws ∧ spanAllowed g.pitch e cells p.minLength o.forcedLength k.a k.b)
              ∧ (k.grade, k.value) = (.ungraded, 0)
              ∧ ∀ a b, (b < g.saws ∧ spanAllowed g.pitch e cells p.minLength o.forcedLength a b) →
                  b - a < k.b - k.a ∨ (b - a = k.b - k.a ∧ k.a ≤ a) := by
  by_cases hs : o.forcedScrap = true ∨ p.fallback = .scrap
  · rw [if_pos hs]
    unfold fallbackDecision
    dsimp only
    rw [if_pos (by simpa using hs)]
  · rw [if_neg hs]
    unfold fallbackDecision
    dsimp only
    rw [if_neg (by simpa using hs)]
    obtain ⟨hnone, hsome⟩ := choose_validSpans (g := g) (e := e) (cells := cells) (minLength := p.minLength) (forced := o.forcedLength)
      (grade := fun _ _ => .ungraded) (value := fun _ _ => 0) rfl
    refine ⟨hnone, Option.isNone_iff_eq_none, fun k hk => ?_⟩
    obtain ⟨h1, h2, h3, h4⟩ := hsome k hk
    refine ⟨h1, Prod.ext h2 h3, fun a b hv => ?_⟩
    rcases h4 a b hv with h | ⟨-, h⟩
    · rw [h3] at h
      exact absurd h (Nat.not_lt_zero _)
    · exact h

/-! ## The causes of a commit -/

/-- A BOARD piece's arrival at CM leaves its causes pending (R99). -/
theorem State.arriveAt_cm_isPending (hx : u.slot? tag = some x) (ho : u.geo.station .cm ≤ x.offset) (hp : Station.cm ∉ x.passed)
    (hk : x.kind = .board) :
    (x.solution = none → (u.arriveAt tag .cm).isPending .solveOverrun = true)
      ∧ ∀ sol, x.solution = some sol → sol.generation ≠ x.generation → (u.arriveAt tag .cm).isPending .overrideMissed = true := by
  let w := (u.updateSlot tag (Slot.pass .cm)).endSolving (x.pass .cm)
  let v := w.updateSlot tag fun y => { y with commit := some (w.decision (x.pass .cm)) }
  obtain ⟨-, htag⟩ := State.slot?_some hx
  have hctl : (u.arriveAt tag .cm).ctl = (v.raiseCommit (x.pass .cm)).ctl := by
    rw [State.arriveAt_of_due hx ho hp]
    show (State.arriveCM _ (x.pass .cm)).ctl = _
    unfold State.arriveCM
    rw [if_pos (beq_iff_eq.mpr hk : ((x.pass .cm).kind == .board) = true)]
    refine ((w.commitPiece (x.pass .cm)).closeWindow_keeps (x.pass .cm)).2.2.2.1.trans ?_
    unfold State.commitPiece
    dsimp only
    rw [State.beginModule_ctl, State.abandonExchange_ctl, Slot.pass_tag, htag]
  have hpend : ∀ c, (v.raiseCommit (x.pass .cm)).isPending c = true → (u.arriveAt tag .cm).isPending c = true := fun c h => by
    unfold State.isPending
    rw [hctl]
    exact h
  have hsol : (x.pass .cm).solution = x.solution := rfl
  refine ⟨fun hn => hpend _ ?_, fun sol hs hne => hpend _ ?_⟩
  · unfold State.raiseCommit
    rw [hsol, hn]
    exact (State.raise_isPending _ _).1
  · unfold State.raiseCommit
    rw [hsol, hs]
    dsimp only
    rw [if_pos (bne_iff_ne.mpr hne : (sol.generation != (x.pass .cm).generation) = true)]
    exact (State.raise_isPending _ _).1

/-! ## The exchange of another piece -/

/-- The piece with this tag, where it is still in the ring: its exchange is as in `s` or has ended, its results accordingly. -/
def State.exchangeFollows (s v : State) (tag : Nat) (r : Bank 2 ModuleResult) : Prop :=
  ∀ z ∈ v.tracker.ring, z.tag = tag → ∃ d, z.commit = some d
    ∧ ((v.saw.exchange = s.saw.exchange ∧ d.results = r)
      ∨ ((∀ e ∈ v.saw.exchange, e.tag ≠ tag) ∧ d.results = abandonResults s.saw.exchange tag r))

theorem State.exchangeFollows.arriveAt_other {r : Bank 2 ModuleResult} {piece : Nat} (h : s.exchangeFollows u piece r) (hm : u.Moving)
    (hne : tag ≠ piece) (st : Station) : s.exchangeFollows (u.arriveAt tag st) piece r := by
  intro z hz hzt
  obtain ⟨y, hy, hyz, -⟩ := ((State.From.refl u).arriveAt hm.apart tag st).slots z hz
  have hyt := hyz.trans hzt
  obtain ⟨d, hd, hcase⟩ := h y hy hyt
  obtain ⟨ex, hends, hother⟩ := hm.arriveAt_other tag st
  have hin := hother y hy (hyt.trans_ne hne.symm)
  obtain rfl : z = y.abandonedBy ex := Slot.eq_of_tag (hm.apart.arriveAt tag st).tags hz hin
    (hyz.symm.trans (Slot.abandonedBy_tag ex y).symm)
  refine ⟨_, Slot.abandonedBy_commit hd ex, ?_⟩
  rw [hyt]
  rcases hends with ⟨rfl, hsame⟩ | ⟨rfl, hnew⟩
  · rw [hsame]
    exact hcase
  · refine .inr ⟨fun e he => (hnew e he).trans_ne hne, ?_⟩
    rcases hcase with ⟨h1, h2⟩ | ⟨h1, h2⟩
    · rw [h1, h2]
    · exact (abandonResults_of_ne h1 _).trans h2

/-- The piece itself may come to TR, which ends its exchange, and leave at EX. -/
theorem State.exchangeFollows.arriveAt_own {r : Bank 2 ModuleResult} (h : s.exchangeFollows u tag r) (hm : u.Moving) (st : Station) :
    s.exchangeFollows (u.arriveAt tag st) tag r := by
  intro z hz hzt
  obtain ⟨y, hy, hyz, -⟩ := ((State.From.refl u).arriveAt hm.apart tag st).slots z hz
  have hyt := hyz.trans hzt
  obtain ⟨d, hd, hcase⟩ := h y hy hyt
  have hsound := hm.sound hy
  obtain ⟨hk, hcm⟩ := hsound.kind_board hd
  have hslot := hyt ▸ State.slot?_of_mem hm.apart.tags hy
  by_cases hdue : st ∉ y.passed ∧ u.geo.station st ≤ y.offset
  · obtain ⟨hp, ho⟩ := hdue
    cases st with
    | sd => exact absurd (hsound.gw (hsound.cm hcm)) hp
    | gw => exact absurd (hsound.cm hcm) hp
    | cm => exact absurd hcm hp
    | tr =>
      obtain ⟨d0, d1, hd0, hd1, hin, -⟩ := hm.arriveAt_tr_piece hy hk ho hp hd
      rw [hyt] at hin hd0
      obtain rfl := Slot.eq_of_tag (hm.apart.arriveAt tag .tr).tags hz hin hyz.symm
      have hres : d1.results = abandonResults u.saw.exchange tag d.results := by
        rw [hd1]
        exact congrArg CommitRecord.results hd0
      refine ⟨d1, rfl, .inr ⟨fun e he ht => ?_, ?_⟩⟩
      · rw [State.arriveAt_tr_saw hslot ho hp, if_pos hk] at he
        have he' : (if u.saw.exchange.map (·.tag) = some tag then none else u.saw.exchange) = some e := he
        split at he'
        · cases he'
        · next hno => exact hno (by rw [he', Option.map_some, ht])
      · rw [hres]
        rcases hcase with ⟨h1, h2⟩ | ⟨h1, h2⟩
        · rw [h1, h2]
        · exact (abandonResults_of_ne h1 _).trans h2
    | ex =>
      rw [State.arriveAt_ex_ring hm.apart.tags hm.apart.inLine] at hz
      obtain rfl := Slot.eq_of_tag hm.apart.tags (List.mem_filter.mp hz).1 hy hyz.symm
      rw [State.arriveAt_saw (st := .ex) u tag nofun nofun]
      exact ⟨d, hd, hcase⟩
  · have hsame : u.arriveAt tag st = u := State.arriveAt_of_not_due fun w hw hwp => Nat.lt_of_not_le fun ho => by
      obtain rfl := Option.some.inj (hslot.symm.trans hw)
      exact hdue ⟨hwp, ho⟩
    rw [hsame] at hz ⊢
    exact h z hz hzt

theorem State.exchangeFollows.arriveAt {r : Bank 2 ModuleResult} {piece : Nat} (h : s.exchangeFollows u piece r) (hm : u.Moving)
    (tag : Nat) (st : Station) : s.exchangeFollows (u.arriveAt tag st) piece r := by
  by_cases ht : tag = piece
  · subst ht
    exact h.arriveAt_own hm st
  · exact h.arriveAt_other hm ht st

/-- Through an advance in which a slot comes to a station. -/
theorem State.Inv.exchangeFollows {i : Fin 8} {z : Slot} {d : CommitRecord} (hi : s.Inv) (hz : z ∈ s.tracker.ring) (hd : z.commit = some d)
    (hx : x ∈ s.tracker.ring) (ho : x.offset + 1 = s.geo.station st) :
    s.exchangeFollows (s.lugTaken i).beforeCreate z.tag d.results := by
  have hring := State.lugMoved_ring hi i
  have hstart : s.exchangeFollows (s.lugMoved i) z.tag d.results := by
    intro z' hz' ht
    rw [hring] at hz'
    obtain ⟨w, hw, rfl⟩ := List.mem_map.mp hz'
    obtain rfl := hi.ring.eq_of_tag hw hz (w.moved_keeps.1.symm.trans ht)
    obtain ⟨-, hall, -⟩ := hi.ring
    obtain ⟨hk, -⟩ := ((s.slotsKept_iff.mp hi.slots).1 w hz).kind_board hd
    have h0 : w.offset ≠ 0 := fun h0 => absurd (hk.symm.trans ((hall w hz).2.2.mpr h0)) nofun
    refine ⟨d, ?_, .inl ⟨congrArg SawBus.exchange (s.lugTaken i).movedOn_keeps.2.1, rfl⟩⟩
    rw [Slot.moved_of_pos h0]
    exact hd
  exact hi.lugDue_around (P := fun _ v => s.exchangeFollows v z.tag d.results) (Q := fun v => s.exchangeFollows v z.tag d.results)
    hx ho hstart
    (fun hm _ _ _ h => h.arriveAt hm _ _) (fun hm _ _ _ h => h.arriveAt hm _ _) fun hm _ _ _ _ h => h.arriveAt hm _ _

/-! ## On the way to CM -/

/-- The decision reads only what a slot's earlier arrivals leave of it. -/
theorem State.decision_congr {y : Slot} (hi : u.inhibitActive = s.inhibitActive) (hg : u.geo = s.geo)
    (hp : u.productOf x.run = s.productOf x.run) (hs : y.solution = x.solution) (hgen : y.generation = x.generation)
    (hr : y.run = x.run) (ho : y.console.overrides = x.console.overrides) (hc : y.scan.cells = x.scan.cells)
    (he : y.scan.extent = x.scan.extent) : u.decision y = s.decision x := by
  unfold State.decision
  rw [hi, hg, hs, hgen, hr, hp, ho, hc, he]

theorem State.arriveAt_modules (hm : 0 < u.tables.sawBus.modules) (tag : Nat) (st : Station) :
    (u.arriveAt tag st).saw.modules = u.saw.modules := by
  by_cases hd : ∃ x, u.slot? tag = some x ∧ st ∉ x.passed ∧ u.geo.station st ≤ x.offset
  · obtain ⟨x, hx, hp, ho⟩ := hd
    cases st with
    | cm =>
      by_cases hk : x.kind = .board
      · rw [State.arriveAt_cm_saw hx ho hp hk hm]
        split <;> rfl
      · rw [State.arriveAt_cm_saw_of_not_board hx ho hp hk]
    | tr =>
      rw [State.arriveAt_tr_saw hx ho hp]
      split <;> rfl
    | sd => rw [State.arriveAt_saw (st := .sd) u tag nofun nofun]
    | gw => rw [State.arriveAt_saw (st := .gw) u tag nofun nofun]
    | ex => rw [State.arriveAt_saw (st := .ex) u tag nofun nofun]
  · rw [State.arriveAt_of_not_due fun x hx hp => Nat.lt_of_not_le fun ho => hd ⟨x, hx, hp, ho⟩]

/-- Only a BOARD piece that comes to CM starts a wait. -/
theorem State.arriveAt_wait_none (hw : u.saw.wait = none)
    (hno : ∀ y ∈ u.tracker.ring, y.tag = tag → y.kind = .board → st = .cm → Station.cm ∈ y.passed) :
    (u.arriveAt tag st).saw.wait = none := by
  by_cases hd : ∃ x, u.slot? tag = some x ∧ st ∉ x.passed ∧ u.geo.station st ≤ x.offset
  · obtain ⟨x, hx, hp, ho⟩ := hd
    obtain ⟨hm, htag⟩ := State.slot?_some hx
    cases st with
    | cm =>
      rw [State.arriveAt_cm_saw_of_not_board hx ho hp fun hk => hp (hno x hm htag hk rfl)]
      exact hw
    | tr =>
      rw [State.arriveAt_tr_saw hx ho hp]
      split <;> exact hw
    | sd => rwa [State.arriveAt_saw (st := .sd) u tag nofun nofun]
    | gw => rwa [State.arriveAt_saw (st := .gw) u tag nofun nofun]
    | ex => rwa [State.arriveAt_saw (st := .ex) u tag nofun nofun]
  · rwa [State.arriveAt_of_not_due fun x hx hp => Nat.lt_of_not_le fun ho => hd ⟨x, hx, hp, ho⟩]

/-- A slot that has not come to CM has no commit record. -/
theorem Slot.Sound.uncommitted {e : Option Nat} (h : x.Sound e) (hp : Station.cm ∉ x.passed) : x.commit = none :=
  Option.not_isSome_iff_eq_none.mp (fun hs => hp (h.commit.mp hs).2)

theorem Slot.abandonedBy_of_none (h : x.commit = none) (ex : Option Exchange) : x.abandonedBy ex = x := by
  cases ex with
  | none => rfl
  | some e =>
    unfold Slot.abandonedBy Slot.setCommit
    dsimp only
    rw [h]
    split
    · exact (congrArg (fun c : Option CommitRecord => { x with commit := c }) h.symm :)
    · rfl

/-- The slot `x` moved on, its earlier arrivals made: its deadline may have passed and its window opened. -/
def Slot.OnWay (x y : Slot) : Prop :=
  y = { x.further with
        passed := y.passed, scan := { x.scan with deadlinePassed := y.scan.deadlinePassed }
        console := { x.console with window := y.console.window } }
    ∧ Station.cm ∉ y.passed

/-- The pieces ahead of `x` have come to CM. -/
def State.aheadCommitted (s : State) (x : Slot) : Prop :=
  ∀ z ∈ s.tracker.ring, x.offset < z.offset → z.kind = .board → Station.cm ∈ z.passed

/-- What the arrivals before that of `x` at CM hand on, having put at most `k` frames on each console's queue. -/
structure State.TowardCommit (s : State) (x : Slot) (k : Nat) (v : State) : Prop where
  piece : ∃ y ∈ v.tracker.ring, x.OnWay y
  offers : s.offersWithin k v
  runs : s.RunsHold v
  inhibit : v.inhibitActive = s.inhibitActive
  modules : v.saw.modules = s.saw.modules
  waiting : ∀ w, s.saw.wait = some w → v.saw.wait = some w
  idle : s.saw.wait = none → s.aheadCommitted x → v.saw.wait = none

namespace State.TowardCommit

theorem arriveAt {k : Nat} (h : s.TowardCommit x k u) (hmod : 0 < u.tables.sawBus.modules)
    (hpiece : ∃ y ∈ (u.arriveAt tag st).tracker.ring, x.OnWay y)
    (hno : s.aheadCommitted x → ∀ y ∈ u.tracker.ring, y.tag = tag → y.kind = .board → st = .cm → Station.cm ∈ y.passed) :
    s.TowardCommit x (k + st.offers) (u.arriveAt tag st) where
  piece := hpiece
  offers := h.offers.arriveAt tag st
  runs := h.runs.trans (State.RunsHold.arriveAt u tag st)
  inhibit := ((State.LineFrame.arriveAt u tag st).inputActive .trimInhibit).trans h.inhibit
  modules := (State.arriveAt_modules hmod tag st).trans h.modules
  waiting := fun w hw => State.arriveAt_wait (h.waiting w hw) hmod tag st
  idle := fun hw ha => State.arriveAt_wait_none (h.idle hw ha) (hno ha)

theorem piece_other {k : Nat} (h : s.TowardCommit x k u) (hm : u.Moving) (hne : tag ≠ x.tag) (st : Station) :
    ∃ y ∈ (u.arriveAt tag st).tracker.ring, x.OnWay y := by
  obtain ⟨y, hy, he, hp⟩ := h.piece
  have hyt : y.tag = x.tag := (congrArg Slot.tag he :)
  obtain ⟨ex, hends, hother⟩ := hm.arriveAt_other tag st
  have hsame := Slot.abandonedBy_of_none ((hm.sound hy).uncommitted hp) ex
  exact ⟨y, hsame ▸ hother y hy (hyt.trans_ne hne.symm), he, hp⟩

/-- The piece's own arrivals at SD and GW, its scan closed. -/
theorem piece_own {k : Nat} (h : s.TowardCommit x k u) (hm : u.Moving) (hopen : x.scan.status ≠ .open) (hst : st = .sd ∨ st = .gw) :
    ∃ y ∈ (u.arriveAt x.tag st).tracker.ring, x.OnWay y := by
  obtain ⟨y, hy, he, hp⟩ := h.piece
  have hyt : y.tag = x.tag := (congrArg Slot.tag he :)
  have hslot := hyt ▸ State.slot?_of_mem hm.apart.tags hy
  by_cases hd : st ∉ y.passed ∧ u.geo.station st ≤ y.offset
  · obtain ⟨hp', ho⟩ := hd
    rcases hst with rfl | rfl
    · obtain ⟨hrest, hclosed⟩ := y.atSD_rest
      obtain ⟨hso, hsc⟩ := hclosed (by rw [he]; exact hopen)
      refine ⟨y.atSD, ?_, ?_, ?_⟩
      · rw [State.arriveAt_sd_ring hslot hp' ho]
        exact List.mem_map_of_eq hy (if_pos (beq_iff_eq.mpr hyt))
      · rw [hrest, hso, hsc, he]
        rfl
      · rw [show y.atSD.passed = y.passed ++ [.sd] from (congrArg Slot.passed hrest :)]
        simpa using hp
    · refine ⟨y.atGW, ?_, ?_, ?_⟩
      · rw [State.arriveAt_gw_ring hslot hp' ho]
        exact List.mem_map_of_eq hy (if_pos (beq_iff_eq.mpr hyt))
      · rw [he]
        rfl
      · show Station.cm ∉ y.passed ++ [.gw]
        simpa using hp
  · rw [State.arriveAt_of_not_due fun z hz hzp => Nat.lt_of_not_le fun ho => ?_]
    · exact h.piece
    · obtain rfl := Option.some.inj (hslot.symm.trans hz)
      exact hd ⟨hzp, ho⟩

end State.TowardCommit

/-! ## The arrival -/

/-- The piece `x` committed: its decision, its offer withdrawn, and its exchange begun. -/
structure State.Committed (s : State) (x : Slot) (v : State) : Prop where
  piece : ∃ y ∈ v.tracker.ring, y.tag = x.tag ∧ y.commit = some (s.decision x) ∧ y.console.window = .closed
    ∧ y.console.holder = none ∧ y.solution = x.solution ∧ ∃ r, y.solve = some r ∧ r.status = .closed
  overrun : x.solution = none → v.isPending .solveOverrun = true
  missed : ∀ sol, x.solution = some sol → sol.generation ≠ x.generation → v.isPending .overrideMissed = true
  consoles : ∀ n : Fin 4, (s.consoles.get n).subscribed = true →
    (∀ f ∈ (v.consoles.get n).queue, f.isProposalFor x.tag = false)
      ∧ ((s.consoles.get n).offersWaiting + 2 * s.tracker.ring.length ≤ 32 →
          .withdraw x.tag (withdrawFrame x.tag .commit) ∈ (v.consoles.get n).queue)
  own : ∀ e ∈ v.saw.exchange, e.tag = x.tag
  held : ∀ w, s.saw.wait = some w →
    v.saw.exchange = some (s.saw.begun x.tag 0 s.tables.sawBus.timeout .readDue) ∧ v.saw.wait = some w
  begun : s.saw.wait = none → s.aheadCommitted x →
    v.saw.exchange = some (s.saw.begun x.tag 0 s.tables.sawBus.timeout .readState)
      ∧ v.saw.wait = some (2 * s.tables.sawBus.timeout) ∧ v.saw.sent = some (busWire 0x61 [1])

/-- A console subscribed holds no PROPOSAL of a piece withdrawn, and its WITHDRAW where it had room (R84). -/
theorem Console.withdraw_withdrawn (c : Console) (tag : Nat) (f : Frame) :
    (∀ g ∈ (c.withdraw tag f).queue, g.isProposalFor tag = false)
      ∧ (c.offersWaiting < 32 → .withdraw tag f ∈ (c.withdraw tag f).queue) := by
  have hkept : ∀ g ∈ c.queue.filter fun g => !g.isProposalFor tag, g.isProposalFor tag = false := fun g hg => by
    simpa using (List.mem_filter.mp hg).2
  rw [Console.withdraw_eq]
  refine ⟨?_, fun hroom => ?_⟩
  · split
    · intro g hg
      rcases List.mem_append.mp hg with hg | hg
      · exact hkept g hg
      · rw [List.mem_singleton.mp hg]
        rfl
    · exact hkept
  · rw [if_pos (Nat.lt_of_le_of_lt (List.Sublist.countP_le List.filter_sublist) hroom)]
    exact List.mem_append_right _ (List.mem_singleton_self _)

/-- What abandoning the exchange of another piece leaves of a slot just committed. -/
theorem Slot.atCM_own {ex : Option Exchange} (h : ∀ e ∈ ex, e.tag ≠ x.tag) (c : CommitRecord) :
    x.atCM x.tag c ex = ((x.pass .cm).committed c).withdrawn := by
  unfold Slot.atCM
  rw [if_pos rfl, Slot.abandonedBy_of_ne (y := (x.pass .cm).committed c) h]

theorem State.TowardCommit.committed {k : Nat} (h : s.TowardCommit x k u) (hm : u.Moving) (htab : u.tables = s.tables)
    (hmod : 0 < s.tables.sawBus.modules) (hk : x.kind = .board) (hopen : x.scan.status ≠ .open)
    (ho : x.offset + 1 = s.geo.cm) (hlen : k + 1 ≤ 2 * s.tracker.ring.length) : s.Committed x (u.arriveAt x.tag .cm) := by
  obtain ⟨y, hy, he, hp⟩ := h.piece
  have hyt : y.tag = x.tag := (congrArg Slot.tag he :)
  have hyk : y.kind = .board := (congrArg Slot.kind he :).trans hk
  have hys : y.solution = x.solution := (congrArg Slot.solution he :)
  have hyg : y.generation = x.generation := (congrArg Slot.generation he :)
  have hslot := hyt ▸ State.slot?_of_mem hm.apart.tags hy
  have hgeo : u.geo = s.geo := congrArg Tables.geometry htab
  have hyo : u.geo.station .cm ≤ y.offset := by
    rw [hgeo, show y.offset = x.offset + 1 from (congrArg Slot.offset he :)]
    exact Nat.le_of_eq ho.symm
  have hother : ∀ e ∈ u.saw.exchange, e.tag ≠ y.tag := fun e hex ht => by
    obtain ⟨z, hz, hzt, -, hcm, -⟩ := hm.exchange e hex
    rw [Slot.eq_of_tag hm.apart.tags hz hy (hzt.trans ht)] at hcm
    exact hp hcm
  have hdec : (u.updateSlot x.tag (Slot.pass .cm)).decision (y.pass .cm) = s.decision x := by
    refine State.decision_congr (x := x) (y := y.pass .cm) h.inhibit hgeo (h.runs.productOf htab x.run) hys hyg
      (congrArg Slot.run he :) ?_ ?_ ?_
    · exact (congrArg (fun z : Slot => z.console.overrides) he :)
    · exact (congrArg (fun z : Slot => z.scan.cells) he :)
    · exact (congrArg (fun z : Slot => z.scan.extent) he :)
  obtain ⟨r, hr⟩ : ∃ r, y.solve = some r := Option.isSome_iff_exists.mp <|
    (hm.sound hy).solve.mpr ⟨hyk, by rw [he]; exact hopen⟩
  obtain ⟨hover, hmiss⟩ := State.arriveAt_cm_isPending hslot hyo hp hyk
  have hsaw := State.arriveAt_cm_saw hslot hyo hp hyk (htab ▸ hmod)
  have hbegun : ∀ phase, u.saw.begun x.tag 0 u.tables.sawBus.timeout phase = s.saw.begun x.tag 0 s.tables.sawBus.timeout phase :=
    fun phase => by
      unfold SawBus.begun
      rw [h.modules, htab]
  rw [hbegun, hbegun, htab] at hsaw
  refine ⟨⟨((y.pass .cm).committed (s.decision x)).withdrawn, ?_, hyt, rfl, rfl, rfl, ?_, r.close, ?_, rfl⟩,
    fun hn => hover (hys.trans hn), fun sol hsol hne => hmiss sol (hys.trans hsol) (hyg ▸ hne), fun n hsub => ?_, fun e hex => ?_,
    fun w hw => ?_, fun hw ha => ?_⟩
  · rw [State.arriveAt_cm_ring hslot hp hyo hyk, hdec, ← hyt, ← Slot.atCM_own hother]
    exact List.mem_map_of_mem hy
  · rw [← hys]
    show ((y.solve.map SolveRecord.close).bind (·.solution)) = y.solve.bind (·.solution)
    rw [hr]
    rfl
  · show y.solve.map SolveRecord.close = _
    rw [hr]
    rfl
  · obtain ⟨hsub', hwait⟩ := h.offers n
    rw [State.arriveAt_cm_consoles hslot hyo hp, if_pos hyk, Bank.get_map, if_pos (hsub'.trans hsub)]
    obtain ⟨h1, h2⟩ := (u.consoles.get n).withdraw_withdrawn x.tag (withdrawFrame x.tag .commit)
    exact ⟨h1, fun hroom => h2 (by omega)⟩
  · rw [hsaw] at hex
    split at hex <;> exact (congrArg Exchange.tag (Option.some.inj hex)).symm
  · rw [hsaw, if_pos (by rw [h.waiting w hw]; rfl)]
    exact ⟨rfl, h.waiting w hw⟩
  · rw [hsaw, if_neg (by rw [h.idle hw ha]; nofun)]
    exact ⟨rfl, rfl, rfl⟩

/-- The slots behind come to SD or GW alone. -/
theorem State.Committed.arriveAt (h : s.Committed x u) (hm : u.Moving) (hne : tag ≠ x.tag) (hst : st = .sd ∨ st = .gw) :
    s.Committed x (u.arriveAt tag st) := by
  obtain ⟨⟨y, hy, hyt, hrest⟩, h2, h3, h4, h5, h6, h7⟩ := h
  have hsaw : (u.arriveAt tag st).saw = u.saw :=
    State.arriveAt_saw u tag (by rintro rfl; simp at hst) (by rintro rfl; simp at hst)
  obtain ⟨ex, hends, hother⟩ := hm.arriveAt_other tag st
  have hsame : y.abandonedBy ex = y := Slot.abandonedBy_of_ne fun e he => by
    rcases hends with ⟨rfl, -⟩ | ⟨rfl, hnew⟩
    · cases he
    · rw [hyt, hnew e (hsaw ▸ he)]
      exact hne
  have hpend : ∀ c, u.isPending c = true → (u.arriveAt tag st).isPending c = true := fun c hc =>
    (State.LevelFrame.arriveAt u tag st).pending c hc
  refine ⟨⟨y, hsame ▸ hother y hy (hyt.trans_ne hne.symm), hyt, hrest⟩, fun hn => hpend _ (h2 hn),
    fun sol hsol hg => hpend _ (h3 sol hsol hg), fun n hsub => ?_, hsaw ▸ h5, hsaw ▸ h6, hsaw ▸ h7⟩
  obtain ⟨g1, g2⟩ := h4 n hsub
  have htold := u.arriveAt_told tag st n
  refine ⟨fun f hf => ?_, fun hroom => htold.withdraws _ _ (g2 hroom)⟩
  rcases htold.frames f hf with hf | hf
  · exact g1 f hf
  · exact hf x.tag hne.symm

/-- A BOARD piece whose scan is closed comes to CM at a lug pulse. -/
theorem State.Inv.committed {i : Fin 8} {left : Nat} (hi : s.Inv) (hdue : s.lugDue i left) (hx : x ∈ s.tracker.ring)
    (hk : x.kind = .board) (ho : x.offset + 1 = s.geo.cm) (hp : Station.cm ∉ x.passed) (hopen : x.scan.status ≠ .open) :
    s.Committed x (s.lugTaken i).beforeCreate := by
  have hring := State.lugMoved_ring hi i
  have hmod := hi.geometry.modules_pos
  obtain ⟨-, hall, -⟩ := hi.ring
  have hboard : ∀ z ∈ s.tracker.ring, z.kind = .board → z.offset ≠ 0 := fun z hz hk h0 =>
    absurd (hk.symm.trans ((hall z hz).2.2.mpr h0)) nofun
  have hmoved : x.moved = x.further := Slot.moved_of_pos (hboard x hx hk)
  have hin : x.further ∈ (s.lugMoved i).tracker.ring := by
    rw [hring, ← hmoved]
    exact List.mem_map_of_mem hx
  obtain ⟨-, hsaw, hcon⟩ := (s.lugTaken i).movedOn_keeps
  have htables : (s.lugMoved i).tables = s.tables := (State.LineFrame.movedOn (s.lugTaken i)).tables
  obtain ⟨-, hlug, -⟩ := hdue
  have hinh : (s.lugMoved i).inhibitActive = s.inhibitActive :=
    ((State.LineFrame.movedOn (s.lugTaken i)).inputActive .trimInhibit).trans (State.lugTaken_inputActive hlug nofun)
  refine hi.lugDue_around (i := i) (x := x) (st := .cm) (P := s.TowardCommit x) (Q := s.Committed x) hx ho ?_ ?_ ?_ ?_
  · exact ⟨⟨x.further, hin, rfl, hp⟩, fun n => by rw [hcon]; exact ⟨rfl, Nat.le_refl _⟩, State.RunsHold.movedOn (s.lugTaken i), hinh,
      by rw [hsaw], fun w hw => by rw [hsaw]; exact hw, fun hw _ => by rw [hsaw]; exact hw⟩
  · intro v k tag st' hm hf _ hb hP
    have hvmod : 0 < v.tables.sawBus.modules := by
      rw [hf.tables, htables]
      exact hmod
    rcases hb with ⟨hne, z, hz, rfl, hlt⟩ | ⟨rfl, hlt⟩
    · refine hP.arriveAt hvmod (hP.piece_other hm (fun e => hne (e.trans x.moved_keeps.1.symm)) st') fun ha y hy hyt hyk _ => ?_
      obtain ⟨w, hw, hwt, -, hwp, hwk⟩ := hf.slots y hy
      obtain rfl := Slot.eq_of_tag (hi.lugMoved i).apart.tags hw hz (hwt.trans hyt)
      rw [hring] at hw
      obtain ⟨w0, hw0, rfl⟩ := List.mem_map.mp hw
      rw [Slot.moved_offset, Slot.moved_offset] at hlt
      have hw00 : w0.offset ≠ 0 := by omega
      rw [Slot.moved_of_pos hw00] at hwp hwk
      exact hwp _ (ha w0 hw0 (by omega) (hwk.trans hyk))
    · have hst : st' = .sd ∨ st' = .gw := by
        cases st' <;> simp [Station.rank] at hlt ⊢
      rw [x.moved_keeps.1]
      refine hP.arriveAt hvmod (hP.piece_own hm hopen hst) fun _ y _ _ _ he => ?_
      rcases hst with rfl | rfl <;> cases he
  · intro v k hm hf _ hk2 hP
    exact hP.committed hm (hf.tables.trans htables) hmod hk hopen ho hk2
  · intro v tag st' hm _ _ hne hlt hQ
    refine hQ.arriveAt hm hne ?_
    cases st' <;> simp [Station.rank] at hlt ⊢

end

/-- Settles O37: the piece's own arrival at CM among those of the advance, and the piece whose exchange that ends. -/
theorem arrivalAtCommitFixesTheDecision : Obligations.ArrivalAtCommitFixesTheDecision := by
  intro i left x s hi hdue hx hk ho hp hopen
  obtain ⟨⟨y, hy, hyt, hyc, hwin, hhold, hsol, hsolve⟩, hover, hmiss, hcon, hown, hheld, hbegun⟩ :=
    hi.committed hdue hx hk ho hp hopen
  obtain ⟨hinh, hpat, hfresh⟩ := s.decision_fresh x
  refine ⟨_, y, s.decision x, exec_lugDue hdue, List.mem_append_left _ hy, hyt, hyc, hwin, hhold, hsol, hsolve, fun sol hs => ?_,
    fun hs => ?_, hinh, hpat, hfresh, hcon, fun ex z d hex hz hzt hd z' hz' ht => ?_, hheld, hbegun⟩
  · obtain ⟨h1, h2⟩ := State.decision_of_solution hs s
    have hiff : (s.decision x).overrideMissed = true ↔ sol.generation ≠ x.generation := by rw [h2, bne_iff_ne]
    exact ⟨h1, hiff, fun h => hmiss sol hs (hiff.mp h)⟩
  · obtain ⟨h1, h2, h3⟩ := State.decision_of_none hs s
    refine ⟨h1, hover hs, ?_⟩
    rw [h2, h3]
    cases x.scan.extent with
    | none => rfl
    | some e => exact fallbackDecision_of_extent
  · have hne : ex.tag ≠ x.tag := fun he => by
      obtain rfl := hi.ring.eq_of_tag hz hx (hzt.trans he)
      exact hp (((s.slotsKept_iff.mp hi.slots).1 z hz).kind_board hd).2
    have hold : z' ∈ (s.lugTaken i).beforeCreate.tracker.ring := by
      rcases List.mem_append.mp hz' with h | h
      · exact h
      · rw [List.mem_singleton.mp h] at ht
        have hnew : ((s.lugTaken i).beforeCreate.newSlot false).tag = s.tracker.nextTag := (s.lugTaken i).beforeCreate_nextTag
        have hfresh := State.ringKept.next_fresh hi.ring
        exact absurd (List.mem_map.mpr ⟨z, hz, ht.symm.trans hnew⟩) hfresh
    obtain ⟨d', hd', hcase⟩ := (hi.exchangeFollows (i := i) (st := .cm) hz hd hx ho) z' hold ht
    refine ⟨d', hd', ?_⟩
    rcases hcase with ⟨h, -⟩ | ⟨-, h⟩
    · exact absurd (hown ex (h.trans hex)) hne
    · rw [h, hex]
      exact if_pos hzt.symm

end Sys2Proof.Machine


/-! PROOF. Image loads: how they begin, how the image is judged, and what each end of a load does (R5, R34, R37, R73 to R77, R110; O13). -/

namespace Sys2Proof.Machine

-- One proof after the other: together they would ask for more threads than the check has memory for.
set_option Elab.async false

section
variable {s t u : State}

/-! ## The inputs' changes and the ring -/

/-- What the changes of inputs leave where no lug pulse is taken: all of the tracker but eye flags, the scan intake and the tables. -/
structure State.LugFree (s t : State) : Prop where
  tracker : { t.tracker with ring := s.tracker.ring } = s.tracker
  eyes : (t.tracker.ring.map fun x => { x with eye := true }) = s.tracker.ring.map fun x => { x with eye := true }
  scan : t.scan = s.scan
  tables : t.tables = s.tables

namespace State.LugFree

theorem of_eq (ht : t.tracker = s.tracker) (hs : t.scan = s.scan) (hb : t.tables = s.tables) : s.LugFree t :=
  ⟨by rw [ht], by rw [ht], hs, hb⟩

theorem refl (s : State) : s.LugFree s := of_eq rfl rfl rfl

theorem trans (h : s.LugFree u) (k : u.LugFree t) : s.LugFree t := by
  obtain ⟨h1, h2, h3, h4⟩ := h
  obtain ⟨k1, k2, k3, k4⟩ := k
  refine ⟨?_, k2.trans h2, k3.trans h3, k4.trans h4⟩
  rw [← h1, ← k1]

theorem raise (s : State) (c : Cause) : s.LugFree (s.raise c) :=
  of_eq (State.raise_tracker s c) (State.raise_scan s c) (State.raise_tables s c)

theorem eyeActive (s : State) : s.LugFree s.eyeActive := by
  refine ⟨rfl, ?_, rfl, rfl⟩
  show (List.map _ (List.map _ _)) = _
  rw [List.map_map]
  refine List.map_congr_left fun x _ => ?_
  simp only [Function.comp]
  split <;> rfl

end State.LugFree

/-- New entries turn the input `i`, bound to LUG, to ACTIVE at once (R152). -/
def State.lugTurnsAt (s : State) (old new : Bank 8 InputEntry) (i : Fin 8) : Prop :=
  (new.get i).function = .lug ∧ (old.get i).polarity ≠ (new.get i).polarity ∧ (new.get i).filter = 0
    ∧ rawLevel (new.get i) (s.field.inputs.get i) = true ∧ (s.field.inputs.get i).filtered = false

section
variable {old new : Bank 8 InputEntry} {i : Fin 8}

theorem State.LugFree.inhibitRebound (s : State) (o n : InputEntry) (i : Fin 8) : s.LugFree (s.inhibitRebound o n i) := by
  obtain ⟨-, h2, h3, h4⟩ := s.inhibitRebound_frame o n i
  exact .of_eq h3 h4 h2

/-- An input rewritten that does not turn the lug sensor. -/
theorem State.LugFree.inputRewritten (h : ¬ s.lugTurnsAt old new i) (hb : s.tables.inputs = new) :
    s.LugFree (State.inputRewritten old new s i) := by
  obtain ⟨h1, h2, -⟩ := s.inhibitRebound_frame (old.get i) (new.get i) i
  have hrebound := State.LugFree.inhibitRebound s (old.get i) (new.get i) i
  rw [State.inputRewritten_eq]
  split
  · exact hrebound
  · next hp =>
    have hset : ∀ (u : State) f, u.LugFree (u.setInput i f) := fun u f => .of_eq rfl rfl rfl
    refine hrebound.trans (State.rawChanged_induct (P := State.LugFree _) (fun _ => hset _ _) (fun hraw h0 => ?_) fun _ _ => hset _ _)
    rw [h1, h2, hb] at hraw
    rw [h2, hb] at h0
    refine (hset _ _).trans (State.announceInput_induct (P := State.LugFree _) (.refl _) (fun hf ha => ?_) (fun _ _ => .eyeActive _)
      fun _ _ => .raise _ _)
    rw [h2, hb] at hf
    rw [h1, h2, hb] at ha
    refine absurd ⟨hf, fun e => hp (beq_iff_eq.mpr e), h0, ha, ?_⟩ h
    exact Bool.eq_false_iff.mpr fun hfil => hraw (ha.trans hfil.symm)

/-- An input rewritten that turns the lug sensor: its pulse is taken (R3, R152). -/
theorem State.inputRewritten_of_lugTurns (h : s.lugTurnsAt old new i) (hb : s.tables.inputs = new) :
    ∃ u : State, s.LugFree u ∧ State.inputRewritten old new s i = u.lugPulse := by
  obtain ⟨hf, hp, h0, hraw, hfil⟩ := h
  have hsame : s.inhibitRebound (old.get i) (new.get i) i = s := by
    unfold State.inhibitRebound
    rw [hf]
    rfl
  refine ⟨s.setInput i fun x => { x with filtered := true, timer := none }, .of_eq rfl rfl rfl, ?_⟩
  rw [State.inputRewritten_eq, if_neg (mt beq_iff_eq.mp hp), hsame,
    State.rawChanged_at_once (by rw [hb, hraw, hfil]; nofun) (by rw [hb]; exact h0)]
  unfold State.recognise
  dsimp only
  rw [hb, hraw, hf]
  rfl

theorem State.LugFree.foldl {l : List (Fin 8)} (hn : l.Nodup) (h : ∀ i ∈ l, ¬ s.lugTurnsAt old new i) (hb : s.tables.inputs = new) :
    s.LugFree (l.foldl (State.inputRewritten old new) s) := by
  induction l generalizing s with
  | nil => exact .refl s
  | cons i l ih =>
    obtain ⟨hi, hn⟩ := List.nodup_cons.mp hn
    have hone := State.LugFree.inputRewritten (h i (List.mem_cons_self ..)) hb
    refine hone.trans (ih hn (fun k hk => ?_) ((congrArg Tables.inputs hone.tables).trans hb))
    unfold State.lugTurnsAt
    rw [State.inputRewritten_inputs old new s (i := k) (j := i) fun e => hi (e ▸ hk)]
    exact h k (List.mem_cons_of_mem _ hk)

/-- All inputs rewritten, the lug sensor not turned. -/
theorem State.LugFree.inputsRewritten (h : ∀ i, ¬ s.lugTurnsAt old new i) (hb : s.tables.inputs = new) :
    s.LugFree (s.inputsRewritten old new) :=
  .foldl (List.nodup_finRange 8) (fun i _ => h i) hb

/-- All inputs rewritten, the one lug sensor turned: its pulse is taken among changes that make none. -/
theorem State.inputsRewritten_of_lugTurns (h : s.lugTurnsAt old new i) (hb : s.tables.inputs = new)
    (hone : ∀ k, k ≠ i → (new.get k).function ≠ .lug) :
    ∃ u : State, s.LugFree u ∧ u.lugPulse.LugFree (s.inputsRewritten old new) := by
  obtain ⟨pre, post, hsplit⟩ := List.append_of_mem (List.mem_finRange i)
  have hn := List.nodup_finRange 8
  rw [hsplit, List.nodup_append] at hn
  obtain ⟨hpre, hpost, hapart⟩ := hn
  obtain ⟨hi, hpost⟩ := List.nodup_cons.mp hpost
  have hother : ∀ (v : State) (k : Fin 8), k ≠ i → ¬ v.lugTurnsAt old new k := fun v k hk hl => hone k hk hl.1
  have h1 : s.LugFree (pre.foldl (State.inputRewritten old new) s) :=
    .foldl hpre (fun k hk => hother s k (hapart k hk i (List.mem_cons_self ..))) hb
  have hin : (pre.foldl (State.inputRewritten old new) s).field.inputs.get i = s.field.inputs.get i := by
    have hfold : ∀ (l : List (Fin 8)) (v : State), i ∉ l →
        (l.foldl (State.inputRewritten old new) v).field.inputs.get i = v.field.inputs.get i := by
      intro l
      induction l with
      | nil => exact fun _ _ => rfl
      | cons k l ih =>
        intro v hk
        rw [List.mem_cons, not_or] at hk
        rw [List.foldl_cons, ih _ hk.2, State.inputRewritten_inputs old new v hk.1]
    exact hfold pre s fun hm => hapart i hm i (List.mem_cons_self ..) rfl
  have hb1 := (congrArg Tables.inputs h1.tables).trans hb
  obtain ⟨u, hu, hpulse⟩ := State.inputRewritten_of_lugTurns (s := pre.foldl (State.inputRewritten old new) s) (old := old) (new := new)
    (i := i) (by unfold State.lugTurnsAt; rw [hin]; exact h) hb1
  refine ⟨u, h1.trans hu, ?_⟩
  unfold State.inputsRewritten
  rw [hsplit, List.foldl_append, List.foldl_cons, hpulse]
  refine .foldl hpost (fun k hk => hother _ k fun e => hi (e ▸ hk)) ?_
  rw [(State.InputFrame.lugPulse u).tables, hu.tables]
  exact hb1

end

/-- Tables that pass their checks bind LUG to one input at most (R67). -/
theorem Tables.lug_unique {new : Tables} (h : new.valid = true) {i k : Fin 8} (hi : (new.inputs.get i).function = .lug) (hk : k ≠ i) :
    (new.inputs.get k).function ≠ .lug := by
  intro hf
  have hadmit : (new.inputs.get i).valid new.inputs i = true := by
    obtain ⟨-, -, -, -, -, -, hin, -⟩ := new.mem_entries
    exact Tables.admits_entry h (hin i)
  unfold InputEntry.valid at hadmit
  rw [hi] at hadmit
  simp only [InputFunction.exclusive, Bool.true_and, Bool.and_eq_true, Bool.not_eq_true'] at hadmit
  have := List.any_eq_false.mp hadmit.2 k (List.mem_finRange k)
  rw [hf] at this
  simp [hk] at this

/-! ## Replacements of tables -/

/-- The modules after the tables in force are replaced (R63, R110). -/
theorem State.applyTables_modules (s : State) (new : Tables) : s.modulesFollow (s.applyTables new) new := by
  obtain ⟨-, -, -, -, -, -, -, -, -, hm, hp⟩ := s.beforeInputs_keeps new
  refine ⟨fun m => ?_, fun hlt => State.InputRel.pendingKept.inputsRewritten _ _ _ _ (hp hlt)⟩
  rw [(s.applyTables_inputFrame new).modules]
  exact hm m

/-- pos, the heads and the ring after the tables in force are replaced, no lug sensor turned (R16, R22, R34). -/
theorem State.applyTables_of_not_lugTurns {new : Tables} (h : ¬ s.lugTurnsWith new) :
    { (s.applyTables new).tracker with ring := s.tracker.ring } =
        { s.tracker with pos := min s.tracker.pos (new.geometry.windowEnd - 1) }
      ∧ s.headsFollow (s.applyTables new) new
      ∧ ((s.applyTables new).tracker.ring.map fun x => { x with eye := true }) = s.tracker.ring.map fun x => { x with eye := true } := by
  obtain ⟨htr, -, -, -, -, hin, -, hheads, -⟩ := s.beforeInputs_keeps new
  obtain ⟨h1, h2, h3, -⟩ := State.LugFree.inputsRewritten (s := s.beforeInputs new) (old := s.tables.inputs) (new := new.inputs)
    (fun i hl => h ⟨i, by unfold State.lugTurnsAt at hl; rwa [hin] at hl⟩) (congrArg Tables.inputs (s.beforeInputs_tables new))
  rw [← State.applyTables_eq_inputsRewritten] at h1 h2 h3
  rw [htr] at h1 h2
  exact ⟨h1, fun k => by rw [h3]; exact hheads k, h2⟩

/-- pos and the heads where the replacement turns the lug sensor: its pulse is taken at the new pos (R3, R152). -/
theorem State.applyTables_of_lugTurns {new : Tables} (h : s.lugTurnsWith new) (hv : new.valid = true) (hl : s.tracker.line ≠ .starting) :
    let pos := min s.tracker.pos (new.geometry.windowEnd - 1)
    let edge := new.geometry.lugPitch - new.geometry.halfWidth
    ((s.applyTables new).tracker.pos, (s.applyTables new).tracker.lastAdvance) =
        (if edge ≤ pos then (0, .sensed)
        else if pos ≤ new.geometry.halfWidth ∧ s.tracker.lastAdvance = .synthesized false then (0, .synthesized true)
        else (pos, s.tracker.lastAdvance))
      ∧ (pos < edge → s.headsFollow (s.applyTables new) new) := by
  intro pos edge
  obtain ⟨i, hi⟩ := h
  obtain ⟨htr, -, -, -, -, hin, -, hheads, -⟩ := s.beforeInputs_keeps new
  obtain ⟨u, hu, hpulse⟩ := State.inputsRewritten_of_lugTurns (s := s.beforeInputs new) (old := s.tables.inputs) (new := new.inputs) (i := i)
    (by unfold State.lugTurnsAt; rw [hin]; exact hi) (congrArg Tables.inputs (s.beforeInputs_tables new))
    fun k hk => Tables.lug_unique hv hi.1 hk
  rw [← State.applyTables_eq_inputsRewritten] at hpulse
  obtain ⟨hutr, -, huscan, hutab⟩ := hu
  rw [htr] at hutr
  have hupos : u.tracker.pos = pos := (congrArg Tracker.pos hutr :)
  have hulast : u.tracker.lastAdvance = s.tracker.lastAdvance := (congrArg Tracker.lastAdvance hutr :)
  have huline : u.tracker.line = s.tracker.line := (congrArg Tracker.line hutr :)
  have hugeo : u.geo = new.geometry := congrArg Tables.geometry (hutab.trans (s.beforeInputs_tables new))
  obtain ⟨htr', -, hscan', -⟩ := hpulse
  have hpos' : (s.applyTables new).tracker.pos = u.lugPulse.tracker.pos := (congrArg Tracker.pos htr' :)
  have hlast' : (s.applyTables new).tracker.lastAdvance = u.lugPulse.tracker.lastAdvance := (congrArg Tracker.lastAdvance htr' :)
  have hfollow : u.lugPulse.scan = u.scan → s.headsFollow (s.applyTables new) new := fun he k => by
    rw [hscan', he, huscan]
    exact hheads k
  rw [hpos', hlast']
  rcases u.lugPulse_cases with ⟨hs, -⟩ | ⟨-, hp, he⟩ | ⟨-, hp, hw, hun, he⟩ | ⟨-, hp, hno, he⟩
  · exact absurd (huline.symm.trans hs) hl
  · rw [hugeo, hupos] at hp
    rw [he, if_pos hp]
    exact ⟨rfl, fun h => absurd hp (Nat.not_le.mpr h)⟩
  · rw [hugeo, hupos] at hp
    rw [hugeo, hupos] at hw
    rw [if_neg (Nat.not_le.mpr hp), if_pos ⟨hw, hulast.symm.trans hun⟩]
    exact ⟨by rw [he]; rfl, fun _ => hfollow (by rw [he]; rfl)⟩
  · rw [hugeo, hupos] at hp
    rw [hugeo, hupos, hulast] at hno
    rw [if_neg (Nat.not_le.mpr hp), if_neg hno]
    exact ⟨by rw [he, State.raise_tracker, hupos, hulast], fun _ => hfollow (by rw [he, State.raise_scan])⟩

/-! ## The judgement -/

/-- A memory without the signature, and one whose header is not right (R73). -/
theorem judgeImage_of_not_header (m : List Host.Cell) :
    (memRead m 0 ≠ 0xC9 → judgeImage m = .noSignature)
      ∧ (memRead m 0 = 0xC9 →
          (memRead m 1 ≠ 1 ∨ word (memRead m 2) (memRead m 3) ≠ 1396
            ∨ word (memRead m 4) (memRead m 5) ≠ crc16 ([1, 5, 0x74] ++ memReadBytes m 6 1390)) →
          judgeImage m = .badCrc) := by
  refine ⟨fun h => if_pos h, fun h0 h => ?_⟩
  refine (if_neg (not_not_intro h0)).trans ?_
  by_cases h12 : memRead m 1 ≠ 1 ∨ word (memRead m 2) (memRead m 3) ≠ 1396
  · exact if_pos h12
  · refine (if_neg h12).trans (if_pos ?_)
    exact (or_assoc.mpr h).resolve_left h12

/-- An image judged GOOD has tables that pass their checks. -/
theorem valid_of_judgeImage {m : List Host.Cell} {new : Tables} (h : judgeImage m = .good new) : new.valid = true := by
  unfold judgeImage at h
  dsimp only at h
  split at h
  · cases h
  · split at h
    · cases h
    · split at h
      · cases h
      · split at h
        · split at h
          · next hv =>
            cases h
            exact hv
          · cases h
        · cases h

/-! ## The ends of a load -/

/-- The image status that goes with a load that brought no tables (R74). -/
def LoadOutcome.failedStatus : LoadOutcome → ImageStatus
  | .badCrc => .fault
  | _ => .defaults

/-- A load that brings no tables sets the image status and raises IMAGE_FAULT (R74). -/
theorem State.loadOutcome_failed {o : LoadOutcome} (h : ∀ new, o ≠ .good new) (s : State) :
    s.loadOutcome o = (s.setStore fun x => { x with status := o.failedStatus }).raise .imageFault := by
  cases o with
  | good new => exact absurd rfl (h new)
  | noSignature | noAnswer | badCrc => rfl

theorem State.endRequested_failed {o : LoadOutcome} (h : ∀ new, o ≠ .good new) (s : State) (ft : Byte) :
    s.endRequested ft o =
      ((s.setCtl fun c => { c with inProcess := none }).loadOutcome o).refuse imageLoadKind ft .imageFault := by
  cases o with
  | good new => exact absurd rfl (h new)
  | noSignature | noAnswer | badCrc => rfl

/-- The three ways a load fails. -/
theorem exec_failedLoad {p : Instr × LoadOutcome × ImageStatus} {s : State}
    (hp : p ∈ [(Instr.imageLoadEnd, LoadOutcome.noSignature, ImageStatus.defaults), (.imageLoadEnd, .badCrc, .fault),
      (.imageReadTimeout, .noAnswer, .defaults)])
    (hj : p.1 = .imageLoadEnd → judgeImage s.store.memory = p.2.1) :
    exec p.1 s = .next (s.endLoad p.2.1) ∧ (∀ new, p.2.1 ≠ .good new) ∧ p.2.1.failedStatus = p.2.2 := by
  simp only [List.mem_cons, List.not_mem_nil, or_false] at hp
  rcases hp with rfl | rfl | rfl
  · rw [exec_eq_after, State.after_imageLoadEnd, hj rfl]
    exact ⟨rfl, nofun, rfl⟩
  · rw [exec_eq_after, State.after_imageLoadEnd, hj rfl]
    exact ⟨rfl, nofun, rfl⟩
  · exact ⟨by rw [exec_eq_after, State.after_imageReadTimeout], nofun, rfl⟩

/-- A start-up load ends GOOD (R5, R37, R74). -/
theorem startUpLoad_good {new : Tables} (ha : s.store.activity = .loading .startUp) (hj : judgeImage s.store.memory = .good new) :
    ∃ t, exec .imageLoadEnd s = .next t ∧ t.tables = new
      ∧ t.store = { s.store with activity := .idle, status := .loaded, editMark := false }
      ∧ s.modulesFollow t new
      ∧ (t.tracker.line, t.tracker.runUp, t.tracker.stopTimer, t.tracker.advanceTimes) = (.stopped, 0, none, [])
      ∧ ∀ h : Fin 4, t.scan.heads.get h =
          { status := if (new.heads.get h).enabled then .up else .disabled, misses := 0 } := by
  have hexec : exec .imageLoadEnd s = .next ((s.setStore fun t => { t with activity := .idle }).endStartUp (.good new)) := by
    rw [exec_eq_after, State.after_imageLoadEnd, hj, State.endLoad, ha]
  let r := s.setStore fun t => { t with activity := .idle }
  have htab := r.applyTables_tables_eq new
  have hstore := r.applyTables_store new
  obtain ⟨hm, hp⟩ := r.applyTables_modules new
  unfold State.endStartUp State.loadOutcome at hexec
  change exec .imageLoadEnd s = .next (((((r.applyTables new).setStore fun x => { x with status := .loaded, editMark := false }).setScan
    fun i => { i with heads := (r.applyTables new).tables.heads.map freshHead }).enterStopped)) at hexec
  generalize r.applyTables new = v at hexec htab hstore hm hp
  rw [htab] at hexec
  refine ⟨_, hexec, htab, ?_, ⟨hm, hp⟩, rfl, fun h => Bank.get_map _ _ h⟩
  exact congrArg (fun x : Store => { x with status := .loaded, editMark := false }) hstore

/-- A start-up load that brings no tables (R5, R37, R74). -/
theorem startUpLoad_failed {o : LoadOutcome} (ha : s.store.activity = .loading .startUp) (ho : ∀ new, o ≠ .good new) :
    (s.endLoad o).tables = s.tables ∧ (s.endLoad o).store = { s.store with activity := .idle, status := o.failedStatus }
      ∧ ((s.endLoad o).tracker.line, (s.endLoad o).tracker.runUp, (s.endLoad o).tracker.stopTimer, (s.endLoad o).tracker.advanceTimes) =
          (.stopped, 0, none, [])
      ∧ (s.endLoad o).isPending .imageFault = true
      ∧ ∀ h : Fin 4, (s.endLoad o).scan.heads.get h =
          { status := if (s.tables.heads.get h).enabled then .up else .disabled, misses := 0 } := by
  have he : s.endLoad o = (s.setStore fun t => { t with activity := .idle }).endStartUp o := by rw [State.endLoad, ha]
  rw [he, State.endStartUp, State.loadOutcome_failed ho]
  let r := (s.setStore fun t => { t with activity := .idle }).setStore fun x => { x with status := o.failedStatus }
  have htab : (r.raise .imageFault).tables = s.tables := State.raise_tables r _
  have hstore : (r.raise .imageFault).store = { s.store with activity := .idle, status := o.failedStatus } := State.raise_store r _
  refine ⟨htab, hstore, rfl, (r.raise_isPending .imageFault).1, fun h => ?_⟩
  show ((r.raise .imageFault).tables.heads.map freshHead).get h = _
  rw [htab]
  exact Bank.get_map _ _ h

/-- A requested load that brings no tables (R75). -/
theorem requestedLoad_failed {o : LoadOutcome} {ft : Byte} (ha : s.store.activity = .loading (.request ft)) (ho : ∀ new, o ≠ .good new) :
    (s.endLoad o).ctl.inProcess = none
      ∧ (s.endLoad o).store = { s.store with activity := .idle, status := o.failedStatus }
      ∧ (s.endLoad o).isPending .imageFault = true
      ∧ (s.endLoad o).ctl.replies = s.ctl.replies ++ [{ kind := 0xFF, tag := ft, payload := [8, 9] }]
      ∧ { s.endLoad o with store := s.store, ctl := s.ctl, field := s.field } = s ∧ (s.endLoad o).field.inputs = s.field.inputs := by
  have he : s.endLoad o = (s.setStore fun t => { t with activity := .idle }).endRequested ft o := by rw [State.endLoad, ha]
  rw [he, State.endRequested_failed ho, State.loadOutcome_failed ho]
  let r := ((s.setStore fun t => { t with activity := .idle }).setCtl fun c => { c with inProcess := none }).setStore fun x =>
    { x with status := o.failedStatus }
  refine ⟨State.raise_inProcess r _, State.raise_store r _, (r.raise_isPending .imageFault).1, ?_, ?_, State.raise_inputs r _⟩
  · exact congrArg (· ++ [refusedFrame imageLoadKind ft .imageFault]) (State.raise_replies r .imageFault)
  · exact (congrArg (fun u : State => { u with store := s.store, ctl := s.ctl, field := s.field }) (r.raise_keeps .imageFault).1 :)

/-- A requested load of a GOOD image under the editing condition (R75). -/
theorem requestedLoad_good {new : Tables} {ft : Byte} (ha : s.store.activity = .loading (.request ft))
    (hj : judgeImage s.store.memory = .good new) (hl : s.tracker.line = .stopped) (hb : s.hasBoard = false) :
    exec .imageLoadEnd s =
      .next
        (((((s.setStore fun t => { t with activity := .idle }).setCtl fun c => { c with inProcess := none }).applyTables new).setStore
          fun x => { x with status := .loaded, editMark := false }).ok imageLoadKind ft [ImageStatus.loaded.code]) := by
  rw [exec_eq_after, State.after_imageLoadEnd, hj, State.endLoad, ha]
  refine congrArg _ (if_pos ?_)
  exact ((s.setStore fun t => { t with activity := .idle }).setCtl fun c => { c with inProcess := none }).editable_iff.mpr ⟨hl, hb⟩

/-- IMAGE LOAD taken (R75, R77). -/
theorem exec_imageLoad (h : s.serving) (ft : Byte) :
    exec (.imageLoad ft []) s = .next ((s.received .control []).loadImage ft) := by
  rw [exec_eq_after, State.after_imageLoad, show hasLength [] 0 = true from rfl, State.request_serving h]

end

/-- Settles O13: the load's begin, the judgement of the image, and the ends of a start-up and of a requested load. -/
theorem imageLoadsAndTheirEnds : Obligations.ImageLoadsAndTheirEnds := by
  refine ⟨fun ft s h => ⟨fun hidle hl hb => ?begun, fun hidle => ?busy, fun hidle hed => ?state⟩, fun m => ?judged,
    fun new s ha hj => startUpLoad_good ha hj, fun s ha p hp hj => ?startUpFailed,
    fun ft s ha => ⟨fun new hj hl hb => ?good, fun new hj hed => ?notEditable, fun p hp hj => ?failed⟩⟩
  case begun =>
    rw [exec_imageLoad h, State.loadImage, show (s.received .control []).imageIdle = s.imageIdle from rfl, hidle,
      (s.received .control []).editable_iff.mpr ⟨hl, hb⟩]
    rfl
  case busy =>
    rw [exec_imageLoad h, State.loadImage, show (s.received .control []).imageIdle = s.imageIdle from rfl, hidle]
    rfl
  case state =>
    have hne : (s.received .control []).editable = false := Bool.eq_false_iff.mpr (mt (State.editable_iff _).mp hed)
    rw [exec_imageLoad h, State.loadImage, show (s.received .control []).imageIdle = s.imageIdle from rfl, hidle, hne]
    rfl
  case judged =>
    obtain ⟨h1, h2⟩ := judgeImage_of_not_header m
    exact ⟨h1, h2, judgeImage_of_entries⟩
  case startUpFailed =>
    obtain ⟨he, ho, hs⟩ := exec_failedLoad hp hj
    obtain ⟨h1, h2, h3⟩ := startUpLoad_failed ha ho
    exact ⟨_, he, h1, hs ▸ h2, h3⟩
  case good =>
    let r := (s.setStore fun t => { t with activity := .idle }).setCtl fun c => { c with inProcess := none }
    have hexec := requestedLoad_good ha hj hl hb
    have htab := r.applyTables_tables_eq new
    have hstore := r.applyTables_store new
    have hproc := r.applyTables_inProcess new
    have hreplies := r.applyTables_replies new
    have hmod := r.applyTables_modules new
    have hstill : ¬ s.lugTurnsWith new → _ := fun h => State.applyTables_of_not_lugTurns (s := r) h
    have hturns : s.lugTurnsWith new → _ := fun h => State.applyTables_of_lugTurns (s := r) h (valid_of_judgeImage hj) (hl ▸ nofun)
    change exec .imageLoadEnd s = .next (((r.applyTables new).setStore fun x => { x with status := .loaded, editMark := false }).ok
      imageLoadKind ft [ImageStatus.loaded.code]) at hexec
    generalize r.applyTables new = v at hexec htab hstore hproc hreplies hmod hstill hturns
    exact ⟨_, hexec, htab, hproc, congrArg (fun x : Store => { x with status := .loaded, editMark := false }) hstore,
      congrArg (· ++ [okFrame imageLoadKind ft [ImageStatus.loaded.code]]) hreplies, hmod, hstill, hturns⟩
  case notEditable =>
    have hne : ((s.setStore fun t => { t with activity := .idle }).setCtl fun c => { c with inProcess := none }).editable = false :=
      Bool.eq_false_iff.mpr (mt (State.editable_iff _).mp hed)
    rw [exec_eq_after, State.after_imageLoadEnd, hj, State.endLoad, ha]
    exact congrArg _ (if_neg (by rw [hne]; nofun))
  case failed =>
    obtain ⟨he, ho, hs⟩ := exec_failedLoad hp hj
    obtain ⟨h1, h2, h3⟩ := requestedLoad_failed ha ho
    exact ⟨_, he, h1, hs ▸ h2, h3⟩

end Sys2Proof.Machine
